-- ==== Sys2Proof/Word.lean ====
section
/-! DEFINITION. The words of the machine: a payload byte, the millisecond tick, the key of a frame. -/

namespace Sys2Proof

/-- One payload byte of a notice (R79). -/
abbrev Byte := BitVec 8

/-- The station's 32-bit free-running millisecond counter (chapter 0, section 4.1). -/
abbrev Tick := BitVec 32

/-- The 20-bit key in the low part of an arbitration field (R56). -/
abbrev Key := BitVec 20

end Sys2Proof
end

