-- ==== Sys2Proof/Syntax.lean ====
section
/-! DEFINITION. The commands of the block: one constructor for each row of spec/opcode_table.json, and the
types of their operands. -/

namespace Sys2Proof

/-- A frame of the store bus as its fields (R56, R79): kind, key and payload; the length is the payload's. -/
structure Frame where
  kind : BitVec 4
  key : Key
  payload : List Byte
  deriving DecidableEq, Repr

/-- The errors a station can meet in a frame (R64), with the three places of a shape error kept apart because
R67 counts the end field otherwise, and the failed room test of R74. -/
inductive BusError where
  /-- A bit sent that is read at the other level; met by the transmitter. -/
  | echo
  /-- A run of 7 equal bits in the stuffed part. -/
  | pattern
  /-- The check read differs from the one computed; met by a receiver. -/
  | check
  /-- A length of 13..15. -/
  | shapeLength
  /-- A dominant acknowledge delimiter. -/
  | shapeDelimiter
  /-- A dominant bit in the end field of a frame in which no earlier error was met. -/
  | shapeEnd
  /-- The acknowledge slot read recessive; met by the transmitter. -/
  | acknowledgeMissing
  /-- A dominant bit in the station's own error delimiter (R65), which is no further error. -/
  | delimiter
  /-- The room test at the first bit of the end field found 16 frames in the receive queue (R74). -/
  | roomTest
  deriving DecidableEq, Repr

/-- What the read of the configuration memory and the straps gave (R186, R187): whether the memory answered,
whether its check matched, the six straps, and the raw values row by row of R186. -/
structure ConfigRead where
  answered : Bool
  checkGood : Bool
  straps : BitVec 6
  carriers : Nat
  bays : Nat
  height : Nat
  bitRate : Nat
  ka : Nat
  kt : Nat
  kb : Nat
  limit : Nat
  tau : Nat
  claimWindow : Nat
  infeedTimeout : Nat
  holdLimit : Nat
  dwell : Nat
  pitchTime : Nat
  motionMargin : Nat
  approach : Nat
  engageMin : Nat
  withdrawTime : Nat
  extensionMax : Nat
  releaseTimeout : Nat
  idleDelay : Nat
  deriving DecidableEq, Repr

/-- A claim round: a pick round by order and line, a putaway round by its number (R94). -/
inductive RoundId where
  | pick (order line : Nat)
  | putaway (number : Nat)
  deriving DecidableEq, Repr

/-- A record of the retained memory that has a write state of its own (R18, R19). -/
inductive RetainedId where
  | carrier (c : Nat)
  | article (slot : Nat)
  deriving DecidableEq, Repr

/-- The commands, in the order of the table. A notice command takes the frame at the head of the receive
queue, so it has no operand of its own; a timer command names the record whose timer runs out; a line command
carries the level of a line that has no row for one of its edges. Recessive bits are `true` (R55). -/
inductive Instr where
  | powerUp
  | resetAssert
  | resetRelease
  /-- The values the read gave. -/
  | configReadEnd (read : ConfigRead)
  | laneClearAsserted
  | laneClearFall
  /-- Whether the infeed occupancy sensor is asserted at the join. -/
  | join (infeedOccupied : Bool)
  | takeOut
  | frameResend
  | arbitrationLost
  /-- The bits read off the bus from the start bit through the stuff bit, if any, after the check, for a frame
  of another node; not looked at when the station itself is the transmitter. -/
  | frameCompleted (bits : List Bool)
  | frameError (error : BusError)
  | dominantRun16
  /-- Whether the delay signal of another station is read in this gap. -/
  | delaySignal (heard : Bool)
  /-- The recessive stretches read since the last such command, each but the last ended by a dominant bit. -/
  | rejoin (stretches : List Nat)
  | noticeRejected
  | statusFrameDiscarded
  | abnTaken
  | rdyTaken
  | clsTaken
  | clmTaken
  | opnTaken
  | lofTaken
  | pofTaken
  | cctHold
  | cctUnhold
  | cctHoldAll
  | cctUnholdAll
  | cctRetire
  | cctUnretire
  | cctClearQuarantine
  | cctSetCount
  | sctResume
  | arqByRange
  | arqByArticle
  | sqyTaken
  | claimWindowExpiry (round : RoundId)
  | infeedTimeout (putaway : Nat)
  | retainedWriteComplete (record : RetainedId)
  | reversalDwellExpiry
  | motionTimerExpiry
  | index
  | home
  | inPos
  | approachEnd
  /-- Whether EXT_BUSY is asserted when the engage minimum has elapsed. -/
  | engageMinimumEnd (extBusy : Bool)
  | extBusyClear
  | extensionMaximumExpiry
  /-- Whether the infeed occupancy sensor is asserted when the cycle ends. -/
  | cycleEnd (infeedOccupied : Bool)
  | headOccClear
  | headOccAsserted
  | laneTimerExpiry
  | laneExitPulse
  | infeedArrival
  | infeedOccFall
  /-- The height in mm the gauge answers, 0..4095. -/
  | gaugeAnswer (height : BitVec 12)
  | gaugeReadTimeout
  | idleTimerExpiry
  | holdTimerExpiry (order : Nat)
  | svcReqRise
  | svcReqFall
  | powerLoss
  | elevenRecessiveBitsAfterRejoin
  deriving DecidableEq, Repr

end Sys2Proof
end

