-- ==== Sys2Proof/WellFormed.lean ====
section
/-! DEFINITION. Which commands are well formed: the ranges of their operands as the spec gives them. -/

namespace Sys2Proof

/-- Order numbers and putaway numbers are 1..65535 (chapter 0, section 5.1). -/
def numberOk (n : Nat) : Bool := decide (1 ≤ n ∧ n ≤ 65535)

/-- A round: order and line of R95, or the putaway number of R96. A record of putaway number 0 can come from a POF all the
same (log entry 47). -/
def RoundId.ok : RoundId → Bool
  | .pick order line => numberOk order && decide (1 ≤ line ∧ line ≤ 16)
  | .putaway number => numberOk number

/-- One carrier record for each of at most 96 carriers, one article record for each of 64 slots (R18). -/
def RetainedId.ok : RetainedId → Bool
  | .carrier c => decide (c < 96)
  | .article slot => decide (slot < 64)

/-- A payload is 0..12 bytes long (R56). -/
def Frame.ok (f : Frame) : Bool := decide (f.payload.length ≤ 12)

/-- The stuffed part of a frame is 45..169 bits long (chapter 4, Frame lengths). -/
def wireLengthOk (bits : List Bool) : Bool := decide (45 ≤ bits.length ∧ bits.length ≤ 169)

/-- The operands of a command lie in their ranges. -/
def Instr.wellFormed : Instr → Bool
  | .frameCompleted bits => wireLengthOk bits
  | .rejoin stretches => decide (stretches ≠ [])
  | .claimWindowExpiry round => round.ok
  | .infeedTimeout number => numberOk number
  | .holdTimerExpiry order => numberOk order
  | .retainedWriteComplete record => record.ok
  | .powerUp | .resetAssert | .resetRelease | .configReadEnd _ | .laneClearAsserted | .laneClearFall
  | .join _ | .takeOut | .frameResend | .arbitrationLost | .frameError _ | .dominantRun16 | .delaySignal _
  | .noticeRejected | .statusFrameDiscarded | .abnTaken | .rdyTaken | .clsTaken | .clmTaken | .opnTaken
  | .lofTaken | .pofTaken | .cctHold | .cctUnhold | .cctHoldAll | .cctUnholdAll | .cctRetire | .cctUnretire
  | .cctClearQuarantine | .cctSetCount | .sctResume | .arqByRange | .arqByArticle | .sqyTaken
  | .reversalDwellExpiry | .motionTimerExpiry | .index | .home | .inPos | .approachEnd
  | .engageMinimumEnd _ | .extBusyClear | .extensionMaximumExpiry | .cycleEnd _ | .headOccClear
  | .headOccAsserted | .laneTimerExpiry | .laneExitPulse | .infeedArrival | .infeedOccFall
  | .gaugeAnswer _ | .gaugeReadTimeout | .idleTimerExpiry | .svcReqRise | .svcReqFall | .powerLoss
  | .elevenRecessiveBitsAfterRejoin => true

end Sys2Proof
end

