-- ==== Sys2Proof/Config.lean ====
section
/-! DEFINITION. The configuration values of R186 and the station number, as the blocks use them: clamped. They
are read at step 1 of start and fixed until the next start, so they stand in the state. -/

namespace Sys2Proof

/-- The values of R186 after clamping, and the station number of the straps. Times in ms, but the infeed
timeout, the hold limit, the release timeout and the idle audit delay in s. -/
structure Config where
  station : Nat
  n : Nat
  b : Nat
  h : Nat
  bitRate : Nat
  ka : Nat
  kt : Nat
  kb : Nat
  limit : Nat
  tau : Nat
  claimWindow : Nat
  infeedTimeout : Nat
  holdLimit : Nat
  dwell : Nat
  pitchTime : Nat
  motionMargin : Nat
  approach : Nat
  engageMin : Nat
  withdrawTime : Nat
  extensionMax : Nat
  releaseTimeout : Nat
  idleDelay : Nat
  deriving DecidableEq, Repr

/-- The values before step 1 of start has read them. DESIGN CHOICE (log entry 1): the low end of each range
of R186, station number 0. No block uses them before they are read. -/
def Config.atReset : Config where
  station := 0
  n := 16
  b := 1
  h := 300
  bitRate := 0
  ka := 0
  kt := 0
  kb := 0
  limit := 100
  tau := 0
  claimWindow := 5
  infeedTimeout := 5
  holdLimit := 10
  dwell := 0
  pitchTime := 100
  motionMargin := 500
  approach := 100
  engageMin := 100
  withdrawTime := 100
  extensionMax := 0
  releaseTimeout := 2
  idleDelay := 0

end Sys2Proof
end

