-- ==== Sys2Proof/Machine/State.lean ====
section
/-! DEFINITION. The state of the station, block by block as chapter 0, section 2 lists the blocks, the queue of
commands waiting, and the state after reset. All of it is plain data. -/

namespace Sys2Proof.Machine

/-! ### Stops. No rule of the spec stops the block: every event has a next state (log entry 3). -/

/-- A command never faults: the station's own faults (R194) are values of its state. Nothing raises this type. -/
inductive Fault where
  deriving DecidableEq, Repr

/-- Why a command is turned away without a meaning. -/
inductive Refusal where
  /-- Raised by `exec` alone, for a row that has no meaning yet; safe. No arm raises it now. -/
  | notModelled (mnemonic : String)
  deriving DecidableEq, Repr

/-! ### Names -/

/-- The supply and the RESET line (R185, R20). -/
inductive Power where
  | on
  | inReset
  | off
  deriving DecidableEq, Repr

/-- The mode of the station (R185). -/
inductive Mode where
  | starting
  | running
  | service
  | halted
  deriving DecidableEq, Repr

/-- Where start stands (R187, R188): reading the configuration, waiting for LANE_CLEAR, homing, joining the bus,
ended, or stopped on CONFIG_BAD. -/
inductive StartStep where
  | configRead
  | laneWait
  | homing
  | joining
  | done
  | configBad
  deriving DecidableEq, Repr

/-- The service hold (R185). -/
inductive Hold where
  | none
  | waiting
  | acked
  deriving DecidableEq, Repr

/-- The faults of R194. -/
inductive StationFault where
  | motionTimeout
  | homeMismatch
  | extractorRepeat
  | releaseTimeout
  | extractorTimeout
  | infeedSurplus
  | stagingStuck
  | configBad
  deriving DecidableEq, Repr

/-- The bus standings (R68). -/
inductive Standing where
  | active
  | caution
  | quiet
  | withdrawn
  deriving DecidableEq, Repr

/-- The fourteen notice kinds (R78). -/
inductive Kind where
  | abn
  | rdy
  | cls
  | clm
  | opn
  | lof
  | pof
  | cct
  | sct
  | arq
  | arp
  | sqy
  | san
  | sts
  deriving DecidableEq, Repr

/-- The station's part in a frame (R63, R67). -/
inductive Role where
  | transmitter
  | receiver
  deriving DecidableEq, Repr

/-- An error signal of the station (R65): its part in the frame that met the error, and whether the signal was active. -/
structure OwnSignal where
  role : Role
  active : Bool
  deriving DecidableEq, Repr

/-- The gap that the bus is in (R59, R75): none, or the 3 recessive bits after the end field of a completed frame,
after an error delimiter, or after a delay delimiter. -/
inductive Gap where
  | none
  | afterFrame
  | afterError
  | afterDelay
  deriving DecidableEq, Repr

/-- The lock reasons (R23). -/
inductive Reason where
  | unverified
  | audit
  | touched
  | quarantine
  | held
  | retired
  deriving DecidableEq, Repr

/-- The grades of a reading (R80, R175). -/
inductive Grade where
  | none
  | clean
  | adjusted
  | discrepant
  | unsure
  deriving DecidableEq, Repr

/-- The audit-due reason of a carrier (R7). -/
inductive Due where
  | none
  | request
  | cyclic
  deriving DecidableEq, Repr

/-- The purpose of a SCAN (R115). -/
inductive Purpose where
  | start
  | touched
  | request
  | cyclic
  deriving DecidableEq, Repr

/-- The causes under which the station posts an ABN (R158). -/
inductive Cause where
  | holdExpired
  | stockLost
  | stationHalted
  deriving DecidableEq, Repr

/-- A direction of the carousel (R121). -/
inductive Dir where
  | forward
  | backward
  deriving DecidableEq, Repr

/-! ### Stock map, lock table, retained memory -/

/-- A bay's binding (R5). -/
structure Binding where
  article : Nat
  week : Nat
  deriving DecidableEq, Repr

/-- A bay record (R5). -/
structure Bay where
  binding : Option Binding
  count : Nat
  reserved : Nat
  incoming : Nat
  grade : Grade
  unsureOnce : Bool
  deriving DecidableEq, Repr

/-- A lock reason set (R23): each reason is in it or not. -/
structure LockSet where
  unverified : Bool
  audit : Bool
  touched : Bool
  quarantine : Bool
  held : Bool
  retired : Bool
  deriving DecidableEq, Repr

/-- What the retained record of a carrier keeps of a bay (R18). -/
structure BayImage where
  binding : Option Binding
  count : Nat
  deriving DecidableEq, Repr

/-- The contents of a retained carrier record (R18). -/
structure CarrierImage where
  bays : List BayImage
  quarantine : Bool
  held : Bool
  retired : Bool
  faults : Nat
  deriving DecidableEq, Repr

/-- An article table entry (R3). -/
structure Article where
  code : Nat
  unitMass : Nat
  pitch : Nat
  deriving DecidableEq, Repr

/-- The contents of the retained header (R18): N, B and H. -/
structure Header where
  n : Nat
  b : Nat
  h : Nat
  deriving DecidableEq, Repr

/-- A record of the retained memory: failing its check, or good with its contents (R18, R20). -/
inductive Stored (α : Type) where
  | failed
  | good (a : α)
  deriving DecidableEq, Repr

/-- The write state of a retained record (R19), with the values the write in flight carries. -/
inductive WriteState (α : Type) where
  | idle
  | writing (values : α)
  | writingNewerWaiting (values : α)
  deriving DecidableEq, Repr

/-- The retained memory (R18): the header, one record for each of 96 carrier places, one for each of 64 article
table slots. It outlives a power loss and a RESET. -/
structure Retained where
  header : Stored Header
  carriers : List (Stored CarrierImage)
  articles : List (Stored (Option Article))
  deriving DecidableEq, Repr

/-- A carrier record (R7), with its bays, its rescan want (R169) and its write state (R19). -/
structure Carrier where
  bays : List Bay
  locks : LockSet
  faults : Nat
  due : Due
  mass : Nat
  rescan : Option Purpose
  write : WriteState CarrierImage
  deriving DecidableEq, Repr

/-- The Stock Map and the Lock Table: N carrier records, the 64 slots of the article table with their write
states, and the imbalance I (R2, R3, R19, R40). -/
structure Smap where
  carriers : List Carrier
  articles : List (Option Article)
  articleWrites : List (WriteState (Option Article))
  imbalance : Nat
  deriving DecidableEq, Repr

/-- A bay address (R2). -/
structure BayAddr where
  carrier : Nat
  bay : Nat
  deriving DecidableEq, Repr

/-! ### Bus interface -/

/-- An occupied post slot (R84): PENDING, or ON_BUS when `onBus`. The handle names this one post; a lower handle
is an older post. A FREE slot is one of the 12 that no post occupies. -/
structure Post where
  handle : Nat
  kind : Kind
  key : Key
  payload : List Byte
  onBus : Bool
  deriving DecidableEq, Repr

/-- The Bus Interface (R59, R67, R68, R70, R72, R73, R75, R77, R84, R89). -/
structure Bus where
  tec : Nat
  recCtr : Nat
  standing : Standing
  /-- The occupied post slots, oldest post first; 12 slots less these are FREE. -/
  posts : List Post
  /-- The handle of the next post. MODEL: handles are numbered. -/
  nextHandle : Nat
  /-- The owed set, in kind order. -/
  owed : List Kind
  /-- The receive queue, oldest first. -/
  rxq : List Frame
  /-- Delay signals in the present gap, of any station. -/
  delayCount : Nat
  rejoinRuns : Nat
  /-- Recessive bits of the partial run of R72. -/
  rejoinPartial : Nat
  /-- The station has joined the bus since its start. -/
  joined : Bool
  /-- The 11 recessive bits after join or rejoin have been read. -/
  ready : Bool
  /-- The handle of the post whose frame the station is sending now. -/
  sending : Option Nat
  /-- The error signal of its own after which the station waits for a recessive bit. -/
  errorWait : Option OwnSignal
  /-- Start opportunities a QUIET station that sent the last frame still lets pass. -/
  skip : Nat
  /-- The gap the bus is in. -/
  gap : Gap
  /-- The station, as a receiver, has driven the acknowledge slot of the frame that has just ended dominant (R62). -/
  acked : Bool
  /-- The bits the station drives in its frame or signal under way, recessive `true`; empty: it drives nothing. -/
  drive : List Bool
  deriving DecidableEq, Repr

/-! ### Claim unit -/

/-- An entry of a pick record's selection list (R95). The week is the MODEL's copy of the bay's week (log
entry 6). -/
structure SelEntry where
  carrier : Nat
  bay : Nat
  qty : Nat
  week : Nat
  taskMark : Bool
  deriving DecidableEq, Repr

/-- The states of a pick record (R95). -/
inductive PickState where
  | tentative
  | won
  | picking
  | staged
  | returning
  deriving DecidableEq, Repr

/-- The states of a putaway record (R96). -/
inductive PutState where
  | tentative
  | won
  | loading
  deriving DecidableEq, Repr

/-- The fields of R95 and R96 that a record of either kind has. -/
structure Bid where
  key : Nat
  best : Option Nat
  windowStart : Tick
  sent : Bool
  claim : Option Nat
  close : Option Nat
  expired : Bool
  closeOwed : Bool
  deriving DecidableEq, Repr

/-- The fields of a pick record alone (R95). -/
structure PickBody where
  order : Nat
  line : Nat
  state : PickState
  sel : List SelEntry
  staged : Nat
  readyOwed : Bool
  readySent : Bool
  deriving DecidableEq, Repr

/-- The fields of a putaway record alone (R96). -/
structure PutBody where
  number : Nat
  week : Nat
  target : BayAddr
  state : PutState
  arrived : Nat
  stored : Nat
  lastArrival : Tick
  loadMark : Bool
  deriving DecidableEq, Repr

inductive RecBody where
  | pick (b : PickBody)
  | putaway (b : PutBody)
  deriving DecidableEq, Repr

/-- A line table record (R94). The serial is the MODEL's name for this one record, so that a task, a tyre or a
cycle of a removed record is not taken for one of a later record of the same round. -/
structure LineRec where
  serial : Nat
  article : Nat
  qty : Nat
  bid : Bid
  body : RecBody
  deriving DecidableEq, Repr

/-- A close note (R105): the winner and the key with which a CLS of a removed record is filled. -/
structure CloseNote where
  handle : Nat
  winner : Nat
  key : Nat
  deriving DecidableEq, Repr

/-- The Claim Unit: the line table, oldest record first, and the close notes. -/
structure Clu where
  records : List LineRec
  nextSerial : Nat
  notes : List CloseNote
  deriving DecidableEq, Repr

/-! ### Motion planner -/

/-- The fields of a PICK_STOP task (R115): the record, the selection entry, the quantity; article and week are
those of the tyre it takes. -/
structure PickStop where
  serial : Nat
  order : Nat
  carrier : Nat
  bay : Nat
  qty : Nat
  article : Nat
  week : Nat
  deriving DecidableEq, Repr

/-- The kinds of task with their fields (R115). -/
inductive Job where
  | pickStop (stop : PickStop)
  | load (serial : Nat) (target : BayAddr)
  | putback (order : Nat) (dest : Option BayAddr)
  | scan (carrier : Nat) (purpose : Purpose)
  deriving DecidableEq, Repr

/-- A task of the list (R115). `removed` marks a task in flight whose owner has removed it (R131). -/
structure Task where
  id : Nat
  passed : Nat
  removed : Bool
  job : Job
  deriving DecidableEq, Repr

/-- A move in flight (R122, R125), with its motion timer. A move of no task is a home check move. -/
structure Move where
  dir : Dir
  steps : Nat
  target : Nat
  task : Option Nat
  started : Tick
  limit : Nat
  homeSeen : Bool
  deriving DecidableEq, Repr

/-- A task held for the reversal dwell, with the direction, the step count and the target carrier of the move that
its decision chose (R121). -/
structure HeldMove where
  task : Nat
  dir : Dir
  steps : Nat
  target : Nat
  deriving DecidableEq, Repr

/-- The Motion Planner (R115, R121, R123). `p = none`: the position has no value. -/
structure Mpl where
  tasks : List Task
  nextTask : Nat
  p : Option Nat
  lastDir : Dir
  /-- The IN_POS that ended the last move; none before the first. -/
  lastInPos : Option Tick
  move : Option Move
  /-- The task held for the reversal dwell. -/
  held : Option HeldMove
  deriving DecidableEq, Repr

/-! ### Face controller -/

/-- The kinds of extractor cycle (R132). -/
inductive CycleKind where
  | take
  | store
  | ret
  deriving DecidableEq, Repr

/-- The phases of a cycle (R133). -/
inductive Phase where
  | approach
  | engage
  | withdraw
  deriving DecidableEq, Repr

/-- The extractor cycle in flight (R132, R133): the carrier at the face when CYCLE was given, the bay, the phase
with its start tick, the ENGAGE extension, and for a TAKE the unit mass and pitch of the bay's article. -/
structure Cycle where
  kind : CycleKind
  carrier : Nat
  bay : Nat
  phase : Phase
  started : Tick
  extended : Bool
  timedOut : Bool
  unitMass : Nat
  pitch : Nat
  deriving DecidableEq, Repr

/-- The infeed tyre (R132): none, a tyre of the putaway record with this serial, or SURPLUS. -/
inductive Infeed where
  | none
  | ofRecord (serial : Nat)
  | surplus
  deriving DecidableEq, Repr

/-- The lane drive states (R132). -/
inductive Lane where
  | idle
  | stowing
  | presenting
  | releasing
  | sweeping
  deriving DecidableEq, Repr

/-- What the task at the face waits for (MODEL, from R134, R137, R141, R146, R147): the check before its next
step, its cycle, the stow after it, a stow of a stray tyre, a present, its readings. -/
inductive Stage where
  | check
  | cycle
  | stowing
  | stray
  | presenting
  | reading
  deriving DecidableEq, Repr

/-- A pending release (R132). -/
structure Release where
  order : Nat
  count : Nat
  deriving DecidableEq, Repr

/-- A gauge reading in flight (R132, R147): a touch audit when it has no purpose. `discard`: R147, the answer is
not handed over. -/
structure Reading where
  carrier : Nat
  bay : Nat
  purpose : Option Purpose
  started : Tick
  discard : Bool
  deriving DecidableEq, Repr

/-- The Face Controller (R132). The infeed block is set exactly when the infeed tyre is SURPLUS, so it is read
from it. -/
structure Fct where
  task : Option Nat
  stage : Stage
  cycle : Option Cycle
  timeoutMark : Bool
  infeed : Infeed
  lane : Lane
  laneStarted : Tick
  pendingRelease : Option Release
  exitCount : Nat
  laneFault : Bool
  gauge : Option Reading
  deriving DecidableEq, Repr

/-! ### Consolidation unit -/

/-- The states of an order entry (R150). -/
inductive OrderState where
  | opened
  | releasing
  | closed
  deriving DecidableEq, Repr

/-- An order table entry (R150). `holdExpired` is the MODEL's note that the hold timer has had its one expiry
(R157). -/
structure OrderEntry where
  order : Nat
  lineCount : Nat
  ready : List Nat
  own : List Nat
  holdStart : Option Tick
  holdExpired : Bool
  state : OrderState
  abandon : Option Nat
  abandonOwed : Option Cause
  deriving DecidableEq, Repr

/-- A tyre entry of a group (R153). -/
structure Tyre where
  serial : Option Nat
  article : Nat
  week : Nat
  unitMass : Nat
  pitch : Nat
  origin : BayAddr
  deriving DecidableEq, Repr

/-- The release of a group (R153, R159, R160): the release flag is clear in `clear` and set in the others, where
the request is held back, made, or to be made again after a failed release. -/
inductive ReleaseStage where
  | clear
  | held
  | requested
  | failed
  deriving DecidableEq, Repr

/-- A group of the staging lane (R153), with the RDY handles of R156. `wantedDest` is the MODEL's note of the
expectation made for a PUTBACK refused with FULL (R163). -/
structure Group where
  order : Nat
  returning : Bool
  tyres : List Tyre
  release : ReleaseStage
  putbackMark : Bool
  putbackWanted : Bool
  stuck : Bool
  wantedDest : Option BayAddr
  readyHandles : List Nat
  deriving DecidableEq, Repr

/-- The Consolidation Unit: the order table, oldest first, the lane list, head first, the owed ready list. -/
structure Cnu where
  orders : List OrderEntry
  groups : List Group
  owedReadies : List Nat
  deriving DecidableEq, Repr

/-! ### Audit unit -/

/-- What one reading gives an ARP (R180). -/
structure BayResult where
  grade : Grade
  recorded : Nat
  measured : Nat
  deriving DecidableEq, Repr

/-- An owed audit report (R180). -/
structure Report where
  carrier : Nat
  results : List BayResult
  deriving DecidableEq, Repr

/-- An entry of the answer snapshot (R182). -/
structure SnapEntry where
  carrier : Nat
  bay : Nat
  article : Nat
  week : Nat
  count : Nat
  available : Nat
  locked : Bool
  deriving DecidableEq, Repr

/-- The answer snapshot (R169). -/
structure Snapshot where
  entries : List SnapEntry
  nextToPost : Nat
  inTable : Nat
  deriving DecidableEq, Repr

/-- The Audit Unit (R169). The due reasons and rescan wants stand in the carrier records. -/
structure Adu where
  /-- The first-UNSURE note of the scan in progress. -/
  note : Bool
  /-- TOUCHED was set on the carrier of the scan in progress after its first READ (R29). -/
  touchedInScan : Bool
  /-- The results of the readings of the scan in progress, bay 0 first. -/
  results : List BayResult
  pointer : Nat
  idleStart : Option Tick
  owedReports : List Report
  snapshot : Option Snapshot
  pendingQuery : Option Nat
  deriving DecidableEq, Repr

/-! ### Station control and pins -/

/-- Station Control (R185, R83, R93). `homed`: homing completed in this start. -/
structure Stc where
  mode : Mode
  hold : Hold
  homeMismatch : Bool
  resume : Bool
  lastFault : Option StationFault
  storeWeek : Nat
  statusOwed : Bool
  start : StartStep
  homed : Bool
  deriving DecidableEq, Repr

/-- The last command on the drive link (R122). -/
inductive DriveOut where
  | inactive
  | move (dir : Dir) (steps : Nat)
  | stop
  deriving DecidableEq, Repr

/-- The field lines (section 11.7): the command outputs, SVC_ACK and FAULT, and the levels of the input lines. -/
structure Pins where
  drive : DriveOut
  extractor : Option (CycleKind × Nat)
  gauge : Option Nat
  laneForward : Bool
  laneReverse : Bool
  laneGate : Bool
  svcAck : Bool
  fault : Bool
  /-- The RESET line is asserted (R185). -/
  reset : Bool
  laneClear : Bool
  headOcc : Bool
  extBusy : Bool
  infeedOcc : Bool
  svcReq : Bool
  deriving DecidableEq, Repr

/-- The station: everything the spec gives the block. -/
structure Station where
  power : Power
  tick : Tick
  cfg : Config
  stc : Stc
  bus : Bus
  smap : Smap
  retained : Retained
  clu : Clu
  mpl : Mpl
  fct : Fct
  cnu : Cnu
  adu : Adu
  pins : Pins
  deriving DecidableEq, Repr

/-- The machine's state: the station and the queue of the commands that wait, first in, first out. -/
structure State where
  station : Station
  pending : List Instr
  deriving DecidableEq, Repr

/-! ### Start values -/

/-- R77, R84, R91: the Bus Interface at start. -/
def Bus.atStart : Bus where
  tec := 0
  recCtr := 0
  standing := .active
  posts := []
  nextHandle := 0
  owed := []
  rxq := []
  delayCount := 0
  rejoinRuns := 0
  rejoinPartial := 0
  joined := false
  ready := false
  sending := none
  errorWait := none
  skip := 0
  gap := .none
  acked := false
  drive := []

/-- The Stock Map before the retained load of R21 has made its records: every write state IDLE (R19). -/
def Smap.atStart : Smap where
  carriers := []
  articles := List.replicate 64 none
  articleWrites := List.replicate 64 .idle
  imbalance := 0

/-- R94: after start the line table is empty. -/
def Clu.atStart : Clu where
  records := []
  nextSerial := 0
  notes := []

/-- R115, R121, R123: no task, no position, last direction forward. -/
def Mpl.atStart : Mpl where
  tasks := []
  nextTask := 0
  p := none
  lastDir := .forward
  lastInPos := none
  move := none
  held := none

/-- R132: the start values of the Face Controller. -/
def Fct.atStart : Fct where
  task := none
  stage := .check
  cycle := none
  timeoutMark := false
  infeed := .none
  lane := .idle
  laneStarted := 0
  pendingRelease := none
  exitCount := 0
  laneFault := false
  gauge := none

/-- R150, R153, R168: no order, no group, nothing owed. -/
def Cnu.atStart : Cnu where
  orders := []
  groups := []
  owedReadies := []

/-- R169: the start values of the Audit Unit. -/
def Adu.atStart : Adu where
  note := false
  touchedInScan := false
  results := []
  pointer := 0
  idleStart := none
  owedReports := []
  snapshot := none
  pendingQuery := none

/-- R185: the state of Station Control after power-up or RESET. -/
def Stc.atStart : Stc where
  mode := .starting
  hold := .none
  homeMismatch := false
  resume := false
  lastFault := none
  storeWeek := 0
  statusOwed := false
  start := .configRead
  homed := false

/-- R185: every output inactive; the levels of the input lines are the outside's. -/
def Pins.inactive (inputs : Pins) : Pins :=
  { inputs with
    drive := .inactive, extractor := none, gauge := none, laneForward := false, laneReverse := false,
    laneGate := false, svcAck := false, fault := false }

/-- Every input line at its inactive level. DESIGN CHOICE (log entry 2). -/
def Pins.quiet : Pins where
  drive := .inactive
  extractor := none
  gauge := none
  laneForward := false
  laneReverse := false
  laneGate := false
  svcAck := false
  fault := false
  reset := false
  laneClear := false
  headOcc := false
  extBusy := false
  infeedOcc := false
  svcReq := false

/-- A retained memory that no station has written: every record fails its check. DESIGN CHOICE (log entry 2). -/
def Retained.blank : Retained where
  header := .failed
  carriers := List.replicate 96 .failed
  articles := List.replicate 64 .failed

/-- A station at step 1 of start (R185, R188) with this supply, retained memory and input lines. -/
def Station.atStart (power : Power) (retained : Retained) (inputs : Pins) : Station where
  power := power
  tick := 0
  cfg := Config.atReset
  stc := Stc.atStart
  bus := Bus.atStart
  smap := Smap.atStart
  retained := retained
  clu := Clu.atStart
  mpl := Mpl.atStart
  fct := Fct.atStart
  cnu := Cnu.atStart
  adu := Adu.atStart
  pins := inputs.inactive

/-- The machine right after reset: step 1 of start, the tick at 0, no command waiting. -/
def State.reset : State where
  station := Station.atStart .on Retained.blank Pins.quiet
  pending := []

end Sys2Proof.Machine
end

