-- ==== Sys2Proof/Machine/Flags.lean ====
section
/-! DEFINITION. The flags and standings the station decides from its counters and sets: bus standing (R68), lock
answers (R23, R24), record and order states. -/

namespace Sys2Proof.Machine

/-! ### Locks -/

/-- The empty lock reason set. -/
def LockSet.empty : LockSet where
  unverified := false
  audit := false
  touched := false
  quarantine := false
  held := false
  retired := false

/-- Whether a reason is in the set. -/
def LockSet.has (l : LockSet) : Reason → Bool
  | .unverified => l.unverified
  | .audit => l.audit
  | .touched => l.touched
  | .quarantine => l.quarantine
  | .held => l.held
  | .retired => l.retired

/-- The set with one reason set or cleared (R26): every other reason stays. -/
def LockSet.put (l : LockSet) (r : Reason) (v : Bool) : LockSet :=
  match r with
  | .unverified => { l with unverified := v }
  | .audit => { l with audit := v }
  | .touched => { l with touched := v }
  | .quarantine => { l with quarantine := v }
  | .held => { l with held := v }
  | .retired => { l with retired := v }

/-- May TAKE (R24): none of the five TAKE-blocking reasons is in the set. -/
def LockSet.mayTake (l : LockSet) : Bool :=
  !(l.unverified || l.audit || l.touched || l.quarantine || l.held)

/-- Locked (R24): the set is not empty. -/
def LockSet.locked (l : LockSet) : Bool :=
  l.unverified || l.audit || l.touched || l.quarantine || l.held || l.retired

/-- May STORE (R24): the set is empty. -/
def LockSet.mayStore (l : LockSet) : Bool := !l.locked

/-! ### Standing -/

/-- The standing that follows from the counters (R68). -/
def standingOf (tec recCtr : Nat) : Standing :=
  if 255 < tec then .withdrawn
  else if 128 ≤ tec ∨ 128 ≤ recCtr then .quiet
  else if 80 ≤ tec ∨ 80 ≤ recCtr then .caution
  else .active

/-- ACTIVE or CAUTION: the standings in which the station bids, sends CLMs and signals errors actively (R61, R65,
R100). -/
def Standing.bids : Standing → Bool
  | .active | .caution => true
  | .quiet | .withdrawn => false

/-- The counter changes of R67 for the first error met in a frame: the increases of TEC and REC, or none where a
station in that part cannot meet that error (R64). -/
def errorCounts (role : Role) (standing : Standing) : BusError → Option (Nat × Nat)
  | .echo => if role = .transmitter then some (8, 0) else none
  | .pattern | .shapeLength | .shapeDelimiter => some (if role = .transmitter then (8, 0) else (0, 1))
  | .check => if role = .receiver then some (0, 1) else none
  | .shapeEnd => some (0, 0)
  | .acknowledgeMissing =>
    if role = .transmitter then some (if standing = .quiet then (0, 0) else (8, 0)) else none
  | .roomTest => some (0, 1)
  | .delimiter => none

/-- The errors met after the acknowledge slot, in a frame read good up to there (R62, R64, R74). -/
def afterSlot : BusError → Bool
  | .shapeDelimiter | .shapeEnd | .roomTest => true
  | .echo | .pattern | .check | .shapeLength | .acknowledgeMissing | .delimiter => false

/-! ### Records, orders, groups -/

/-- The round of a record (R94). -/
def LineRec.round (r : LineRec) : RoundId :=
  match r.body with
  | .pick b => .pick b.order b.line
  | .putaway b => .putaway b.number

/-- The record is TENTATIVE. -/
def LineRec.tentative (r : LineRec) : Bool :=
  match r.body with
  | .pick b => b.state = .tentative
  | .putaway b => b.state = .tentative

/-- The record is WON. -/
def LineRec.won (r : LineRec) : Bool :=
  match r.body with
  | .pick b => b.state = .won
  | .putaway b => b.state = .won

/-- The record is a pick record of the order in one of the states. -/
def LineRec.pickOf (r : LineRec) (order : Nat) (states : List PickState) : Bool :=
  match r.body with
  | .pick b => b.order = order && states.contains b.state
  | .putaway _ => false

/-- The lower of the record's key and the best key heard (R105). -/
def LineRec.winningKey (r : LineRec) : Nat :=
  match r.bid.best with
  | some k => min k r.bid.key
  | none => r.bid.key

/-- The release flag of a group (R153). -/
def Group.releaseFlag (g : Group) : Bool := g.release ≠ .clear

/-- Free staging positions: 8 less the tyres of all groups (R153). -/
def Cnu.freePositions (c : Cnu) : Nat := 8 - (c.groups.map (fun g => g.tyres.length)).sum

/-- The infeed block is set exactly when the infeed tyre is SURPLUS (R132). -/
def Fct.infeedBlock (f : Fct) : Bool := f.infeed = .surplus

/-- The answer to the Motion Planner's question whether the lane is being released (R144, R145). -/
def Fct.releasing (f : Fct) : Bool := f.pendingRelease.isSome || f.lane = .sweeping

/-- A TAKE or a RETURN cycle is in flight. -/
def Fct.laneCycle (f : Fct) : Bool :=
  match f.cycle with
  | some c => c.kind ≠ .store
  | none => false

end Sys2Proof.Machine
end

