-- ==== Sys2Proof/Machine/Operands.lean ====
section
/-! DEFINITION. The operands of the commands: the bits of a frame on the bus (R56 to R58), the fields of a payload
(R79), the codes of R78 and R80, the acceptance checks of R81, and the clamping of the configuration (R186). -/

namespace Sys2Proof.Machine

/-! ### Numbers, bytes and bits, most significant first (R56, R79) -/

/-- The number `v` in `k` bytes. -/
def numBytes : Nat → Nat → List Byte
  | 0, _ => []
  | k + 1, v => BitVec.ofNat 8 (v / 256 ^ k) :: numBytes k v

/-- The number the bytes hold. -/
def bytesNum (bs : List Byte) : Nat := bs.foldl (fun a b => a * 256 + b.toNat) 0

/-- The multi-byte field of `len` bytes at offset `off` of a payload. -/
def payloadField (p : List Byte) (off len : Nat) : Nat := bytesNum ((p.drop off).take len)

/-- The number `v` in `k` bits; a 1 is recessive (R55). -/
def numBits : Nat → Nat → List Bool
  | 0, _ => []
  | k + 1, v => decide (v / 2 ^ k % 2 = 1) :: numBits k v

/-- The number the bits hold. -/
def bitsNum (bs : List Bool) : Nat := bs.foldl (fun a b => 2 * a + b.toNat) 0

/-- The bytes that `k` groups of 8 bits hold. -/
def bitsBytes : Nat → List Bool → List Byte
  | 0, _ => []
  | k + 1, bs => BitVec.ofNat 8 (bitsNum (bs.take 8)) :: bitsBytes k (bs.drop 8)

/-! ### The frame on the bus -/

end Sys2Proof.Machine

namespace Sys2Proof

open Machine

/-- The arbitration field (R56): the kind in bits 23..20, the key in bits 19..0. -/
def Frame.arbitration (f : Frame) : Nat := f.kind.toNat * 2 ^ 20 + f.key.toNat

/-- The sender: key bits 5..0 (R79). -/
def Frame.sender (f : Frame) : Nat := f.key.toNat % 64

/-- The bits the check is computed over (R58): arbitration field, length, payload. -/
def Frame.body (f : Frame) : List Bool :=
  numBits 4 f.kind.toNat ++ numBits 20 f.key.toNat ++ numBits 4 f.payload.length
    ++ f.payload.flatMap (fun b => numBits 8 b.toNat)

end Sys2Proof

namespace Sys2Proof.Machine

/-- One step of the division by x^16 + x^12 + x^5 + 1 (R58). DESIGN CHOICE (log entry 29): each bit is xored into the
top bit of the register, so no zero bits are appended to the bits divided. -/
def checkStep (r : BitVec 16) (bit : Bool) : BitVec 16 :=
  if r.msb ^^ bit then (r <<< 1) ^^^ 0x1021#16 else r <<< 1

/-- The check of R58: the remainder register starts at all ones, and the result is not inverted. -/
def checkOf (bits : List Bool) : BitVec 16 := bits.foldl checkStep 0xFFFF#16

/-- Stuffing (R57): after 6 equal bits a bit of the opposite level, which begins the next run. `last` and `run`
are the level and the length of the run so far. -/
def stuffFrom (last : Bool) (run : Nat) : List Bool → List Bool
  | [] => []
  | b :: bs =>
    let run' := if b = last then run + 1 else 1
    if run' = 6 then b :: (!b) :: stuffFrom (!b) 1 bs else b :: stuffFrom b run' bs

/-- Removing the stuff bits (R57): none for a run of 7 equal bits, a pattern error of R64, or where the stuff bit
after a last run of 6 is missing. -/
def unstuffFrom (last : Bool) (run : Nat) : List Bool → Option (List Bool)
  | [] => if run = 6 then none else some []
  | b :: bs =>
    if run = 6 then (if b = last then none else unstuffFrom b 1 bs)
    else (unstuffFrom b (if b = last then run + 1 else 1) bs).map (fun rest => b :: rest)

end Sys2Proof.Machine

namespace Sys2Proof

open Machine

/-- The stuffed part of a frame, start bit to check, as it crosses the bus (R56, R57). -/
def Frame.wire (f : Frame) : List Bool :=
  stuffFrom true 0 (false :: f.body ++ numBits 16 (checkOf f.body).toNat)

/-- The bits a transmitter drives for a frame (R56, R62): its stuffed part, then recessive the acknowledge slot, the
acknowledge delimiter and the 8 bits of the end field. -/
def Frame.bits (f : Frame) : List Bool := f.wire ++ List.replicate 10 true

end Sys2Proof

namespace Sys2Proof.Machine

/-- The fields of the unstuffed bits of a frame: a dominant start bit, a length of 0..12, exactly the payload
and the check, and a check that matches (R56, R58, R64). -/
def parseFrame : List Bool → Option Frame
  | false :: bits =>
    let len := bitsNum ((bits.drop 24).take 4)
    let body := bits.take (28 + 8 * len)
    if len ≤ 12 ∧ bits.length = 44 + 8 * len ∧
        bitsNum (bits.drop (28 + 8 * len)) = (checkOf body).toNat then
      some {
        kind := BitVec.ofNat 4 (bitsNum (bits.take 4))
        key := BitVec.ofNat 20 (bitsNum ((bits.drop 4).take 20))
        payload := bitsBytes len (bits.drop 28) }
    else none
  | _ => none

/-- What a receiver reads in the stuffed part of a frame: the frame, or none where it meets a pattern, check or
length error (R57, R58, R64). -/
def receiveWire (bits : List Bool) : Option Frame := (unstuffFrom true 0 bits).bind parseFrame

/-! ### Kinds and codes -/

/-- The code of a kind (R78). -/
def Kind.code : Kind → Nat
  | .abn => 1
  | .rdy => 2
  | .cls => 3
  | .clm => 4
  | .opn => 5
  | .lof => 6
  | .pof => 7
  | .cct => 8
  | .sct => 9
  | .arq => 10
  | .arp => 11
  | .sqy => 12
  | .san => 13
  | .sts => 14

/-- The kind a code names (R78): kinds 0 and 15 are not notices. -/
def Kind.ofCode : Nat → Option Kind
  | 1 => some .abn
  | 2 => some .rdy
  | 3 => some .cls
  | 4 => some .clm
  | 5 => some .opn
  | 6 => some .lof
  | 7 => some .pof
  | 8 => some .cct
  | 9 => some .sct
  | 10 => some .arq
  | 11 => some .arp
  | 12 => some .sqy
  | 13 => some .san
  | 14 => some .sts
  | _ => none

/-- CLM, ARP and SAN are the claim class (R78). -/
def Kind.claimClass : Kind → Bool
  | .clm | .arp | .san => true
  | .abn | .rdy | .cls | .opn | .lof | .pof | .cct | .sct | .arq | .sqy | .sts => false

/-- Whether the length fits the kind (R79). -/
def Kind.lengthOk : Kind → Nat → Bool
  | .abn, l | .rdy, l => l == 3
  | .cls, l => l == 8
  | .clm, l => l == 4
  | .opn, l => l == 5
  | .lof, l | .cct, l | .arq, l => l == 7
  | .pof, l => l == 12
  | .sct, l => l == 2
  | .arp, l => l == 3 || l == 5 || l == 7 || l == 9
  | .sqy, l => l == 4
  | .san, l => l == 11
  | .sts, l => l == 6

/-- Whether a sender 1..63 may send the kind (R81 checks 4 and 5): order sources are 49..63, stations 1..48. -/
def Kind.senderOk : Kind → Nat → Bool
  | .abn, _ => true
  | .opn, n | .lof, n | .pof, n | .cct, n | .sct, n | .arq, n | .sqy, n => decide (49 ≤ n)
  | .rdy, n | .cls, n | .clm, n | .arp, n | .san, n | .sts, n => decide (n ≤ 48)

/-- Whether an OPN or a POF carries a week of 0..4095 (R81 check 6). -/
def Kind.weekOk : Kind → List Byte → Bool
  | .opn, p => decide (payloadField p 3 2 ≤ 4095)
  | .pof, p => decide (payloadField p 10 2 ≤ 4095)
  | .abn, _ | .rdy, _ | .cls, _ | .clm, _ | .lof, _ | .cct, _ | .sct, _ | .arq, _ | .arp, _ | .sqy, _
  | .san, _ | .sts, _ => true

end Sys2Proof.Machine

namespace Sys2Proof

open Machine

/-- The kind of a frame that passes the acceptance checks of R81; none where a check fails. -/
def Frame.accepted (f : Frame) : Option Kind :=
  (Kind.ofCode f.kind.toNat).filter (fun k =>
    f.sender ≠ 0 && k.lengthOk f.payload.length && k.senderOk f.sender && k.weekOk f.payload)

end Sys2Proof

namespace Sys2Proof.Machine

/-- Grade codes (R80). -/
def Grade.code : Grade → Nat
  | .none => 0
  | .clean => 1
  | .adjusted => 2
  | .discrepant => 3
  | .unsure => 4

/-- ABN cause codes (R80); the station never posts CANCELLED (R158). -/
def Cause.code : Cause → Nat
  | .holdExpired => 1
  | .stockLost => 2
  | .stationHalted => 3

/-- Mode codes (R80). -/
def Mode.code : Mode → Nat
  | .starting => 0
  | .running => 1
  | .service => 2
  | .halted => 3

/-- Standing codes (R80); a WITHDRAWN station sends no STS, so its code never leaves the station. -/
def Standing.code : Standing → Nat
  | .active => 0
  | .caution => 1
  | .quiet => 2
  | .withdrawn => 3

/-- Fault codes (R194). -/
def StationFault.code : StationFault → Nat
  | .motionTimeout => 1
  | .homeMismatch => 2
  | .extractorRepeat => 3
  | .releaseTimeout => 4
  | .extractorTimeout => 5
  | .infeedSurplus => 6
  | .stagingStuck => 7
  | .configBad => 8

/-! ### Payloads the station sends and reads (R79) -/

end Sys2Proof.Machine

namespace Sys2Proof

open Machine

/-- The round kind and the 3-byte round id of a round (R79, R80). -/
def RoundId.code : RoundId → Nat × Nat
  | .pick order line => (1, order * 256 + line)
  | .putaway number => (2, number * 256)

end Sys2Proof

namespace Sys2Proof.Machine

/-- The round kind and round id at the head of a CLM or CLS payload. -/
def roundField (p : List Byte) : Nat × Nat := (payloadField p 0 1, payloadField p 1 3)

end Sys2Proof.Machine

namespace Sys2Proof

open Machine

def RoundId.bytes (r : RoundId) : List Byte := numBytes 1 r.code.1 ++ numBytes 3 r.code.2

end Sys2Proof

namespace Sys2Proof.Machine

def abnPayload (order : Nat) (cause : Cause) : List Byte := numBytes 2 order ++ numBytes 1 cause.code

def rdyPayload (order line : Nat) : List Byte := numBytes 2 order ++ numBytes 1 line

def clsPayload (r : RoundId) (winner key : Nat) : List Byte :=
  r.bytes ++ numBytes 1 winner ++ numBytes 3 key

def arpPayload (r : Report) : List Byte :=
  numBytes 1 r.carrier ++
    r.results.flatMap (fun x => numBytes 1 (x.grade.code * 16 + x.recorded) ++ numBytes 1 x.measured)

def sanPayload (seq : Nat) (last : Bool) (e : SnapEntry) : List Byte :=
  numBytes 1 seq ++ numBytes 1 (last.toNat + 2 * e.locked.toNat) ++ numBytes 1 e.carrier ++ numBytes 1 e.bay
    ++ numBytes 3 e.article ++ numBytes 2 e.week ++ numBytes 1 e.count ++ numBytes 1 e.available

def stsPayload (fields : List Nat) : List Byte := fields.flatMap (numBytes 1)

/-- The target station of a CCT, SCT, ARQ or SQY is this station or every station. -/
def targets (station : Nat) (p : List Byte) : Bool :=
  payloadField p 0 1 == station || payloadField p 0 1 == 0

/-! ### Clamping (R186) -/

def clampTo (lo hi v : Nat) : Nat := max lo (min hi v)

/-- N: an odd value is lowered by 1, then clamped to 16..96. -/
def clampCarriers (v : Nat) : Nat := clampTo 16 96 (v - v % 2)

/-- The idle audit delay: 0 stays 0; 1..29 become 30; above 3600 becomes 3600. -/
def clampIdle (v : Nat) : Nat := if v = 0 then 0 else clampTo 30 3600 v

end Sys2Proof.Machine

namespace Sys2Proof

open Machine

/-- The values as the blocks use them (R186), with the station number of the straps. -/
def ConfigRead.clamped (r : ConfigRead) : Config where
  station := r.straps.toNat
  n := clampCarriers r.carriers
  b := clampTo 1 4 r.bays
  h := clampTo 300 1500 r.height
  bitRate := min 3 r.bitRate
  ka := min 15 r.ka
  kt := min 15 r.kt
  kb := min 15 r.kb
  limit := clampTo 100 60000 r.limit
  tau := min 2 r.tau
  claimWindow := clampTo 5 250 r.claimWindow
  infeedTimeout := clampTo 5 300 r.infeedTimeout
  holdLimit := clampTo 10 900 r.holdLimit
  dwell := min 3000 r.dwell
  pitchTime := clampTo 100 2000 r.pitchTime
  motionMargin := clampTo 500 20000 r.motionMargin
  approach := clampTo 100 5000 r.approach
  engageMin := clampTo 100 5000 r.engageMin
  withdrawTime := clampTo 100 5000 r.withdrawTime
  extensionMax := min 30000 r.extensionMax
  releaseTimeout := clampTo 2 60 r.releaseTimeout
  idleDelay := clampIdle r.idleDelay

/-- The three cases of CONFIG_BAD (R187). -/
def ConfigRead.bad (r : ConfigRead) : Bool :=
  !r.answered || !r.checkGood || r.straps.toNat == 0 || decide (48 < r.straps.toNat)

end Sys2Proof

namespace Sys2Proof.Machine

/-- The bit time in µs of a bit rate code (R55). -/
def bitTimeMicros (code : Nat) : Nat :=
  if code = 0 then 20 else if code = 1 then 10 else if code = 2 then 8 else 4

end Sys2Proof.Machine
end

