-- ==== Sys2Proof/Machine/Ops.lean ====
section
/-! DEFINITION. The named operations over the station's records: the clock, the Stock Map's requests (R8 to R17),
the Lock Table's requests (R26 to R32), the retained writes (R19, R20). Every change of a bay, a lock or the article
table goes through this file. -/

namespace Sys2Proof.Machine

/-! ### The clock -/

/-- The tick has run on by `ms` from `since`, the difference taken modulo 2^32 (chapter 0, section 5.1). -/
def Station.elapsed (s : Station) (since : Tick) (ms : Nat) : Bool := decide (ms ≤ (s.tick - since).toNat)

/-! ### Reading the Stock Map -/

def Station.carrier? (s : Station) (c : Nat) : Option Carrier := s.smap.carriers[c]?

def Station.bay? (s : Station) (a : BayAddr) : Option Bay := (s.carrier? a.carrier).bind (fun k => k.bays[a.bay]?)

/-- The article table entry of a code (R3). -/
def Smap.article? (m : Smap) (code : Nat) : Option Article :=
  m.articles.findSome? (fun e => e.filter (fun a => a.code == code))

/-- capB of a pitch (R3): min(15, floor(H / pitch)). -/
def capB (h pitch : Nat) : Nat := min 15 (h / pitch)

/-- The capacity of a bay for the article it is bound to; none for an unbound bay (R5). -/
def Station.bayCap (s : Station) (b : Bay) : Option Nat :=
  b.binding.map (fun x => ((s.smap.article? x.article).map (fun e => capB s.cfg.h e.pitch)).getD 0)

/-- A bay with no binding: count, reserved and incoming 0, last grade none, mark clear (R5, R6). -/
def Bay.empty : Bay where
  binding := none
  count := 0
  reserved := 0
  incoming := 0
  grade := .none
  unsureOnce := false

/-- The binding dropped, with the last grade and the unsure-once mark cleared (R6). -/
def Bay.unbind (b : Bay) : Bay := { b with binding := none, grade := .none, unsureOnce := false }

/-- Count, reserved and incoming all 0. -/
def Bay.idle (b : Bay) : Bool := b.count == 0 && b.reserved == 0 && b.incoming == 0

/-- The bay is bound to the article. -/
def Bay.boundTo (b : Bay) (article : Nat) : Bool :=
  match b.binding with
  | some x => x.article == article
  | none => false

/-- May TAKE, May STORE and Locked of a carrier (R24), also for a carrier of N or above. -/
def Station.mayTake (s : Station) (c : Nat) : Bool := ((s.carrier? c).map (fun k => k.locks.mayTake)).getD false

def Station.mayStore (s : Station) (c : Nat) : Bool := ((s.carrier? c).map (fun k => k.locks.mayStore)).getD false

def Station.lockedAnswer (s : Station) (c : Nat) : Bool := ((s.carrier? c).map (fun k => k.locks.locked)).getD true

/-- The carrier carries the reason. -/
def Station.hasReason (s : Station) (c : Nat) (r : Reason) : Bool :=
  ((s.carrier? c).map (fun k => k.locks.has r)).getD false

/-! ### Masses and imbalance -/

/-- The share of one bay in the projected mass (R8): (count − reserved + incoming) × unit mass. -/
def Smap.bayMass (m : Smap) (b : Bay) : Nat :=
  match b.binding with
  | some x => (b.count - b.reserved + b.incoming) * ((m.article? x.article).map (fun e => e.unitMass)).getD 0
  | none => 0

/-- The projected mass of a carrier (R8). -/
def Smap.carrierMass (m : Smap) (k : Carrier) : Nat := (k.bays.map m.bayMass).sum

/-- The distance of two numbers, |a − b|. -/
def absDiff (a b : Nat) : Nat := (a - b) + (b - a)

/-- The imbalance of N weights (R40): the largest |2·S_k − T| over the windows of N/2 carriers from k. -/
def imbalanceOf (ws : List Nat) : Nat :=
  let n := ws.length
  let total := ws.sum
  ((List.range n).map (fun k => absDiff (2 * (((ws ++ ws).drop k).take (n / 2)).sum) total)).foldl max 0

/-- The recomputation that is part of every change to a bay (R8): the carrier's mass, then I. -/
def Station.recompute (s : Station) (c : Nat) : Station :=
  let carriers := s.smap.carriers.modify c (fun k => { k with mass := s.smap.carrierMass k })
  { s with smap := { s.smap with carriers := carriers, imbalance := imbalanceOf (carriers.map (fun k => k.mass)) } }

/-! ### Retained writes -/

/-- The values a carrier's retained record carries (R18). -/
def Carrier.image (k : Carrier) : CarrierImage where
  bays := k.bays.map (fun b => { binding := b.binding, count := b.count })
  quarantine := k.locks.quarantine
  held := k.locks.held
  retired := k.locks.retired
  faults := k.faults

/-- The effect of a write trigger on a write state (R19). -/
def WriteState.trigger {α : Type} (w : WriteState α) (values : α) : WriteState α :=
  match w with
  | .idle => .writing values
  | .writing v => .writingNewerWaiting v
  | .writingNewerWaiting v => .writingNewerWaiting v

/-- A change to a carrier record, with the write trigger of R19 when a retained field changed. -/
def Station.updCarrier (s : Station) (c : Nat) (f : Carrier → Carrier) : Station :=
  { s with smap := { s.smap with carriers := s.smap.carriers.modify c (fun k =>
      let k' := f k
      if k'.image = k.image then k' else { k' with write := k'.write.trigger k'.image }) } }

/-- A change of one article table slot, with the write trigger of R4 and R19. -/
def Station.putArticle (s : Station) (slot : Nat) (e : Option Article) : Station :=
  { s with smap := { s.smap with
      articles := s.smap.articles.set slot e
      articleWrites := s.smap.articleWrites.modify slot (fun w => w.trigger e) } }

/-- The end of a retained write (R19): the record holds the values the write carried; the state becomes IDLE, or
a write of `present` begins. -/
def WriteState.completed {α : Type} (w : WriteState α) (present : α) : Option (α × WriteState α) :=
  match w with
  | .idle => none
  | .writing v => some (v, .idle)
  | .writingNewerWaiting v => some (v, .writing present)

/-- RETAINED_WRITE_COMPLETE of one record (R19); no effect on a record in IDLE. -/
def Station.completeWrite (s : Station) (record : RetainedId) : Station :=
  match record with
  | .carrier c =>
    match (s.carrier? c).bind (fun k => k.write.completed k.image) with
    | some (v, w) =>
      { s with
        retained := { s.retained with carriers := s.retained.carriers.set c (.good v) }
        smap := { s.smap with carriers := s.smap.carriers.modify c (fun k => { k with write := w }) } }
    | none => s
  | .article slot =>
    match (s.smap.articleWrites[slot]?).bind (fun w => w.completed ((s.smap.articles[slot]?).join)) with
    | some (v, w) =>
      { s with
        retained := { s.retained with articles := s.retained.articles.set slot (.good v) }
        smap := { s.smap with articleWrites := s.smap.articleWrites.set slot w } }
    | none => s

/-- A record being written fails its check at the next start; any other is as last written (R20). DESIGN CHOICE (log
entry 35): so does one whose follow-on write (R19) was in flight at the loss, although an earlier write had completed. -/
def abandonOne {α : Type} (w : WriteState α) (stored : Stored α) : Stored α :=
  match w with
  | .idle => stored
  | .writing _ | .writingNewerWaiting _ => .failed

/-- The stored records after the writes in flight over them are abandoned. -/
def abandonList {α : Type} : List (WriteState α) → List (Stored α) → List (Stored α)
  | w :: ws, r :: rs => abandonOne w r :: abandonList ws rs
  | _, rs => rs

/-- The retained memory that a power loss or a RESET leaves (R20, R22). -/
def Station.abandonWrites (s : Station) : Retained :=
  { s.retained with
    carriers := abandonList (s.smap.carriers.map (fun k => k.write)) s.retained.carriers
    articles := abandonList s.smap.articleWrites s.retained.articles }

/-! ### The article table -/

/-- A bay is bound to the article, or a record of the line table names it (R4). -/
def Station.articleNeeded (s : Station) (code : Nat) : Bool :=
  s.smap.carriers.any (fun k => k.bays.any (fun b => b.boundTo code)) || s.clu.records.any (fun r => r.article == code)

/-- The test of R4: an entry that no binding and no record names is removed, with a retained write. -/
def Station.testArticle (s : Station) (code : Nat) : Station :=
  if s.articleNeeded code then s
  else
    match s.smap.articles.findIdx? (fun e => e.any (fun a => a.code == code)) with
    | some slot => s.putArticle slot none
    | none => s

/-- The table has a free slot (R4). -/
def Smap.articleRoom (m : Smap) : Bool := m.articles.any (fun e => e.isNone)

/-- The entry of an article that has none takes the lowest free slot (R4). -/
def Station.createArticle (s : Station) (a : Article) : Station :=
  match s.smap.articles.findIdx? (fun e => e.isNone) with
  | some slot => s.putArticle slot (some a)
  | none => s

/-! ### Requests to the Stock Map -/

/-- The answers of R9. -/
inductive SmapAnswer where
  | accepted
  | noSuchBay
  | short
  | wrongBinding
  | noRoom
  | tableFull
  deriving DecidableEq, Repr

/-- The carrier-wide drop of R6: when every bay has count, reserved and incoming 0, all bindings go. DESIGN CHOICE (log
entry 38): the last grade and the unsure-once mark are cleared on a bay that had no binding as well. -/
def dropIdle (bays : List Bay) : List Bay :=
  if bays.all (fun b => b.idle) then bays.map (fun b => b.unbind) else bays

/-- The articles a carrier's bays are bound to. -/
def boundArticles (bays : List Bay) : List Nat := bays.filterMap (fun b => b.binding.map (fun x => x.article))

/-- A change to one bay, taken whole (section 1.5): the change, the carrier-wide drop (R6), one write trigger
(R19), the masses and I (R8), and the test of every article that lost a binding (R4). -/
def Station.changeBay (s : Station) (a : BayAddr) (f : Bay → Bay) : Station :=
  let before := ((s.carrier? a.carrier).map (fun k => boundArticles k.bays)).getD []
  let s := s.updCarrier a.carrier (fun k => { k with bays := dropIdle (k.bays.modify a.bay f) })
  let s := s.recompute a.carrier
  before.foldl (fun t code => t.testArticle code) s

/-- The quantity a list of entries asks of one bay. -/
def askedOf (entries : List SelEntry) (a : BayAddr) : Nat :=
  ((entries.filter (fun e => e.carrier == a.carrier && e.bay == a.bay)).map (fun e => e.qty)).sum

/-- The address of a selection entry. -/
def SelEntry.addr (e : SelEntry) : BayAddr where
  carrier := e.carrier
  bay := e.bay

/-- The answer for one entry of a RESERVE (R10). -/
def Station.reserveCheck (s : Station) (article : Nat) (entries : List SelEntry) (e : SelEntry) : SmapAnswer :=
  match s.bay? e.addr with
  | none => .noSuchBay
  | some b =>
    if b.boundTo article then
      if askedOf entries e.addr ≤ b.count - b.reserved then .accepted else .short
    else .wrongBinding

/-- RESERVE (R10): all entries or none. -/
def Station.reserve (s : Station) (article : Nat) (entries : List SelEntry) : SmapAnswer × Station :=
  match entries.find? (fun e => s.reserveCheck article entries e ≠ .accepted) with
  | some e => (s.reserveCheck article entries e, s)
  | none =>
    (.accepted, entries.foldl (fun t e => t.changeBay e.addr (fun b => { b with reserved := b.reserved + e.qty })) s)

/-- UNRESERVE (R11): each reserved falls by its quantity, to no less than 0; refused for a bay outside N or B. -/
def Station.unreserve (s : Station) (entries : List (BayAddr × Nat)) : Station :=
  if entries.all (fun e => (s.bay? e.1).isSome) then
    (entries.filter (fun e => e.2 ≠ 0)).foldl
      (fun t e => t.changeBay e.1 (fun b => { b with reserved := b.reserved - e.2 })) s
  else s

/-- The binding test of an EXPECT (R6). -/
def Bay.expectable (b : Bay) (x : Binding) : Bool :=
  match b.binding with
  | none => true
  | some y => y == x || (y.article == x.article && b.idle)

/-- EXPECT (R12). `a` gives the unit mass and pitch used when the article has no entry. -/
def Station.expect (s : Station) (addr : BayAddr) (week qty : Nat) (a : Article) : SmapAnswer × Station :=
  let x : Binding := { article := a.code, week := week }
  match s.bay? addr with
  | none => (.noSuchBay, s)
  | some b =>
    let entry := s.smap.article? a.code
    if !b.expectable x then (.wrongBinding, s)
    else if entry.isNone && !s.smap.articleRoom then (.tableFull, s)
    else if b.count + b.incoming + qty ≤ capB s.cfg.h (entry.getD a).pitch then
      let s := if entry.isNone then s.createArticle a else s
      (.accepted, s.changeBay addr (fun b => { b with binding := some x, incoming := b.incoming + qty }))
    else (.noRoom, s)

/-- UNEXPECT (R13): incoming falls by the quantity, to no less than 0; refused for a bay outside N or B. -/
def Station.unexpect (s : Station) (addr : BayAddr) (qty : Nat) : Station :=
  if (s.bay? addr).isSome then s.changeBay addr (fun b => { b with incoming := b.incoming - qty }) else s

/-- TAKE report (R14): count and reserved fall by 1, each to no less than 0. -/
def Station.takeReport (s : Station) (addr : BayAddr) : Station :=
  s.changeBay addr (fun b => { b with count := b.count - 1, reserved := b.reserved - 1 })

/-- The bay after a STORE or RETURN report (R15), with the capacity of its article (none: unbound). -/
def Bay.stored (b : Bay) (cap : Option Nat) : Bay :=
  if 1 ≤ b.incoming then { b with incoming := b.incoming - 1, count := b.count + 1 }
  else if b.count < cap.getD 0 then { b with count := b.count + 1 }
  else b

/-- STORE report and RETURN report (R15). -/
def Station.storeReport (s : Station) (addr : BayAddr) : Station :=
  s.changeBay addr (fun b => b.stored (s.bayCap b))

/-- The count that R16 steps 2 and 3 give: the target raised to the reserved that remains, then lowered to
capB − incoming. -/
def countSet (target reserved incoming cap : Nat) : Nat :=
  let c := max target reserved
  if cap < c + incoming then cap - incoming else c

/-- R16 steps 2 and 3, and the drop of R17 for a value of 0: the count of a bound bay is set, after the cut. -/
def Station.setCountAfterCut (s : Station) (addr : BayAddr) (target : Nat) (dropAtZero : Bool) : Station :=
  s.changeBay addr (fun b =>
    match s.bayCap b with
    | none => b
    | some cap =>
      let b' := { b with count := countSet target b.reserved b.incoming cap }
      if dropAtZero && b'.idle then b'.unbind else b')

/-! ### Requests to the Lock Table -/

/-- One reason set or cleared on one carrier (R26). -/
def Station.putReason (s : Station) (c : Nat) (r : Reason) (v : Bool) : Station :=
  s.updCarrier c (fun k => { k with locks := k.locks.put r v })

/-- TOUCHED set on a carrier (R29); noted when a scan of that carrier has had its first READ. -/
def Station.touch (s : Station) (c : Nat) : Station :=
  let s := s.putReason c .touched true
  match s.fct.gauge with
  | some g => if g.purpose.isSome && g.carrier == c then { s with adu := { s.adu with touchedInScan := true } } else s
  | none => s

/-- EXTRACTOR_TIMEOUT at a carrier, as one change (R32). -/
def Station.extractorFault (s : Station) (c : Nat) : Station :=
  s.updCarrier c (fun k =>
    let faults := if k.faults < 3 then k.faults + 1 else k.faults
    let locks := k.locks.put .quarantine true
    { k with faults := faults, locks := if faults = 3 then locks.put .retired true else locks })

/-- UNRETIRE of one carrier, as one change (R35): only a carrier that carries RETIRED loses it and its fault count. -/
def Station.unretire (s : Station) (c : Nat) : Station :=
  s.updCarrier c (fun k => if k.locks.retired then { k with locks := k.locks.put .retired false, faults := 0 } else k)

/-- The report of a scan's completion (R30): with no first UNSURE, UNVERIFIED and AUDIT go, and TOUCHED unless it
was set during the scan (R29). -/
def Station.scanCompleted (s : Station) (c : Nat) (firstUnsure touchedInScan : Bool) : Station :=
  if firstUnsure then s
  else
    s.updCarrier c (fun k =>
      { k with locks :=
          ((k.locks.put .unverified false).put .audit false).put .touched (k.locks.touched && touchedInScan) })

end Sys2Proof.Machine
end

