-- ==== Sys2Proof/Machine/Arithmetic.lean ====
section
/-! DEFINITION. The claim arithmetic: distances (R1), projection and legality (R41, R42), pick selection and key
(R43 to R48), putaway bay choice and key (R49 to R51), slotting (R52). It keeps no state. -/

namespace Sys2Proof.Machine

/-! ### Distances (R1) -/

def forwardDistance (n p c : Nat) : Nat := (c + n - p) % n

def backwardDistance (n p c : Nat) : Nat := (p + n - c) % n

/-- The smaller of the forward and the backward distance. -/
def travelDistance (n p c : Nat) : Nat := min (forwardDistance n p c) (backwardDistance n p c)

/-- The travel distance from the position the Motion Planner holds; no distance is computed without one (R1). -/
def Station.travel (s : Station) (c : Nat) : Nat := travelDistance s.cfg.n (s.mpl.p.getD 0) c

/-! ### Projection and legality -/

/-- The projected masses of all carriers, the weights of R40. -/
def Station.weights (s : Station) : List Nat := s.smap.carriers.map (fun k => k.mass)

/-- The projection of a weight added to one carrier (R41). -/
def Station.projectAdd (s : Station) (c m : Nat) : Nat := imbalanceOf (s.weights.modify c (fun w => w + m))

/-- The projection of a pick selection (R41): each carrier's weight falls by its bays' quantities × unit mass. -/
def Station.projectPick (s : Station) (sel : List SelEntry) (unitMass : Nat) : Nat :=
  imbalanceOf (sel.foldl (fun ws e => ws.modify e.carrier (fun w => w - e.qty * unitMass)) s.weights)

/-- The legality of a proposed imbalance (R42). -/
def Station.legal (s : Station) (proposed : Nat) : Bool :=
  decide (proposed ≤ s.cfg.limit ∨ proposed ≤ s.smap.imbalance)

/-! ### Pick selection and key -/

/-- A pick candidate (R43). -/
structure PickCand where
  week : Nat
  distance : Nat
  carrier : Nat
  bay : Nat
  available : Nat
  deriving DecidableEq, Repr

/-- Lists of numbers compared entry by entry. -/
def lexLt : List Nat → List Nat → Bool
  | a :: as, b :: bs => if a < b then true else if b < a then false else lexLt as bs
  | _, _ => false

/-- The sort order of R44: week, travel distance, carrier, bay. -/
def PickCand.rank (x : PickCand) : List Nat := [x.week, x.distance, x.carrier, x.bay]

def insertCand (x : PickCand) : List PickCand → List PickCand
  | [] => [x]
  | y :: ys => if lexLt x.rank y.rank then x :: y :: ys else y :: insertCand x ys

def sortCands : List PickCand → List PickCand
  | [] => []
  | x :: xs => insertCand x (sortCands xs)

/-- The bays of the station with their addresses, in carrier order and then bay order. -/
def Station.allBays (s : Station) : List (BayAddr × Bay) :=
  s.smap.carriers.zipIdx.flatMap (fun kc =>
    kc.1.bays.zipIdx.map (fun bb => ({ carrier := kc.2, bay := bb.2 }, bb.1)))

/-- The candidate a bay gives, if it is one (R43). -/
def Station.pickCand (s : Station) (article : Nat) (x : BayAddr × Bay) : Option PickCand :=
  match x.2.binding with
  | some y =>
    if y.article = article ∧ 1 ≤ x.2.count - x.2.reserved ∧ s.mayTake x.1.carrier = true then
      some { week := y.week, distance := s.travel x.1.carrier, carrier := x.1.carrier, bay := x.1.bay,
             available := x.2.count - x.2.reserved }
    else none
  | none => none

/-- The candidates in the order of R44. -/
def Station.pickCands (s : Station) (article : Nat) : List PickCand :=
  sortCands (s.allBays.filterMap (s.pickCand article))

/-- The walk of R44 over at most `fuel` bays: the selection, or none where the quantity is not covered. -/
def walkCands : Nat → Nat → List PickCand → Option (List SelEntry)
  | _, 0, _ => some []
  | 0, _ + 1, _ => none
  | _, _ + 1, [] => none
  | fuel + 1, q + 1, x :: xs =>
    let taken := min x.available (q + 1)
    (walkCands fuel (q + 1 - taken) xs).map (fun rest =>
      { carrier := x.carrier, bay := x.bay, qty := taken, week := x.week, taskMark := false } :: rest)

/-- The selection of R44, where its change is legal (R45). -/
def Station.pickSelection (s : Station) (article qty : Nat) : Option (List SelEntry) :=
  (walkCands 4 qty (s.pickCands article)).filter (fun sel =>
    s.legal (s.projectPick sel (((s.smap.article? article).map (fun e => e.unitMass)).getD 0)))

/-- The age rank of R46. -/
def ageRank (storeWeek oldest : Nat) : Nat := 511 - min 511 (storeWeek - oldest)

/-- The travel figure of R47. -/
def travelFigure (d backlog : Nat) : Nat := min 255 (d + 8 * backlog)

/-- A cost clamped, and the station number in the low 6 bits (R48, R51). -/
def claimKey (cost station : Nat) : Nat := min 16383 cost * 64 + station

/-- The least travel distance of a selection's carriers (R47). -/
def Station.nearest (s : Station) (sel : List SelEntry) : Nat :=
  match sel.map (fun e => s.travel e.carrier) with
  | [] => 0
  | d :: ds => ds.foldl min d

/-- The pick key (R46 to R48). -/
def Station.pickKey (s : Station) (sel : List SelEntry) : Nat :=
  let oldest := (sel.head?.map (fun e => e.week)).getD 0
  claimKey
    (ageRank s.stc.storeWeek oldest * s.cfg.ka + travelFigure (s.nearest sel) s.mpl.tasks.length * s.cfg.kt)
    s.cfg.station

/-! ### Putaway bay choice, key and slotting -/

/-- A legal putaway candidate with its cost (R49 to R51). -/
structure PutCand where
  addr : BayAddr
  cost : Nat
  deriving DecidableEq, Repr

/-- The balance fraction of R50. -/
def balanceFraction (proposed limit : Nat) : Nat := min 255 (proposed * 255 / limit)

/-- The candidate a bay gives for `qty` tyres of article `a` and `week`, where it is one and its change is legal
(R49, R50), with the cost of R51. `a` is the article's entry, or what the POF carries (R49). -/
def Station.putCand (s : Station) (a : Article) (week qty : Nat) (x : BayAddr × Bay) : Option PutCand :=
  let b := x.2
  if s.mayStore x.1.carrier && b.expectable { article := a.code, week := week }
      && decide (b.count + b.incoming + qty ≤ capB s.cfg.h a.pitch) then
    let proposed := s.projectAdd x.1.carrier (qty * a.unitMass)
    if s.legal proposed then
      let cls := if b.binding.isSome then 0 else 1
      some {
        addr := x.1
        cost := cls * 8192 + balanceFraction proposed s.cfg.limit * s.cfg.kb
          + travelFigure (s.travel x.1.carrier) s.mpl.tasks.length * s.cfg.kt }
    else none
  else none

/-- The least cost; among equal costs the first in carrier and then bay order (R51). -/
def leastCost : List PutCand → Option PutCand
  | [] => none
  | x :: xs =>
    match leastCost xs with
    | some y => if y.cost < x.cost then some y else some x
    | none => some x

/-- The chosen bay of R51. -/
def Station.chosenBay (s : Station) (a : Article) (week qty : Nat) : Option PutCand :=
  leastCost (s.allBays.filterMap (s.putCand a week qty))

end Sys2Proof.Machine
end

