-- ==== Sys2Proof/Machine/Post.lean ====
section
/-! DEFINITION. The post table: posting, withdrawal, owed notices and offers (R84 to R91), the payloads filled at
take-out (R86, R92), and the STS trigger (R93). -/

namespace Sys2Proof.Machine

/-! ### Records, orders and groups by name -/

def Station.record? (s : Station) (serial : Nat) : Option LineRec := s.clu.records.find? (fun r => r.serial == serial)

/-- The pick body of the record with this serial. -/
def Station.pick? (s : Station) (serial : Nat) : Option PickBody :=
  (s.record? serial).bind (fun r => match r.body with
    | .pick b => some b
    | .putaway _ => none)

/-- The putaway body of the record with this serial. -/
def Station.put? (s : Station) (serial : Nat) : Option PutBody :=
  (s.record? serial).bind (fun r => match r.body with
    | .pick _ => none
    | .putaway b => some b)

def Station.updRecord (s : Station) (serial : Nat) (f : LineRec → LineRec) : Station :=
  { s with clu := { s.clu with records := s.clu.records.map (fun r => if r.serial = serial then f r else r) } }

def Station.updBid (s : Station) (serial : Nat) (f : Bid → Bid) : Station :=
  s.updRecord serial (fun r => { r with bid := f r.bid })

/-- The record with its pick body changed. -/
def LineRec.mapPick (r : LineRec) (f : PickBody → PickBody) : LineRec :=
  match r.body with
  | .pick b => { r with body := .pick (f b) }
  | .putaway _ => r

/-- The record with its putaway body changed. -/
def LineRec.mapPut (r : LineRec) (f : PutBody → PutBody) : LineRec :=
  match r.body with
  | .pick _ => r
  | .putaway b => { r with body := .putaway (f b) }

def Station.updPick (s : Station) (serial : Nat) (f : PickBody → PickBody) : Station :=
  s.updRecord serial (fun r => r.mapPick f)

def Station.updPut (s : Station) (serial : Nat) (f : PutBody → PutBody) : Station :=
  s.updRecord serial (fun r => r.mapPut f)

def Station.order? (s : Station) (order : Nat) : Option OrderEntry := s.cnu.orders.find? (fun e => e.order == order)

/-- The order has an entry in this state. -/
def Station.orderIn (s : Station) (order : Nat) (st : OrderState) : Bool := (s.order? order).any (fun e => e.state = st)

def Station.updOrder (s : Station) (order : Nat) (f : OrderEntry → OrderEntry) : Station :=
  { s with cnu := { s.cnu with orders := s.cnu.orders.map (fun e => if e.order = order then f e else e) } }

def Station.group? (s : Station) (order : Nat) : Option Group := s.cnu.groups.find? (fun g => g.order == order)

def Station.updGroup (s : Station) (order : Nat) (f : Group → Group) : Station :=
  { s with cnu := { s.cnu with groups := s.cnu.groups.map (fun g => if g.order = order then f g else g) } }

def Station.setOwedReadies (s : Station) (l : List Nat) : Station := { s with cnu := { s.cnu with owedReadies := l } }

/-! ### Posting -/

/-- The key of every kind the station posts but CLM (R78). -/
def Station.ownKey (s : Station) : Key := BitVec.ofNat 20 s.cfg.station

/-- The number of slots that hold claim-class kinds. -/
def Bus.claimSlots (b : Bus) : Nat := (b.posts.filter (fun x => x.kind.claimClass)).length

/-- A slot may take a notice of the kind (R84); nothing is posted before the join (R77). -/
def Bus.accepts (b : Bus) (k : Kind) : Bool :=
  b.joined && b.standing ≠ .withdrawn && decide (b.posts.length < 12)
    && (!k.claimClass || decide (b.claimSlots < 8))

/-- A notice in a slot, PENDING, under a fresh handle. -/
def Station.addPost (s : Station) (k : Kind) (key : Key) (payload : List Byte) : Station :=
  { s with bus := { s.bus with
      posts := s.bus.posts ++ [{ handle := s.bus.nextHandle, kind := k, key := key, payload := payload, onBus := false }]
      nextHandle := s.bus.nextHandle + 1 } }

/-- The owed set with a kind added, kept in kind order, each kind once (R89). -/
def addKind (k : Kind) : List Kind → List Kind
  | [] => [k]
  | x :: xs => if k.code < x.code then k :: x :: xs else if k.code = x.code then x :: xs else x :: addKind k xs

/-- The kind added to the owed set on a refusal; not while WITHDRAWN (R89, R91), nor before the join. -/
def Station.oweKind (s : Station) (k : Kind) : Station :=
  if s.bus.standing = .withdrawn ∨ s.bus.joined = false then s
  else { s with bus := { s.bus with owed := addKind k s.bus.owed } }

/-- A fresh post of a kind that can be owed: the handle, or none where it is refused and its kind is owed. A kind
already in the owed set is not posted afresh (R89). -/
def Station.post (s : Station) (k : Kind) (payload : List Byte) : Option Nat × Station :=
  if s.bus.accepts k && !s.bus.owed.contains k then (some s.bus.nextHandle, s.addPost k s.ownKey payload)
  else (none, s.oweKind k)

/-- The post with this handle. -/
def Bus.post? (b : Bus) (h : Nat) : Option Post := b.posts.find? (fun x => x.handle == h)

/-- The slot of this handle made FREE. -/
def Station.freeSlot (s : Station) (h : Nat) : Station :=
  { s with bus := { s.bus with posts := s.bus.posts.filter (fun x => x.handle != h) } }

/-! ### Station status (R92, R93) -/

/-- The six fields of an STS as they stand (R92). -/
def Station.statusFields (s : Station) : List Nat :=
  [s.stc.mode.code, s.bus.standing.code, s.cnu.freePositions, s.mpl.tasks.length, s.clu.records.length,
   (s.stc.lastFault.map (fun f => f.code)).getD 0]

/-- An STS trigger (R93): nothing while an STS is PENDING or owed, before the join, or while WITHDRAWN. -/
def Station.statusTrigger (s : Station) : Station :=
  if !s.bus.joined || s.bus.standing = .withdrawn || s.stc.statusOwed
      || s.bus.posts.any (fun x => x.kind = .sts && !x.onBus) then s
  else
    match s.post .sts (stsPayload s.statusFields) with
    | (some _, s) => s
    | (none, s) => { s with stc := { s.stc with statusOwed := true } }

/-- A fault that does not halt (R194): its code recorded, and an STS trigger after the join. -/
def Station.nonHaltingFault (s : Station) (f : StationFault) : Station :=
  { s with stc := { s.stc with lastFault := some f } }.statusTrigger

/-! ### Filling an offered slot (R90) -/

/-- The conditions of R156 under which a record is readied, apart from its owed flag. -/
def Station.readyQualifies (s : Station) (b : PickBody) : Bool :=
  b.state = .staged && !b.readySent && s.orderIn b.order .opened
    && s.cnu.groups.head?.any (fun g => g.order == b.order && !g.returning)

/-- The owed ready list from its first record that still qualifies; the records before it lose their flags. -/
def Station.trimOwedReadies (s : Station) : List Nat → Station
  | [] => s.setOwedReadies []
  | serial :: rest =>
    if (s.pick? serial).any (fun b => s.readyQualifies b) then s.setOwedReadies (serial :: rest)
    else (s.updPick serial (fun b => { b with readyOwed := false })).trimOwedReadies rest

/-- RDY posted for a record: its flags, and the handle kept with the group (R156). -/
def Station.readyPosted (s : Station) (serial order handle : Nat) : Station :=
  (s.updPick serial (fun b => { b with readyOwed := false, readySent := true })).updGroup order
    (fun g => { g with readyHandles := g.readyHandles ++ [handle] })

/-- The answer of an owner to an offered slot: whether it filled it, whether it still owes more, the station. -/
structure Filled where
  filled : Bool
  more : Bool
  station : Station

def declined (s : Station) : Filled where
  filled := false
  more := false
  station := s

/-- The order table with the owed marks of entries older than `order` that are no longer OPEN cleared (R161). -/
def clearOlderMarks (order : Nat) : List OrderEntry → List OrderEntry
  | [] => []
  | e :: es =>
    if e.order = order then e :: es
    else (if e.state = .opened then e else { e with abandonOwed := none }) :: clearOlderMarks order es

/-- ABN of the oldest OPEN entry with an owed mark (R161). -/
def Station.fillAbn (s : Station) : Filled :=
  match s.cnu.orders.find? (fun e => e.abandonOwed.isSome && e.state = .opened) with
  | none => declined s
  | some e =>
    let h := s.bus.nextHandle
    let s := s.addPost .abn s.ownKey (abnPayload e.order (e.abandonOwed.getD .stockLost))
    let s := { s with cnu := { s.cnu with orders := clearOlderMarks e.order s.cnu.orders } }
    let s := s.updOrder e.order (fun x => { x with abandonOwed := none, abandon := some h })
    { filled := true, more := s.cnu.orders.any (fun x => x.abandonOwed.isSome), station := s }

/-- RDY of the oldest owed record that still qualifies (R156). -/
def Station.fillRdy (s : Station) : Filled :=
  let s := s.trimOwedReadies s.cnu.owedReadies
  match s.cnu.owedReadies with
  | [] => declined s
  | serial :: rest =>
    match s.pick? serial with
    | none => declined (s.setOwedReadies rest)
    | some b =>
      let h := s.bus.nextHandle
      let s := s.addPost .rdy s.ownKey (rdyPayload b.order b.line)
      let s := (s.readyPosted serial b.order h).setOwedReadies rest
      { filled := true, more := !rest.isEmpty, station := s }

/-- CLS of the oldest TENTATIVE record with a close owed mark (R105). -/
def Station.fillCls (s : Station) : Filled :=
  match s.clu.records.find? (fun r => r.bid.closeOwed && r.tentative) with
  | none => declined s
  | some r =>
    let h := s.bus.nextHandle
    let s := s.addPost .cls s.ownKey (clsPayload r.round (r.winningKey % 64) r.winningKey)
    let s := s.updBid r.serial (fun b => { b with closeOwed := false, close := some h })
    { filled := true, more := s.clu.records.any (fun x => x.bid.closeOwed && x.tentative), station := s }

/-- The oldest owed audit report (R180). -/
def Station.fillArp (s : Station) : Filled :=
  match s.adu.owedReports with
  | [] => declined s
  | r :: rest =>
    let s := s.addPost .arp s.ownKey (arpPayload r)
    { filled := true, more := !rest.isEmpty, station := { s with adu := { s.adu with owedReports := rest } } }

/-- The next unposted entry of the snapshot, while fewer than 4 SANs are in the table (R183). -/
def Station.fillSan (s : Station) : Filled :=
  match s.adu.snapshot with
  | none => declined s
  | some sn =>
    match sn.entries[sn.nextToPost]? with
    | none => declined s
    | some e =>
      if 4 ≤ sn.inTable then declined s
      else
        let last := sn.nextToPost + 1 == sn.entries.length
        let s := s.addPost .san s.ownKey (sanPayload sn.nextToPost last e)
        let sn := { sn with nextToPost := sn.nextToPost + 1, inTable := sn.inTable + 1 }
        { filled := true, more := !last, station := { s with adu := { s.adu with snapshot := some sn } } }

/-- The owed STS (R93). DESIGN CHOICE (log entry 36): it fills the slot also while an STS that has lost arbitration (R60)
is PENDING. -/
def Station.fillSts (s : Station) : Filled :=
  if s.stc.statusOwed then
    let s := s.addPost .sts s.ownKey (stsPayload s.statusFields)
    { filled := true, more := false, station := { s with stc := { s.stc with statusOwed := false } } }
  else declined s

/-- The owner of a kind answers an offer. -/
def Station.fillOwed (s : Station) : Kind → Filled
  | .abn => s.fillAbn
  | .rdy => s.fillRdy
  | .cls => s.fillCls
  | .arp => s.fillArp
  | .san => s.fillSan
  | .sts => s.fillSts
  | .clm | .opn | .lof | .pof | .cct | .sct | .arq | .sqy => declined s

/-- A kind leaves the owed set. -/
def Station.unoweKind (s : Station) (k : Kind) : Station :=
  { s with bus := { s.bus with owed := s.bus.owed.filter (fun x => x ≠ k) } }

/-- The offers of one freed slot to the kinds of the owed set in order (R90). -/
def offerKinds (s : Station) : List Kind → Station
  | [] => s
  | k :: ks =>
    if k.claimClass && decide (8 ≤ s.bus.claimSlots) then offerKinds s ks
    else
      let r := s.fillOwed k
      if r.filled then (if r.more then r.station else r.station.unoweKind k)
      else offerKinds (r.station.unoweKind k) ks

/-- The offer that follows the freeing of a slot (R90); without a FREE slot there is none. -/
def Station.offerSlot (s : Station) : Station :=
  if s.bus.posts.length < 12 then offerKinds s s.bus.owed else s

/-! ### Withdrawal of a post (R87) -/

/-- Whether a withdrawal of this handle is answered WITHDRAWN: its post is PENDING. -/
def Bus.canWithdraw (b : Bus) (h : Nat) : Bool := (b.post? h).any (fun x => !x.onBus)

/-- The withdrawal of a handle, if there is one: a PENDING slot becomes FREE and is offered; otherwise TOO_LATE. -/
def Station.withdraw (s : Station) (h : Option Nat) : Station :=
  match h with
  | none => s
  | some h => if s.bus.canWithdraw h then (s.freeSlot h).offerSlot else s

/-! ### Take-out (R85, R86) -/

/-- The frame of a post (R79). -/
def Post.frame (p : Post) : Frame where
  kind := BitVec.ofNat 4 p.kind.code
  key := p.key
  payload := p.payload

/-- The winner and key the Claim Unit answers for the CLS of a handle (R105): from its record, or its note. -/
def Clu.closeAnswer (c : Clu) (h : Nat) : Nat × Nat :=
  match c.records.find? (fun r => r.bid.close == some h) with
  | some r => (r.winningKey % 64, r.winningKey)
  | none => ((c.notes.find? (fun x => x.handle == h)).map (fun x => (x.winner, x.key))).getD (0, 0)

/-- The payload a slot is sent with: a CLS and an STS are filled at take-out (R86). -/
def Station.filledPayload (s : Station) (p : Post) : List Byte :=
  match p.kind with
  | .cls =>
    p.payload.take 4 ++ numBytes 1 (s.clu.closeAnswer p.handle).1 ++ numBytes 3 (s.clu.closeAnswer p.handle).2
  | .sts => stsPayload s.statusFields
  | .abn | .rdy | .clm | .opn | .lof | .pof | .cct | .sct | .arq | .arp | .sqy | .san => p.payload

/-- A CLM may be transmitted (R61): the mode is RUNNING and the standing ACTIVE or CAUTION. -/
def Station.claimsAllowed (s : Station) : Bool := s.stc.mode = .running && s.bus.standing.bids

/-- The better of two slots at take-out: the lower arbitration field, and of equal fields the older post (R85). -/
def lowerPost (best : Option Post) (p : Post) : Option Post :=
  match best with
  | none => some p
  | some q => if p.frame.arbitration < q.frame.arbitration then some p else some q

/-- The slot that take-out chooses (R85). -/
def Station.takeOutChoice (s : Station) : Option Post :=
  (s.bus.posts.filter (fun p => !p.onBus && (p.kind ≠ .clm || s.claimsAllowed))).foldl lowerPost none

end Sys2Proof.Machine
end

