-- ==== Sys2Proof/Machine/Tasks.lean ====
section
/-! DEFINITION. The task list: adding and removing tasks (R115, R116, R131), the tasks the Claim Unit waits for
(R108, R109), and what of a record is in flight at the face (R110, R111). -/

namespace Sys2Proof.Machine

def Station.task? (s : Station) (id : Nat) : Option Task := s.mpl.tasks.find? (fun t => t.id == id)

/-- The task the Face Controller holds. -/
def Station.faceTask? (s : Station) : Option Task := s.fct.task.bind s.task?

def Station.updTask (s : Station) (id : Nat) (f : Task → Task) : Station :=
  { s with mpl := { s.mpl with tasks := s.mpl.tasks.map (fun t => if t.id = id then f t else t) } }

/-- A task leaves the list; its place is offered when the event settles (R117). -/
def Station.removeTask (s : Station) (id : Nat) : Station :=
  { s with mpl := { s.mpl with tasks := s.mpl.tasks.filter (fun t => t.id != id) } }

/-- The list holds a SCAN task of the carrier. -/
def Station.hasScan (s : Station) (c : Nat) : Bool :=
  s.mpl.tasks.any (fun t => match t.job with
    | .scan c' _ => c' == c
    | .pickStop _ | .load _ _ | .putback _ _ => false)

/-- Whether the planner accepts a task (R116): not FULL, and for a SCAN not DUPLICATE. -/
def Station.acceptsTask (s : Station) (job : Job) : Bool :=
  decide (s.mpl.tasks.length < 24) &&
    (match job with
    | .scan c _ => !s.hasScan c
    | .pickStop _ | .load _ _ | .putback _ _ => true)

/-- The accepted task appended as the newest; a SCAN sets AUDIT on its carrier (R28, R116). -/
def Station.addTask (s : Station) (job : Job) : Station :=
  let s := { s with mpl := { s.mpl with
      tasks := s.mpl.tasks ++ [{ id := s.mpl.nextTask, passed := 0, removed := false, job := job }]
      nextTask := s.mpl.nextTask + 1 } }
  match job with
  | .scan c _ => s.putReason c .audit true
  | .pickStop _ | .load _ _ | .putback _ _ => s

/-- A task is in flight at the face or in a move. -/
def Station.inFlight (s : Station) (id : Nat) : Bool :=
  s.fct.task == some id || (s.mpl.move.bind (fun m => m.task)) == some id

/-- The owner of these jobs has them removed (R131): a task in flight is marked and leaves later, a task held for
the dwell is released, and every other leaves at once. -/
def Station.removeJobs (s : Station) (mine : Job → Bool) : Station :=
  let tasks := (s.mpl.tasks.map (fun t => if mine t.job && s.inFlight t.id then { t with removed := true } else t)).filter
    (fun t => !(mine t.job) || s.inFlight t.id)
  let held := s.mpl.held.filter (fun h => tasks.any (fun t => t.id == h.task))
  { s with mpl := { s.mpl with tasks := tasks, held := held } }

/-- The job belongs to the record with this serial. -/
def Job.ofRecord (serial : Nat) : Job → Bool
  | .pickStop stop => stop.serial == serial
  | .load n _ => n == serial
  | .putback _ _ | .scan _ _ => false

/-! ### Cycles in flight -/

/-- The PICK_STOP whose TAKE cycle is in flight. -/
def Station.takeInFlight (s : Station) : Option PickStop :=
  match s.fct.cycle, s.faceTask? with
  | some c, some t =>
    match t.job with
    | .pickStop stop => if c.kind = .take then some stop else none
    | .load _ _ | .putback _ _ | .scan _ _ => none
  | _, _ => none

/-- The one tyre of a record's entry that a TAKE cycle in flight holds back (R111). -/
def Station.heldBack (s : Station) (serial : Nat) (a : BayAddr) : Nat :=
  match s.takeInFlight with
  | some stop => if stop.serial = serial ∧ stop.carrier = a.carrier ∧ stop.bay = a.bay then 1 else 0
  | none => 0

/-- The one tyre of a putaway record that a STORE cycle in flight holds back (R110). -/
def Station.storeHeld (s : Station) (serial : Nat) : Nat :=
  match s.fct.cycle, s.faceTask? with
  | some c, some t =>
    match t.job with
    | .load n _ => if c.kind = .store ∧ n = serial then 1 else 0
    | .pickStop _ | .putback _ _ | .scan _ _ => 0
  | _, _ => 0

/-! ### Tasks the Claim Unit waits for -/

/-- A task the Claim Unit wants: of the record, for its selection entry at an index, or its LOAD. -/
structure ClaimWant where
  serial : Nat
  entry : Option Nat
  job : Job

/-- The LOAD a LOADING record waits for (R109). -/
def LineRec.loadWant (r : LineRec) : Option ClaimWant :=
  match r.body with
  | .putaway b =>
    if b.state = .loading ∧ b.loadMark = false then
      some { serial := r.serial, entry := none, job := .load r.serial b.target }
    else none
  | .pick _ => none

/-- The first entry of a WON or PICKING record that waits for its task (R108). DESIGN CHOICE (log entry 45): of the
entries of one record, the one that stands first in its selection list. -/
def LineRec.pickWant (r : LineRec) : Option ClaimWant :=
  match r.body with
  | .pick b =>
    if b.state = .won ∨ b.state = .picking then
      (b.sel.findIdx? (fun e => !e.taskMark && decide (0 < e.qty))).bind (fun i =>
        (b.sel[i]?).map (fun e =>
          { serial := r.serial, entry := some i,
            job := .pickStop {
              serial := r.serial, order := b.order, carrier := e.carrier, bay := e.bay, qty := e.qty,
              article := r.article, week := e.week } }))
    else none
  | .putaway _ => none

/-- What the Claim Unit asks for next: LOAD tasks before PICK_STOP entries, oldest record first (R108, R109). -/
def Station.claimWant (s : Station) : Option ClaimWant :=
  match s.clu.records.findSome? (fun r => r.loadWant) with
  | some w => some w
  | none => s.clu.records.findSome? (fun r => r.pickWant)

/-- The task mark of an accepted task is set (R95, R96). -/
def Station.markWant (s : Station) (w : ClaimWant) : Station :=
  match w.entry with
  | some i => s.updPick w.serial (fun b => { b with sel := b.sel.modify i (fun e => { e with taskMark := true }) })
  | none => s.updPut w.serial (fun b => { b with loadMark := true })

end Sys2Proof.Machine
end

