-- ==== Sys2Proof/Machine/Claims.lean ====
section
/-! DEFINITION. The Claim Unit: the removal of records (R102, R110, R111), cuts (R113, R177) with the settings of a
count (R16, R17), the raising of an abandon (R161), bids (R100, R101), and the course of a round (R102 to R109). -/

namespace Sys2Proof.Machine

/-! ### Abandons raised -/

/-- An abandon of an order is raised under a cause (R158, R161): an OPEN entry with no abandon in hand gets an ABN,
or its owed mark. -/
def Station.raiseAbandon (s : Station) (order : Nat) (cause : Cause) : Station :=
  match s.order? order with
  | none => s
  | some e =>
    if e.state = .opened ∧ e.abandon = none ∧ e.abandonOwed = none then
      match s.post .abn (abnPayload order cause) with
      | (some h, s) => s.updOrder order (fun x => { x with abandon := some h })
      | (none, s) => s.updOrder order (fun x => { x with abandonOwed := some cause })
    else s

/-! ### Removal of records -/

/-- The close note of a removed record whose CLS can still be taken out (R105). -/
def Station.keepNote (s : Station) (r : LineRec) : Station :=
  match r.bid.close with
  | none => s
  | some h =>
    if (s.bus.post? h).isSome then
      { s with clu := { s.clu with
          notes := s.clu.notes ++ [{ handle := h, winner := r.winningKey % 64, key := r.winningKey }] } }
    else s

/-- The claim of a TENTATIVE record withdrawn if it is unsent, and its close if it has one (R102, R107). -/
def Station.withdrawBid (s : Station) (r : LineRec) : Station :=
  if r.tentative then (if r.bid.sent then s else s.withdraw r.bid.claim).withdraw r.bid.close else s

/-- The quantities a pick record releases: what its entries hold, less the tyre of a TAKE cycle in flight (R111). -/
def Station.releaseList (s : Station) (serial : Nat) (b : PickBody) : List (BayAddr × Nat) :=
  b.sel.map (fun e => (e.addr, e.qty - s.heldBack serial e.addr))

/-- A tyre of an ended putaway record that stands at the infeed is SURPLUS (R142). -/
def Station.putawayEnded (s : Station) (serial : Nat) : Station :=
  if s.fct.infeed = .ofRecord serial then
    { s with fct := { s.fct with infeed := .surplus } }.nonHaltingFault .infeedSurplus
  else s

/-- The line leaves the order's own lines (R111). -/
def Station.dropOwnLine (s : Station) (order line : Nat) : Station :=
  s.updOrder order (fun e => { e with own := e.own.filter (fun l => l != line) })

/-- The removal of a record from the line table, with all that goes with it (R102, R110, R111, R114): its bid, its
stock, its tasks, its line, its owed ready, the article test of R94. -/
def Station.dropRecord (s : Station) (serial : Nat) : Station :=
  match s.record? serial with
  | none => s
  | some r =>
    let s := { s with clu := { s.clu with records := s.clu.records.filter (fun x => x.serial != serial) } }
    let s := (s.withdrawBid r).keepNote r
    let s : Station :=
      match r.body with
      | .pick b =>
        let s := s.unreserve (s.releaseList serial b)
        let s := s.removeJobs (Job.ofRecord serial)
        let s := s.setOwedReadies (s.cnu.owedReadies.filter (fun x => x != serial))
        if b.state = .won then s.dropOwnLine b.order b.line else s
      | .putaway b =>
        let s := s.unexpect b.target (r.qty - b.stored - s.storeHeld serial)
        let s := s.removeJobs (Job.ofRecord serial)
        s.putawayEnded serial
    s.testArticle r.article

/-- The records that satisfy a test are removed, oldest first. -/
def Station.dropWhere (s : Station) (p : LineRec → Bool) : Station :=
  ((s.clu.records.filter p).map (fun r => r.serial)).foldl (fun t serial => t.dropRecord serial) s

/-- The order's TENTATIVE records are removed (R114, R159). -/
def Station.dropTentativeOf (s : Station) (order : Nat) : Station :=
  s.dropWhere (fun r => r.pickOf order [.tentative])

/-- A pick record gives back what it still holds, but for the tyre of a TAKE cycle in flight, and its PICK_STOP
tasks are removed (R111, R131). -/
def Station.releasePick (s : Station) (serial : Nat) : Station :=
  match s.pick? serial with
  | none => s
  | some b =>
    let kept := s.heldBack serial
    let s := s.unreserve (s.releaseList serial b)
    let s := s.updPick serial (fun b => { b with sel := b.sel.map (fun e => { e with qty := min e.qty (kept e.addr) }) })
    s.removeJobs (Job.ofRecord serial)

/-- A tyre of the record stands on the lane. -/
def Station.onLane (s : Station) (serial : Nat) : Bool :=
  s.cnu.groups.any (fun g => g.tyres.any (fun t => t.serial == some serial))

/-- A PICKING or STAGED record turned RETURNING (R114, R156, R166): it gives back what it holds, loses its ready
flags, and is removed if none of its tyres stands on the lane. -/
def Station.turnReturning (s : Station) (serial : Nat) : Station :=
  let s := s.releasePick serial
  let s := s.updPick serial (fun b => { b with state := .returning, readyOwed := false, readySent := false })
  let s := s.setOwedReadies (s.cnu.owedReadies.filter (fun x => x != serial))
  if s.onLane serial then s else s.dropRecord serial

/-- The records that satisfy a test are turned RETURNING, oldest first. -/
def Station.returnWhere (s : Station) (p : LineRec → Bool) : Station :=
  ((s.clu.records.filter p).map (fun r => r.serial)).foldl (fun t serial => t.turnReturning serial) s

/-- A TENTATIVE or WON record of an abandoned order is removed, with its claim and close withdrawn where pending (R114).
A WON record's claim has been sent. Its close is PENDING where the withdrawal at the win was answered TOO_LATE (R107)
and the CLS then lost arbitration (R60). -/
def Station.abandonRecord (s : Station) (serial : Nat) : Station :=
  match s.record? serial with
  | none => s
  | some r => (if r.won then s.withdraw r.bid.close else s).dropRecord serial

/-- The Claim Unit on an abandon of an order (R114). -/
def Station.abandonRecords (s : Station) (order : Nat) : Station :=
  (((s.clu.records.filter (fun r => r.pickOf order [.tentative, .won])).map (fun r => r.serial)).foldl
    (fun t serial => t.abandonRecord serial) s).returnWhere (fun r => r.pickOf order [.picking, .staged])

/-! ### Cuts and the setting of a count -/

/-- The quantity a pick record holds on a bay. -/
def PickBody.holds (b : PickBody) (a : BayAddr) : Nat := askedOf b.sel a

/-- The walk of a cut (R113): from the newest pick record, those TENTATIVE or WON that hold reservation on the bay
are removed until the excess is covered; a WON record's order is reported as stock lost. -/
def cutWalk (a : BayAddr) : List Nat → Nat → Station → Station
  | [], _, s => s
  | serial :: rest, excess, s =>
    if excess = 0 then s
    else
      match s.pick? serial with
      | none => cutWalk a rest excess s
      | some b =>
        if (b.state = .tentative ∨ b.state = .won) ∧ 0 < b.holds a then
          let released := b.holds a - s.heldBack serial a
          let s := s.dropRecord serial
          cutWalk a rest (excess - released) (if b.state = .won then s.raiseAbandon b.order .stockLost else s)
        else cutWalk a rest excess s

/-- The cut of R16 step 1: where reserved exceeds the target. -/
def Station.cutTo (s : Station) (a : BayAddr) (target : Nat) : Station :=
  match s.bay? a with
  | none => s
  | some b => cutWalk a (s.clu.records.reverse.map (fun r => r.serial)) (b.reserved - target) s

/-- ADJUST (R16). -/
def Station.adjust (s : Station) (a : BayAddr) (measured : Nat) : Station :=
  (s.cutTo a measured).setCountAfterCut a measured false

/-- Set-count (R17): the value clamped to capB; an unbound bay keeps count 0. -/
def Station.setCount (s : Station) (a : BayAddr) (value : Nat) : Station :=
  match (s.bay? a).bind s.bayCap with
  | none => s
  | some cap => (s.cutTo a (min value cap)).setCountAfterCut a (min value cap) (min value cap == 0)

/-! ### Bids -/

/-- The tests of R100 that do not look at the offer. -/
def Station.mayBid (s : Station) : Bool :=
  s.stc.mode = .running && s.bus.standing.bids && decide (s.clu.records.length < 24)
    && decide (s.bus.claimSlots < 8)

/-- A record of the round exists, whatever its state. -/
def Station.holdsRound (s : Station) (round : RoundId) : Bool := s.clu.records.any (fun r => r.round = round)

/-- If a group of the order stands on the lane, it is the tail group (R100). -/
def Station.tailOrNone (s : Station) (order : Nat) : Bool :=
  (s.group? order).isNone || s.cnu.groups.getLast?.any (fun g => g.order == order)

/-- The tests of R98 and R100 on a LOF, but for the selection. -/
def Station.lofTests (s : Station) (order line article qty : Nat) : Bool :=
  decide (1 ≤ qty ∧ qty ≤ 8 ∧ article ≠ 0 ∧ 1 ≤ line ∧ line ≤ 16)
    && (s.order? order).any (fun e =>
      decide (line ≤ e.lineCount) && e.state = .opened && !e.ready.contains line && !e.own.contains line)
    && !s.holdsRound (.pick order line) && s.mayBid && s.tailOrNone order && !s.cnu.groups.any (fun g => g.stuck)

/-- The tests of R99 and R100 on a POF, but for the chosen bay. DESIGN CHOICE (log entry 47): R99 does not list a putaway
number of 0 among the POFs ignored, and one is bid. -/
def Station.pofTests (s : Station) (number qty : Nat) (a : Article) : Bool :=
  decide (1 ≤ qty ∧ qty ≤ 8 ∧ a.code ≠ 0 ∧ 20 ≤ a.unitMass ∧ a.unitMass ≤ 600 ∧ 150 ≤ a.pitch ∧ a.pitch ≤ 400)
    && !s.holdsRound (.putaway number) && s.mayBid && !s.fct.infeedBlock
    && ((s.smap.article? a.code).isSome || s.smap.articleRoom)

/-- The bid fields at the creation of a record (R95, R96). -/
def Station.newBid (s : Station) (key : Nat) : Bid where
  key := key
  best := none
  windowStart := s.tick
  sent := false
  claim := none
  close := none
  expired := false
  closeOwed := false

/-- Steps 3 and 4 of R101: the TENTATIVE record, and its CLM posted; a refused CLM takes the record away again. -/
def Station.openRecord (s : Station) (article qty key : Nat) (body : RecBody) : Station :=
  let serial := s.clu.nextSerial
  let r : LineRec := { serial := serial, article := article, qty := qty, bid := s.newBid key, body := body }
  let s := { s with clu := { s.clu with records := s.clu.records ++ [r], nextSerial := serial + 1 } }
  if s.bus.accepts .clm then
    let h := s.bus.nextHandle
    (s.addPost .clm (BitVec.ofNat 20 key) r.round.bytes).updBid serial (fun b => { b with claim := some h })
  else s.dropRecord serial

/-- The bid on a pick round (R101). -/
def Station.bidPick (s : Station) (order line article qty : Nat) : Station :=
  match s.pickSelection article qty with
  | none => s
  | some sel =>
    match s.reserve article sel with
    | (.accepted, t) =>
      t.openRecord article qty (s.pickKey sel) (.pick {
        order := order, line := line, state := .tentative, sel := sel, staged := 0,
        readyOwed := false, readySent := false })
    | (_, _) => s

/-- The bid on a putaway round (R101); `offered` is the article as the POF gives it. DESIGN CHOICE (log entry 31): the last
arrival tick, which R96 sets at the win, is 0 until then. -/
def Station.bidPutaway (s : Station) (number week qty : Nat) (offered : Article) : Station :=
  let a := (s.smap.article? offered.code).getD offered
  match s.chosenBay a week qty with
  | none => s
  | some x =>
    match s.expect x.addr week qty a with
    | (.accepted, t) =>
      t.openRecord a.code qty (claimKey x.cost s.cfg.station) (.putaway {
        number := number, week := week, target := x.addr, state := .tentative, arrived := 0, stored := 0,
        lastArrival := 0, loadMark := false })
    | (_, _) => s

/-! ### The course of a round -/

/-- The record of the round that a CLM or CLS names by its round kind and round id. -/
def Station.recordOfRound (s : Station) (code : Nat × Nat) : Option LineRec :=
  s.clu.records.find? (fun r => r.round.code == code)

/-- A claim heard (R102). -/
def Station.hearClaim (s : Station) (code : Nat × Nat) (key : Nat) : Station :=
  match s.recordOfRound code with
  | none => s
  | some r =>
    if r.tentative && r.bid.best.all (fun k => decide (key < k)) then
      let s := s.updBid r.serial (fun b => { b with best := some key })
      if key < r.bid.key then s.dropRecord r.serial else s
    else s

/-- CLS posted for a TENTATIVE record whose claim was sent, or its close owed mark set (R105). -/
def Station.postClose (s : Station) (r : LineRec) : Station :=
  match s.post .cls (clsPayload r.round (r.winningKey % 64) r.winningKey) with
  | (some h, s) => s.updBid r.serial (fun b => { b with close := some h })
  | (none, s) => s.updBid r.serial (fun b => { b with closeOwed := true })

/-- A round won (R107 to R109): a pick adds its line, and its tasks are asked for as the event settles; a putaway expects
arrivals. -/
def Station.winRound (s : Station) (r : LineRec) (ownClose : Bool) : Station :=
  let s := if ownClose then s else s.withdraw r.bid.close
  let s := s.updBid r.serial (fun b => { b with closeOwed := false })
  match r.body with
  | .pick b =>
    let s := s.updPick r.serial (fun b => { b with state := .won })
    s.updOrder b.order (fun e =>
      { e with own := if e.own.contains b.line then e.own else e.own ++ [b.line] })
  | .putaway _ =>
    s.updPut r.serial (fun b => { b with state := .won, lastArrival := s.tick })

/-- A close heard (R107), with whether it is the station's own. -/
def Station.hearClose (s : Station) (code : Nat × Nat) (own : Bool) : Station :=
  match s.recordOfRound code with
  | none => s
  | some r =>
    if r.tentative then
      if r.bid.best = some r.bid.key then s.winRound r own else s.dropRecord r.serial
    else s

/-- The claim window of a record runs out (R104): it posts its close, or gives its unsent claim up; a claim already
on the bus gets the expired mark. -/
def Station.windowExpired (s : Station) (r : LineRec) : Station :=
  if r.bid.sent then s.postClose r
  else if r.bid.claim.any s.bus.canWithdraw then s.dropRecord r.serial
  else s.updBid r.serial (fun b => { b with expired := true })

/-- The window of the record can expire now: TENTATIVE, its time run on, and not expired before. -/
def Station.windowDue (s : Station) (r : LineRec) : Bool :=
  r.tentative && s.elapsed r.bid.windowStart s.cfg.claimWindow && !r.bid.expired && r.bid.close.isNone
    && !r.bid.closeOwed

/-- The Claim Unit when the mode becomes SERVICE (R112): unsent claims not expired are withdrawn, and their records
removed where the withdrawal is answered WITHDRAWN. -/
def Station.claimsOnService (s : Station) : Station :=
  s.dropWhere (fun r => r.tentative && !r.bid.sent && !r.bid.expired && r.bid.claim.any s.bus.canWithdraw)

/-- The Claim Unit when the mode becomes HALTED or the standing QUIET (R112). -/
def Station.dropTentatives (s : Station) : Station := s.dropWhere (fun r => r.tentative)

/-- The Claim Unit on a withdrawal from the bus (R112): TENTATIVE and WON records go, PICKING and STAGED records
turn RETURNING, and every close note is discarded. -/
def Station.claimsOnWithdrawal (s : Station) : Station :=
  let s := s.dropWhere (fun r => r.tentative || r.won)
  let s := s.returnWhere (fun r => match r.body with
    | .pick b => b.state = .picking || b.state = .staged
    | .putaway _ => false)
  { s with clu := { s.clu with notes := [] } }

/-- The infeed timeout of a WON or LOADING record has run out (R110). -/
def Station.infeedDue (s : Station) (b : PutBody) : Bool :=
  (b.state = .won || b.state = .loading) && s.elapsed b.lastArrival (s.cfg.infeedTimeout * 1000)

/-- The oldest WON or LOADING record with arrivals outstanding (R109). -/
def Station.arrivalRecord (s : Station) : Option (LineRec × PutBody) :=
  s.clu.records.findSome? (fun r => match r.body with
    | .putaway b =>
      if (b.state = .won ∨ b.state = .loading) ∧ b.arrived < r.qty then some (r, b) else none
    | .pick _ => none)

/-- The arrival counted for the record (R109): LOADING at its first arrival; its LOAD task is asked for as the event
settles. -/
def Station.countArrival (s : Station) (r : LineRec) : Station :=
  s.updPut r.serial (fun b => { b with arrived := b.arrived + 1, lastArrival := s.tick, state := .loading })

end Sys2Proof.Machine
end

