-- ==== Sys2Proof/Machine/Consolidate.lean ====
section
/-! DEFINITION. The Consolidation Unit: eviction (R152), readies (R155, R156), tyres staged (R154), release (R159,
R160), abandon heard (R161), putback (R163 to R166), withdrawal and rejoin (R167, R168). -/

namespace Sys2Proof.Machine

/-! ### Order table -/

/-- The entry that eviction chooses (R152): the oldest CLOSED, or the oldest OPEN one with no own lines and no
abandon in hand. -/
def Cnu.evictable (c : Cnu) : Option OrderEntry :=
  match c.orders.find? (fun e => e.state = .closed) with
  | some e => some e
  | none => c.orders.find? (fun e =>
      e.state = .opened && e.own.isEmpty && e.abandon.isNone && e.abandonOwed.isNone)

/-- The entry removed; an OPEN one is reported to the Claim Unit (R152, R114). -/
def Station.evict (s : Station) (e : OrderEntry) : Station :=
  let s := { s with cnu := { s.cnu with orders := s.cnu.orders.filter (fun x => x.order != e.order) } }
  if e.state = .opened then s.dropTentativeOf e.order else s

/-- A new OPEN entry (R150). -/
def Station.recordOrder (s : Station) (order lineCount : Nat) : Station :=
  { s with cnu := { s.cnu with orders := s.cnu.orders ++ [{
      order := order, lineCount := lineCount, ready := [], own := [], holdStart := none, holdExpired := false,
      state := .opened, abandon := none, abandonOwed := none }] } }

/-- The OPN taken (R151). -/
def Station.openOrder (s : Station) (order lineCount : Nat) : Station :=
  if order = 0 ∨ lineCount = 0 ∨ 16 < lineCount ∨ (s.order? order).isSome ∨ (s.group? order).isSome then s
  else if s.cnu.orders.length < 32 then s.recordOrder order lineCount
  else
    match s.cnu.evictable with
    | some e => (s.evict e).recordOrder order lineCount
    | none => s

/-! ### Readies -/

/-- RDY posted for one record that meets the conditions of R156, or owed. -/
def Station.postReady (s : Station) (serial : Nat) : Station :=
  match s.pick? serial with
  | none => s
  | some b =>
    if s.readyQualifies b && !b.readyOwed then
      match s.post .rdy (rdyPayload b.order b.line) with
      | (some h, s) => s.readyPosted serial b.order h
      | (none, s) =>
        (s.updPick serial (fun b => { b with readyOwed := true })).setOwedReadies (s.cnu.owedReadies ++ [serial])
    else s

/-- The test of R156 for every record; only records of the head group can meet it. DESIGN CHOICE (log entry 39): oldest
record first. -/
def Station.postReadies (s : Station) : Station :=
  (s.clu.records.map (fun r => r.serial)).foldl (fun t serial => t.postReady serial) s

/-! ### Tyres taken and staged -/

/-- The Claim Unit on a tyre taken for a record's entry (R136): the entry's quantity falls, tyres staged rises, and
the state follows. -/
def Station.tyreTaken (s : Station) (serial : Nat) (a : BayAddr) : Station :=
  match s.record? serial with
  | none => s
  | some r =>
    s.updPick serial (fun b =>
      let st := if b.state = .won then .picking else b.state
      { b with
        sel := b.sel.map (fun e => if e.addr = a then { e with qty := e.qty - 1 } else e)
        staged := b.staged + 1
        state := if st = .picking ∧ b.staged + 1 = r.qty then .staged else st })

/-- A tyre that joins a group whose release is pending raises the pending count (R144, R154). -/
def Station.raisePending (s : Station) (order : Nat) : Station :=
  match s.fct.pendingRelease with
  | some r =>
    if r.order = order ∧ s.fct.lane ≠ .releasing then
      { s with fct := { s.fct with pendingRelease := some { r with count := r.count + 1 } } }
    else s
  | none => s

/-- The tyre entry at the back of its order's group, which is created at the tail if the order has none (R154). -/
def Station.tyreStaged (s : Station) (order : Nat) (t : Tyre) : Station :=
  match s.group? order with
  | some _ => (s.updGroup order (fun g => { g with tyres := g.tyres ++ [t] })).raisePending order
  | none =>
    let returning := !s.orderIn order .opened
      || (t.serial.bind s.pick?).any (fun b => b.state = .returning)
    { s with cnu := { s.cnu with groups := s.cnu.groups ++ [{
        order := order, returning := returning, tyres := [t], release := .clear, putbackMark := false,
        putbackWanted := false, stuck := false, wantedDest := none, readyHandles := [] }] } }

/-! ### Putback -/

/-- The article a tyre is put back as: its table entry, or what the tyre entry holds (R164). -/
def Station.tyreArticle (s : Station) (t : Tyre) : Article :=
  (s.smap.article? t.article).getD { code := t.article, unitMass := t.unitMass, pitch := t.pitch }

/-- The original bay will take the tyre (R164 step 1). -/
def Station.originTakes (s : Station) (t : Tyre) : Bool :=
  s.mayStore t.origin.carrier && (s.bay? t.origin).any (fun b =>
    b.binding == some { article := t.article, week := t.week }
      && decide (b.count + b.incoming + 1 ≤ capB s.cfg.h (s.tyreArticle t).pitch))

/-- The choice of R164 steps 1 to 3, before its EXPECT. -/
def Station.destChoice (s : Station) (t : Tyre) : Option BayAddr :=
  if s.originTakes t then some t.origin
  else (s.chosenBay (s.tyreArticle t) t.week 1).map (fun x => x.addr)

/-- One choice with its EXPECT of one tyre (R164). -/
def Station.tryDest (s : Station) (t : Tyre) : Option BayAddr × Station :=
  match s.destChoice t with
  | none => (none, s)
  | some d =>
    match s.expect d t.week 1 (s.tyreArticle t) with
    | (.accepted, u) => (some d, u)
    | (_, u) => (none, u)

/-- The destination of R164: a refused EXPECT is followed by one more choice. -/
def Station.expectDest (s : Station) (t : Tyre) : Option BayAddr × Station :=
  match s.tryDest t with
  | (some d, u) => (some d, u)
  | (none, u) => u.tryDest t

/-- The stuck mark follows the destination; STAGING_STUCK is reported when it becomes set (R164). -/
def Station.markStuck (s : Station) (order : Nat) (dest : Option BayAddr) : Station :=
  match dest with
  | some _ => s.updGroup order (fun g => { g with stuck := false })
  | none =>
    if (s.group? order).any (fun g => g.stuck) then s
    else (s.updGroup order (fun g => { g with stuck := true })).nonHaltingFault .stagingStuck

/-- The PUTBACK asked for with a destination, present or absent (R163). -/
def Station.askPutback (s : Station) (order : Nat) (dest : Option BayAddr) : Station :=
  let s := s.markStuck order dest
  if s.acceptsTask (.putback order dest) then
    (s.addTask (.putback order dest)).updGroup order
      (fun g => { g with putbackMark := true, putbackWanted := false, wantedDest := none })
  else s.updGroup order (fun g => { g with putbackWanted := true, wantedDest := dest })

/-- The start of a putback for the head group (R163). -/
def Station.startPutback (s : Station) : Station :=
  match s.cnu.groups.head? with
  | none => s
  | some g =>
    match g.tyres with
    | [] => s
    | t :: _ =>
      if g.returning && !g.releaseFlag && !g.putbackMark && !g.putbackWanted then
        let (dest, s) := s.expectDest t
        s.askPutback g.order dest
      else s

/-- The offer of a freed place to the Consolidation Unit (R163): the expectation of the refused task is released,
and the choice and the request are made again. -/
def Station.servePutback (s : Station) : Station :=
  match s.cnu.groups.find? (fun g => g.putbackWanted) with
  | none => s
  | some g =>
    match g.tyres with
    | [] => s
    | t :: _ =>
      if s.mpl.tasks.length < 24 then
        let s := match g.wantedDest with
          | some d => s.unexpect d 1
          | none => s
        let (dest, s) := s.expectDest t
        s.askPutback g.order dest
      else s

/-- The destination of a group's PUTBACK task. -/
def Station.putDest (s : Station) (order : Nat) (dest : Option BayAddr) : Station :=
  { s with mpl := { s.mpl with tasks := s.mpl.tasks.map (fun t =>
      match t.job with
      | .putback o _ => if o = order then { t with job := .putback o dest } else t
      | .pickStop _ | .load _ _ | .scan _ _ => t) } }

/-- A new choice for the front tyre of a stuck group (R165); nothing changes where none is found. DESIGN CHOICE (log entry
41): where the PUTBACK was refused with FULL, and there is no task to give it to, the destination is kept with the
group. -/
def Station.rechooseStuck (s : Station) : Station :=
  match s.cnu.groups.find? (fun g => g.stuck) with
  | none => s
  | some g =>
    match g.tyres with
    | [] => s
    | t :: _ =>
      match s.expectDest t with
      | (none, _) => s
      | (some d, s) =>
        let s := s.markStuck g.order (some d)
        if g.putbackMark then s.putDest g.order (some d)
        else s.updGroup g.order (fun x => { x with wantedDest := some d })

/-- A PUTBACK reported blocked (R128, R165): the old expectation is released and the choice made again. -/
def Station.blockedPutback (s : Station) (order : Nat) (old : BayAddr) : Station :=
  match (s.group? order).bind (fun g => g.tyres.head?) with
  | none => s
  | some t =>
    let (dest, s) := (s.unexpect old 1).expectDest t
    (s.markStuck order dest).putDest order dest

/-! ### Release -/

/-- A release asked of the Face Controller, or held back because another is pending or running (R144, R159). -/
def Station.requestRelease (s : Station) (order : Nat) : Station :=
  match s.group? order with
  | none => s
  | some g =>
    if s.fct.pendingRelease.isSome then s.updGroup order (fun x => { x with release := .held })
    else
      ({ s with fct := { s.fct with pendingRelease := some { order := order, count := g.tyres.length } } }).updGroup
        order (fun x => { x with release := .requested })

/-- A release request held back is made (R160). DESIGN CHOICE (log entry 32): of several, that of the group nearest the
head of the lane. -/
def Station.requestHeld (s : Station) : Station :=
  match s.cnu.groups.find? (fun g => g.release = .held) with
  | some g => s.requestRelease g.order
  | none => s

/-- The releases that failed are asked again when the mode returns to RUNNING (R160). -/
def Station.requestFailed (s : Station) : Station :=
  ((s.cnu.groups.filter (fun g => g.release = .failed)).map (fun g => g.order)).foldl
    (fun t order => t.requestRelease order) s

/-- A group and its PUTBACK task go (R131, R160, R166). -/
def Station.removeGroup (s : Station) (order : Nat) : Station :=
  let s := { s with cnu := { s.cnu with groups := s.cnu.groups.filter (fun g => g.order != order) } }
  s.removeJobs (fun j => match j with
    | .putback o _ => o == order
    | .pickStop _ | .load _ _ | .scan _ _ => false)

/-- Release complete (R160). DESIGN CHOICE (log entry 46): a request held back is made before the readies or the putback of
the next head begin. -/
def Station.releaseComplete (s : Station) (order : Nat) : Station :=
  let s := s.removeGroup order
  let s := s.dropWhere (fun r => r.pickOf order [.tentative, .won, .picking, .staged, .returning])
  let s := s.updOrder order (fun e => if e.state = .releasing then { e with state := .closed } else e)
  s.requestHeld

/-- Release failed after `exited` tyres have left (R160). -/
def Station.releaseFailed (s : Station) (order exited : Nat) : Station :=
  (s.updGroup order (fun g => { g with tyres := g.tyres.drop exited, release := .failed })).requestHeld

/-! ### Ready sets and abandons -/

/-- The abandon handle of an order is withdrawn, and its owed mark cleared (R159, R161). -/
def Station.withdrawAbandon (s : Station) (order : Nat) : Station :=
  match s.order? order with
  | none => s
  | some e =>
    let gone := e.abandon.any s.bus.canWithdraw
    (s.updOrder order (fun x =>
      { x with abandonOwed := none, abandon := if gone then none else x.abandon })).withdraw e.abandon

/-- The records of a completed order that are not STAGED are settled (R159 step 4). -/
def Station.settleUnstaged (s : Station) (order : Nat) : Station :=
  let s := s.dropWhere (fun r => r.pickOf order [.won])
  ((s.clu.records.filter (fun r => r.pickOf order [.picking])).map (fun r => r.serial)).foldl
    (fun t serial => t.releasePick serial) s

/-- A ready completes the order's ready set (R159). -/
def Station.completeOrder (s : Station) (order : Nat) : Station :=
  let s := s.updOrder order (fun e => { e with state := .releasing, holdStart := none })
  let s := s.withdrawAbandon order
  let s := s.dropTentativeOf order
  if (s.group? order).isSome then (s.requestRelease order).settleUnstaged order
  else (s.updOrder order (fun e => { e with state := .closed })).abandonRecords order

/-- A RDY taken (R155), with whether it is the station's own. -/
def Station.hearReady (s : Station) (order line : Nat) (own : Bool) : Station :=
  match s.order? order with
  | none => s
  | some e =>
    if e.state = .opened ∧ 1 ≤ line ∧ line ≤ e.lineCount ∧ e.ready.contains line = false then
      let s := s.updOrder order (fun x => { x with ready := x.ready ++ [line] })
      if e.ready.length + 1 = e.lineCount then s.completeOrder order
      else if own ∧ e.holdStart = none then s.updOrder order (fun x => { x with holdStart := some s.tick })
      else s
    else s

/-- Every owed ready of an order is dropped, its flag cleared, and its posted readies withdrawn (R161 step 1). -/
def Station.withdrawReadies (s : Station) (order : Nat) : Station :=
  let mine := (s.clu.records.filter (fun r => r.pickOf order [.staged])).map (fun r => r.serial)
  let s := s.setOwedReadies (s.cnu.owedReadies.filter (fun x => !mine.contains x))
  let s := mine.foldl (fun t serial => t.updPick serial (fun b => { b with readyOwed := false })) s
  let handles := ((s.group? order).map (fun g => g.readyHandles)).getD []
  let s := s.updGroup order (fun g => { g with readyHandles := [] })
  handles.foldl (fun t h => t.withdraw (some h)) s

/-- An ABN taken (R161): for an OPEN entry, its five steps. -/
def Station.hearAbandon (s : Station) (order : Nat) : Station :=
  if s.orderIn order .opened then
    let s := s.withdrawReadies order
    let s := s.withdrawAbandon order
    let s := s.abandonRecords order
    let s := s.updGroup order (fun g => { g with returning := true })
    s.updOrder order (fun e => { e with state := .closed, holdStart := none })
  else s

/-- The Consolidation Unit when the mode becomes HALTED (R162). -/
def Station.abandonHalted (s : Station) : Station :=
  ((s.cnu.orders.filter (fun e => e.state = .opened
      && s.clu.records.any (fun r => r.pickOf e.order [.won, .picking]))).map (fun e => e.order)).foldl
    (fun t order => t.raiseAbandon order .stationHalted) s

/-- The hold timer of an OPEN entry has run out, for the first time (R157). -/
def Station.holdDue (s : Station) (e : OrderEntry) : Bool :=
  e.state = .opened && !e.holdExpired && e.holdStart.any (fun t => s.elapsed t (s.cfg.holdLimit * 1000))

/-! ### Putback reports -/

/-- A tyre returned (R166): the front entry goes, its record with its last tyre, the group with its last tyre. -/
def Station.tyreReturned (s : Station) (order : Nat) : Station :=
  match s.group? order with
  | none => s
  | some g =>
    match g.tyres with
    | [] => s
    | t :: rest =>
      let s := s.updGroup order (fun x => { x with tyres := rest, putbackMark := false })
      let s := match t.serial with
        | some n => if rest.any (fun x => x.serial == some n) then s else s.dropRecord n
        | none => s
      if rest.isEmpty then s.removeGroup order else s

/-- A return failed (R166): the front tyre stays and its putback starts again. -/
def Station.returnFailed (s : Station) (order : Nat) : Station :=
  s.updGroup order (fun g => { g with putbackMark := false })

/-! ### Withdrawal and rejoin -/

/-- Every ready owed flag is cleared and the owed ready list emptied (R167, R168). -/
def Station.clearOwedReadies (s : Station) : Station :=
  { s with
    clu := { s.clu with records := s.clu.records.map (fun r => r.mapPick (fun b => { b with readyOwed := false })) }
    cnu := { s.cnu with owedReadies := [] } }

/-- The Consolidation Unit on a withdrawal from the bus (R167 steps 1 to 3, but for the putback that follows). -/
def Station.cnuWithdrawal (s : Station) : Station :=
  let s := s.clearOwedReadies
  { s with cnu := { s.cnu with
      orders := s.cnu.orders.map (fun e =>
        { e with state := .closed, holdStart := none, abandon := none, abandonOwed := none })
      groups := s.cnu.groups.map (fun g => { g with returning := true, readyHandles := [] }) } }

/-- The Consolidation Unit on the rejoin (R168). -/
def Station.cnuRejoin (s : Station) : Station :=
  let s := s.clearOwedReadies
  { s with cnu := { s.cnu with orders := s.cnu.orders.map (fun e => { e with abandonOwed := none }) } }

end Sys2Proof.Machine
end

