-- ==== Sys2Proof/Machine/Planner.lean ====
section
/-! DEFINITION. The Motion Planner: classes and readiness (R118, R119), the decision (R120, R121), moves and the home
check move (R122, R125), the position (R123), hand-over to the face (R126, R128), and its part in a halt (R129). -/

namespace Sys2Proof.Machine

/-! ### Classes and readiness -/

/-- The class of a task (R118). -/
def Task.rank (t : Task) : Nat :=
  if t.passed = 6 then 1
  else
    match t.job with
    | .putback _ _ => 2
    | .load _ _ => 3
    | .pickStop _ => 4
    | .scan _ _ => 5

/-- The target carrier of a task (R115). -/
def Job.target : Job → Option Nat
  | .pickStop stop => some stop.carrier
  | .load _ a => some a.carrier
  | .putback _ dest => dest.map (fun a => a.carrier)
  | .scan c _ => some c

/-- The order has a group on the lane. -/
def Station.hasGroup (s : Station) (order : Nat) : Bool := (s.group? order).isSome

/-- A WON or PICKING pick record belongs to another order that has a group on the lane (R119). -/
def Station.otherOrderOpen (s : Station) (order : Nat) : Bool :=
  s.clu.records.any (fun r =>
    match r.body with
    | .pick b => (b.state = .won || b.state = .picking) && b.order != order && s.hasGroup b.order
    | .putaway _ => false)

/-- The conditions of a PICK_STOP that concern its record (R119). -/
def Station.pickReady (s : Station) (stop : PickStop) : Bool :=
  match s.record? stop.serial with
  | none => false
  | some r =>
    match r.body with
    | .putaway _ => false
    | .pick b =>
      (b.state = .won || b.state = .picking) && decide (r.qty - b.staged ≤ s.cnu.freePositions)
        && (s.hasGroup b.order || !s.otherOrderOpen b.order)

/-- A task is ready (R119). -/
def Station.ready (s : Station) (job : Job) : Bool :=
  match job with
  | .pickStop stop => s.pickReady stop && s.mayTake stop.carrier && !s.fct.releasing
  | .load serial a => s.mayStore a.carrier && s.fct.infeed = .ofRecord serial
  | .putback _ dest => dest.any (fun a => s.mayStore a.carrier) && !s.fct.releasing
  | .scan _ _ => true

/-- The order and the destination of a PUTBACK whose destination carrier answers no to May STORE (R128). -/
def Station.blocked (s : Station) (job : Job) : Option (Nat × BayAddr) :=
  match job with
  | .putback order (some a) => if s.mayStore a.carrier then none else some (order, a)
  | .putback _ none | .pickStop _ | .load _ _ | .scan _ _ => none

/-- A blocked PUTBACK reported to the Consolidation Unit (R128). -/
def Station.reportBlocked (s : Station) (x : Nat × BayAddr) : Station := s.blockedPutback x.1 x.2

/-! ### Moves -/

/-- A MOVE given (R122): the move in flight, the last direction, the motion timer. -/
def Station.giveMove (s : Station) (dir : Dir) (steps target : Nat) (task : Option Nat) : Station :=
  { s with
    mpl := { s.mpl with
      held := none
      lastDir := dir
      move := some {
        dir := dir, steps := steps, target := target, task := task, started := s.tick
        limit := steps * s.cfg.pitchTime + s.cfg.motionMargin, homeSeen := false } }
    pins := { s.pins with drive := .move dir steps } }

/-- The home check move (R125): MOVE forward for N steps. -/
def Station.beginHomeCheck (s : Station) : Station := s.giveMove .forward s.cfg.n 0 none

/-- A task whose owner had it removed leaves as it stops being in flight (R131). -/
def Station.dropIfRemoved (s : Station) (id : Nat) : Station :=
  if (s.task? id).any (fun t => t.removed) then s.removeTask id else s

/-- STOP given to a move in flight, which ends at once (R122, R124, R129). -/
def Station.stopMove (s : Station) : Station :=
  match s.mpl.move with
  | none => s
  | some m =>
    let s := { s with mpl := { s.mpl with move := none }, pins := { s.pins with drive := .stop } }
    match m.task with
    | none => s
    | some id => s.dropIfRemoved id

/-! ### Hand-over to the face -/

/-- The carousel stands at the task's carrier (R126): a ready task goes to the face; any other is handed back, and the
decision that follows finds and reports it where it is a blocked PUTBACK (R128). -/
def Station.atTarget (s : Station) (t : Task) : Station :=
  if s.ready t.job then { s with fct := { s.fct with task := some t.id, stage := .check } } else s

/-! ### The decision -/

/-- The order of R120 among ready tasks: class, travel distance, forward before backward. -/
def Station.taskRank (s : Station) (t : Task) : List Nat :=
  let c := t.job.target.getD 0
  let d := s.travel c
  [t.rank, d, if forwardDistance s.cfg.n (s.mpl.p.getD 0) c = d then 0 else 1]

/-- The better of two tasks, the first of them the older (R120). -/
def Station.betterTask (s : Station) (best : Option Task) (t : Task) : Option Task :=
  match best with
  | none => some t
  | some u => if lexLt (s.taskRank t) (s.taskRank u) then some t else some u

/-- The task that a decision chooses (R120). -/
def Station.chosenTask (s : Station) : Option Task :=
  (s.mpl.tasks.filter (fun t => s.ready t.job)).foldl s.betterTask none

/-- The counts of the ready tasks not chosen rise by 1, up to 6 (R118). -/
def Station.raisePassed (s : Station) (chosen : Nat) : Station :=
  { s with mpl := { s.mpl with tasks := s.mpl.tasks.map (fun t =>
      if s.ready t.job ∧ t.id ≠ chosen then { t with passed := min 6 (t.passed + 1) } else t) } }

/-- The last move ended at least the reversal dwell ago (R121). -/
def Station.dwellOver (s : Station) : Bool := s.mpl.lastInPos.all (fun t => s.elapsed t s.cfg.dwell)

/-- The chosen task (R121): to the face at distance 0; otherwise its move begins, or it is held for the dwell. -/
def Station.startTask (s : Station) (t : Task) : Station :=
  let c := t.job.target.getD 0
  let d := s.travel c
  if d = 0 then s.atTarget t
  else
    let dir : Dir := if forwardDistance s.cfg.n (s.mpl.p.getD 0) c = d then .forward else .backward
    if dir = s.mpl.lastDir ∨ s.dwellOver then s.giveMove dir d c (some t.id)
    else { s with mpl := { s.mpl with held := some { task := t.id, dir := dir, steps := d, target := c } } }

/-- The planner is free to decide (R120); during a service hold it makes no decision (R130). -/
def Station.mayDecide (s : Station) : Bool :=
  s.stc.mode = .running && s.mpl.move.isNone && s.fct.task.isNone && s.mpl.held.isNone && s.stc.hold = .none
    && s.mpl.p.isSome

/-- The decision (R120), and the reports of blocked PUTBACKs after it (R128). -/
def Station.decision (s : Station) : Station :=
  if s.mayDecide then
    let blocked := s.mpl.tasks.filterMap (fun t => s.blocked t.job)
    let s := match s.chosenTask with
      | none => s
      | some t => (s.raisePassed t.id).startTask t
    blocked.foldl Station.reportBlocked s
  else s

/-- The destinations that the PUTBACK tasks have, with the names of the tasks. -/
def Mpl.destinations (m : Mpl) : List (Nat × BayAddr) :=
  m.tasks.filterMap (fun t =>
    match t.job with
    | .putback _ (some a) => some (t.id, a)
    | .putback _ none | .pickStop _ | .load _ _ | .scan _ _ => none)

/-- A destination given to a PUTBACK task (R128, R165); one taken away is no such event (R120). -/
def destinationGiven (old new : Mpl) : Bool := new.destinations.any (fun d => !old.destinations.contains d)

/-- A task added or a destination given since `before` is an event at which the planner decides (R120). -/
def Station.decideAfter (s : Station) (before : Station) : Station :=
  if before.mpl.tasks.map (fun t => t.id) ≠ s.mpl.tasks.map (fun t => t.id)
      ∨ destinationGiven before.mpl s.mpl then s.decision
  else s

/-- The putback of a RETURNING head group starts (R163), and the planner decides on the task added (R120). -/
def Station.beginPutback (s : Station) : Station := s.startPutback.decideAfter s

/-! ### Tasks the Claim Unit asks for -/

/-- The Claim Unit's requests, one after another while places are free, at most `fuel`; each task added is an event at
which the planner decides (R120). -/
def Station.serveClaims (s : Station) : Nat → Station
  | 0 => s
  | fuel + 1 =>
    match s.claimWant with
    | none => s
    | some w =>
      if s.acceptsTask w.job then (((s.addTask w.job).markWant w).decision).serveClaims fuel else s

/-! ### The position -/

/-- One pitch in a direction (R123). -/
def stepPosition (n : Nat) (dir : Dir) (p : Nat) : Nat :=
  match dir with
  | .forward => (p + 1) % n
  | .backward => (p + n - 1) % n

/-- The direction in which an INDEX pulse steps p (R123). -/
def Mpl.indexDir (m : Mpl) : Dir := (m.move.map (fun x => x.dir)).getD m.lastDir

/-! ### A home mismatch (R129) -/

/-- SCAN tasks leave the list and AUDIT leaves their carriers; a scan whose readings are in progress leaves at its
next reading, whose answer is discarded (R129, R147). DESIGN CHOICE (log entry 33): the rescan want of a carrier whose scan
had no reading yet stays. -/
def Station.dropScans (s : Station) : Station :=
  let mine := s.mpl.tasks.filterMap (fun t =>
    match t.job with
    | .scan c _ => if s.fct.task = some t.id then none else some (t.id, c)
    | .pickStop _ | .load _ _ | .putback _ _ => none)
  let s := mine.foldl (fun t x => (t.removeTask x.1).putReason x.2 .audit false) s
  { s with fct := { s.fct with gauge := s.fct.gauge.map (fun g =>
      if g.purpose.isSome then { g with discard := true } else g) } }

end Sys2Proof.Machine
end

