-- ==== Sys2Proof/Machine/Control.lean ====
section
/-! DEFINITION. Station Control: halting faults (R129, R192), the service request (R189, R191), the end of a resume
(R193); and of the Bus Interface the counters and standings (R67, R68), withdrawal (R70) and rejoin (R72). -/

namespace Sys2Proof.Machine

/-! ### Halt -/

/-- The home mismatch mark is set, and the SCAN tasks go (R129, R192). -/
def Station.markMismatch (s : Station) : Station :=
  ({ s with stc := { s.stc with homeMismatch := true } }).dropScans

/-- The effects of an entry to HALTED at the blocks (R112, R129, R162), and its STS trigger (R195). -/
def Station.enterHalted (s : Station) : Station :=
  let s := { s with
    stc := { s.stc with mode := .halted, resume := false }
    pins := { s.pins with fault := true }
    mpl := { s.mpl with held := none } }
  s.stopMove.dropTentatives.abandonHalted

/-- A halting fault reported (R192). In STARTING its code is recorded alone (R188, R194). -/
def Station.haltFault (s : Station) (f : StationFault) : Station :=
  let s := { s with stc := { s.stc with lastFault := some f } }
  match s.stc.mode with
  | .starting => s
  | .running | .service =>
    let s := s.enterHalted
    (if f = .homeMismatch then s.markMismatch else s).statusTrigger
  | .halted =>
    let s := if f = .homeMismatch then s.markMismatch else s
    let s := if f = .motionTimeout then { s with stc := { s.stc with resume := false } } else s
    s.statusTrigger

/-- The home check of a resume has completed (R193): RUNNING, FAULT released, TOUCHED on carrier 0 or on every
carrier, the lane fault mark cleared, failed releases asked again. -/
def Station.resumeComplete (s : Station) : Station :=
  let touched := if s.stc.homeMismatch then List.range s.cfg.n else [0]
  let s := { s with
    stc := { s.stc with mode := .running, resume := false, homeMismatch := false }
    fct := { s.fct with laneFault := false }
    pins := { s.pins with fault := false } }
  (touched.foldl Station.touch s).requestFailed.statusTrigger

/-- MOTION_TIMEOUT of a move that has ended (R122, R125): at start homing has failed and the join follows. -/
def Station.motionFailed (s : Station) : Station :=
  if s.stc.start = .homing then { s with stc := { s.stc with start := .joining, homed := false } }
  else s.haltFault .motionTimeout

/-! ### Service hold -/

/-- SVC_REQ taken in RUNNING or HALTED (R189). DESIGN CHOICE (log entry 43): the Claim Unit acts on the change to SERVICE
(R112), with the offers of the slots it frees, before the STS of the change is posted (R195). -/
def Station.takeService (s : Station) : Station :=
  if s.stc.hold = .none then
    match s.stc.mode with
    | .starting | .service => s
    | .halted => { s with stc := { s.stc with hold := .waiting } }
    | .running =>
      let s := { s with
        stc := { s.stc with mode := .service, hold := .waiting }
        mpl := { s.mpl with held := none } }
      s.claimsOnService.statusTrigger
  else s

/-- SVC_REQ falls (R191): back in RUNNING the planner decides at once (R130), before the Audit Unit asks for its scans.
DESIGN CHOICE (log entry 37): a hold that a resume has carried from HALTED into RUNNING is cleared with SVC_ACK alone. -/
def Station.endService (s : Station) : Station :=
  if s.stc.hold = .none then s
  else
    let s := { s with stc := { s.stc with hold := .none }, pins := { s.pins with svcAck := false } }
    match s.stc.mode with
    | .service => { s with stc := { s.stc with mode := .running } }.statusTrigger.decision
    | .starting | .running | .halted => s

/-- No move, no cycle and no readings are in flight: the face is free (R130, R149). -/
def Station.faceFree (s : Station) : Bool := s.mpl.move.isNone && s.fct.cycle.isNone && s.fct.gauge.isNone

/-- The report that the face is free, taken while the hold is WAITING (R189): ACKED, SVC_ACK, and TOUCHED on the
carrier at the face where p has a value. -/
def Station.acknowledge (s : Station) : Station :=
  if s.stc.hold = .waiting ∧ s.faceFree then
    let s := { s with stc := { s.stc with hold := .acked }, pins := { s.pins with svcAck := true } }
    match s.mpl.p with
    | some c => s.touch c
    | none => s
  else s

/-! ### Standings -/

/-- The Bus Interface empties its own state at a withdrawal (R70). TEC and REC keep their values. -/
def Bus.withdrawn (b : Bus) : Bus :=
  { b with
    standing := .withdrawn, posts := [], owed := [], rxq := [], delayCount := 0, rejoinRuns := 0, rejoinPartial := 0
    ready := false, sending := none, errorWait := none, skip := 0, gap := .none, acked := false, drive := [] }

/-- The withdrawal from the store bus with its effects at the blocks (R70, R91, R112, R167, R169): the putback of the head
group starts before the Claim Unit's records go (R167 steps 3 and 4). -/
def Station.withdrawal (s : Station) : Station :=
  let s := ({ s with bus := s.bus.withdrawn }).cnuWithdrawal.beginPutback.claimsOnWithdrawal
  { s with
    adu := { s.adu with owedReports := [], snapshot := none, pendingQuery := none }
    stc := { s.stc with statusOwed := false } }

/-- A change among ACTIVE, CAUTION and QUIET (R112, R195): QUIET drops the TENTATIVE records. DESIGN CHOICE (log entry
43): it does so, with the offers of the slots that it frees, before the STS of the change is posted. -/
def Station.standingChanged (s : Station) : Station :=
  (if s.bus.standing = .quiet then s.dropTentatives else s).statusTrigger

/-- New values of the counters, and the standing decided afresh (R68). -/
def Station.setCounters (s : Station) (tec recCtr : Nat) : Station :=
  let old := s.bus.standing
  let new := standingOf tec recCtr
  let s := { s with bus := { s.bus with tec := tec, recCtr := recCtr, standing := new } }
  if new = .withdrawn then s.withdrawal else if new = old then s else s.standingChanged

/-- The standing that follows from the counters once an error has been counted (R67, R68). -/
def Bus.standingAfter (b : Bus) (tec recCtr : Nat) : Standing := standingOf (b.tec + tec) (min 255 (b.recCtr + recCtr))

/-- Errors counted (R67): REC stops at 255; a WITHDRAWN station's counters keep their values (R70). -/
def Station.countErrors (s : Station) (tec recCtr : Nat) : Station :=
  if s.bus.standing = .withdrawn then s
  else s.setCounters (s.bus.tec + tec) (min 255 (s.bus.recCtr + recCtr))

/-- A frame completed (R67): TEC falls by 1 at its transmitter, REC at a receiver, to no less than 0. -/
def Station.countSuccess (s : Station) (role : Role) : Station :=
  match role with
  | .transmitter => s.setCounters (s.bus.tec - 1) s.bus.recCtr
  | .receiver => s.setCounters s.bus.tec (s.bus.recCtr - 1)

/-- The rejoin with its effects at the blocks (R72, R91, R168, R169), and its STS (R195). -/
def Station.rejoined (s : Station) : Station :=
  let s := { s with
    bus := { s.bus with
      standing := .active, tec := 0, recCtr := 0, rejoinRuns := 0, rejoinPartial := 0, owed := [], ready := false }
    clu := { s.clu with records := s.clu.records.map (fun (r : LineRec) => { r with bid := { r.bid with closeOwed := false } }) }
    adu := { s.adu with owedReports := [] }
    stc := { s.stc with statusOwed := false } }
  s.cnuRejoin.statusTrigger

end Sys2Proof.Machine
end

