-- ==== Sys2Proof/Machine/Audit.lean ====
section
/-! DEFINITION. The Audit Unit: estimates and grades (R174 to R176), scans and touch audits (R178, R179), audit reports
(R180), stock answers (R181 to R184), and the scans it wants (R170 to R173). -/

namespace Sys2Proof.Machine

/-! ### From height to grade -/

/-- The estimate n of a height (R174). -/
def estimate (h pitch : Nat) : Nat := (h + pitch / 2) / pitch

/-- The reading is sure (R174). -/
def sureReading (h pitch cap : Nat) : Bool :=
  let n := estimate h pitch
  decide (8 * absDiff h (n * pitch) ≤ 3 * pitch ∧ n ≤ cap ∧ h ≤ 2000)

/-- The grade of a reading (R175): `bound` is the count of a bound bay. -/
def gradeOf (sure : Bool) (bound : Option Nat) (n tau : Nat) : Grade :=
  if !sure then .unsure
  else
    match bound with
    | none => if n = 0 then .clean else .discrepant
    | some count => if n = count then .clean else if absDiff n count ≤ tau then .adjusted else .discrepant

/-- The pitch and the capacity that a reading of the bay is estimated with (R174). -/
def Station.gaugeFigures (s : Station) (b : Bay) : Nat × Nat :=
  match b.binding.bind (fun x => s.smap.article? x.article) with
  | some a => (a.pitch, capB s.cfg.h a.pitch)
  | none => (150, 15)

/-- The outcome of the grading of one reading: what an ARP carries, and whether it was a first UNSURE. -/
structure Graded where
  result : BayResult
  firstUnsure : Bool
  deriving DecidableEq, Repr

/-- A reading of height `h` graded against the bay as it stands (R174, R175, R180). -/
def Station.grade (s : Station) (b : Bay) (h : Nat) : Graded :=
  let pitch := (s.gaugeFigures b).1
  let cap := (s.gaugeFigures b).2
  let n := estimate h pitch
  let g := gradeOf (sureReading h pitch cap) (b.binding.map (fun _ => b.count)) n s.cfg.tau
  { result := { grade := g, recorded := b.count, measured := n }, firstUnsure := g = .unsure && !b.unsureOnce }

/-- The last grade and the unsure-once mark of a bay; neither is retained. -/
def Station.markBay (s : Station) (a : BayAddr) (g : Grade) (unsure : Bool) : Station :=
  s.updCarrier a.carrier (fun k =>
    { k with bays := k.bays.modify a.bay (fun b => { b with grade := g, unsureOnce := unsure }) })

/-- What a grade does to the bay and the carrier (R176). -/
def Station.applyGrade (s : Station) (a : BayAddr) (x : Graded) : Station :=
  match x.result.grade with
  | .none => s
  | .clean => s.markBay a .clean false
  | .adjusted => (s.markBay a .adjusted false).adjust a x.result.measured
  | .discrepant => (s.markBay a .discrepant false).putReason a.carrier .quarantine true
  | .unsure =>
    let s := s.markBay a .unsure true
    if x.firstUnsure then s else s.putReason a.carrier .quarantine true

/-! ### Audit reports -/

/-- An owed report of a carrier takes the place of an older one of it, or the end of the list (R180). -/
def owedWith (r : Report) : List Report → List Report
  | [] => [r]
  | x :: xs => if x.carrier = r.carrier then r :: xs else x :: owedWith r xs

/-- An ARP posted, or owed (R180). -/
def Station.postReport (s : Station) (r : Report) : Station :=
  match s.post .arp (arpPayload r) with
  | (some _, s) => s
  | (none, s) => { s with adu := { s.adu with owedReports := owedWith r s.adu.owedReports } }

/-- The report of a touch audit (R179): every other bay with grade none and its recorded count. -/
def Station.touchReport (s : Station) (a : BayAddr) (x : BayResult) : Report where
  carrier := a.carrier
  results := (((s.carrier? a.carrier).map (fun k => k.bays)).getD []).zipIdx.map (fun y =>
    if y.2 = a.bay then x else { grade := .none, recorded := y.1.count, measured := 0 })

/-- A want to scan the carrier again (R169). -/
def Station.setRescan (s : Station) (c : Nat) (p : Option Purpose) : Station :=
  s.updCarrier c (fun k => { k with rescan := p })

/-- A touch audit reading (R179). -/
def Station.touchAudit (s : Station) (a : BayAddr) (h : Nat) : Station :=
  match s.bay? a with
  | none => s
  | some b =>
    let x := s.grade b h
    let report := s.touchReport a x.result
    let s := s.applyGrade a x
    match x.result.grade with
    | .none | .clean | .adjusted => s
    | .discrepant => s.postReport report
    | .unsure => (if x.firstUnsure then s.setRescan a.carrier (some .touched) else s).postReport report

/-! ### Scans -/

/-- The first READ of a scan: the due reason is cleared (R171), and the scan's notes begin. -/
def Station.scanBegun (s : Station) (c : Nat) : Station :=
  let s := s.updCarrier c (fun k => { k with due := .none })
  { s with adu := { s.adu with note := false, touchedInScan := false, results := [] } }

/-- A reading of a scan handed over (R175, R176). -/
def Station.scanReading (s : Station) (a : BayAddr) (h : Nat) : Station :=
  match s.bay? a with
  | none => s
  | some b =>
    let x := s.grade b h
    let s := s.applyGrade a x
    { s with adu := { s.adu with note := s.adu.note || x.firstUnsure, results := s.adu.results ++ [x.result] } }

/-- The scan's notes cleared. -/
def Station.clearScanNotes (s : Station) : Station :=
  { s with adu := { s.adu with note := false, touchedInScan := false, results := [] } }

/-- The scan's readings are complete (R178). -/
def Station.scanComplete (s : Station) (c : Nat) (p : Purpose) : Station :=
  let note := s.adu.note
  let s := s.postReport { carrier := c, results := s.adu.results }
  let s := s.scanCompleted c note s.adu.touchedInScan
  (if note then s.setRescan c (some p) else s).clearScanNotes

/-- The scan ended by a HOME_MISMATCH halt (R178): no report, its note and the carrier's rescan want cleared. -/
def Station.scanAbandoned (s : Station) (c : Nat) : Station := ((s.putReason c .audit false).setRescan c none).clearScanNotes

/-! ### Stock answers -/

/-- The entry of a bay that matches the query's article (R182). -/
def Station.snapEntry (s : Station) (article : Nat) (x : BayAddr × Bay) : Option SnapEntry :=
  match x.2.binding with
  | none => none
  | some y =>
    if article = 0 ∨ y.article = article then
      some {
        carrier := x.1.carrier, bay := x.1.bay, article := y.article, week := y.week, count := x.2.count
        available := x.2.count - x.2.reserved, locked := s.lockedAnswer x.1.carrier }
    else none

/-- The one entry of an answer that no bay matches (R182). -/
def SnapEntry.none : SnapEntry where
  carrier := 0
  bay := 0
  article := 0
  week := 0
  count := 0
  available := 0
  locked := false

/-- The capture (R182): the first 32 matching bays. -/
def Station.capture (s : Station) (article : Nat) : List SnapEntry :=
  match (s.allBays.filterMap (s.snapEntry article)).take 32 with
  | [] => [SnapEntry.none]
  | es => es

/-- The SAN of the next unposted entry posted (R183), for at most `fuel` entries, while fewer than 4 are in the
table; a refused post makes SAN owed. -/
def Station.postAnswers (s : Station) : Nat → Station
  | 0 => s
  | fuel + 1 =>
    match s.adu.snapshot with
    | none => s
    | some sn =>
      match sn.entries[sn.nextToPost]? with
      | none => s
      | some e =>
        if 4 ≤ sn.inTable then s
        else
          match s.post .san (sanPayload sn.nextToPost (sn.nextToPost + 1 == sn.entries.length) e) with
          | (none, s) => s
          | (some _, s) =>
            ({ s with adu := { s.adu with
                snapshot := some { sn with nextToPost := sn.nextToPost + 1, inTable := sn.inTable + 1 } } }).postAnswers
              fuel

/-- A query becomes current (R181): captured, and its SANs begin. -/
def Station.beginAnswer (s : Station) (article : Nat) : Station :=
  ({ s with adu := { s.adu with
      snapshot := some { entries := s.capture article, nextToPost := 0, inTable := 0 } } }).postAnswers 4

/-- An accepted SQY (R181). -/
def Station.takeQuery (s : Station) (article : Nat) : Station :=
  if s.adu.snapshot.isNone then s.beginAnswer article
  else { s with adu := { s.adu with pendingQuery := some article } }

/-- A SAN reported SENT: one fewer in the table (R183). -/
def Station.answerSent (s : Station) : Station :=
  { s with adu := { s.adu with snapshot := s.adu.snapshot.map (fun sn => { sn with inTable := sn.inTable - 1 }) } }

/-- What follows a SENT SAN (R183, R184): the next SAN, or with the last flag the end of the answer and the pending
query. -/
def Station.afterAnswer (s : Station) (last : Bool) : Station :=
  if last then
    match s.adu.pendingQuery with
    | none => { s with adu := { s.adu with snapshot := none } }
    | some article => ({ s with adu := { s.adu with snapshot := none, pendingQuery := none } }).beginAnswer article
  else s.postAnswers 1

/-! ### Wants -/

/-- Every bay of the carrier has reserved 0 and incoming 0 (R170). -/
def Carrier.unpromised (k : Carrier) : Bool := k.bays.all (fun b => b.reserved == 0 && b.incoming == 0)

/-- The want of a carrier with its place in the table of R170, if it has one. -/
def wantOf (hold : Hold) (k : Carrier) : Option (Nat × Purpose) :=
  match k.rescan with
  | some p => some (0, p)
  | none =>
    if k.locks.audit then none
    else if k.locks.unverified then some (1, .start)
    else if k.locks.touched && hold = .none then some (2, .touched)
    else if k.unpromised then
      match k.due with
      | .request => some (3, .request)
      | .cyclic => some (4, .cyclic)
      | .none => none
    else none

/-- The wants of the carriers that have no SCAN task, lowest carrier first: the carrier, the place in the table of
R170, the purpose. -/
def Station.wants (s : Station) : List (Nat × Nat × Purpose) :=
  s.smap.carriers.zipIdx.filterMap (fun x =>
    if s.hasScan x.2 then none else (wantOf s.stc.hold x.1).map (fun w => (x.2, w.1, w.2)))

/-- The first want in the order of the table, and of one kind the lowest carrier (R170). -/
def firstWant : List (Nat × Nat × Purpose) → Option (Nat × Nat × Purpose)
  | [] => none
  | x :: xs =>
    match firstWant xs with
    | none => some x
    | some y => if y.2.1 < x.2.1 then some y else some x

/-- The Audit Unit's requests while places are free, at most `fuel` (R170): in RUNNING and HALTED alone; with
`byCarrier` the lowest carrier first, as on a change of mode; each task added is an event at which the planner decides
(R120). -/
def Station.serveAudit (s : Station) (byCarrier : Bool) : Nat → Station
  | 0 => s
  | fuel + 1 =>
    if (s.stc.mode = .running ∨ s.stc.mode = .halted) ∧ s.mpl.tasks.length < 24 then
      match (if byCarrier then s.wants.head? else firstWant s.wants) with
      | none => s
      | some (c, _, p) => (((s.addTask (.scan c p)).setRescan c none).decision).serveAudit byCarrier fuel
    else s

/-- The due reason of a carrier (R171): REQUEST replaces CYCLIC, CYCLIC does not replace REQUEST. -/
def Station.setDue (s : Station) (c : Nat) (d : Due) : Station :=
  s.updCarrier c (fun k => { k with due := if d = .cyclic ∧ k.due = .request then .request else d })

/-- The idle timer as the state asks for it (R173): it runs while RUNNING with an empty task list and a delay. -/
def Station.idleTimer (s : Station) : Station :=
  let runs := s.stc.mode = .running ∧ s.cfg.idleDelay ≠ 0 ∧ s.mpl.tasks = []
  { s with adu := { s.adu with
      idleStart := if runs then some (s.adu.idleStart.getD s.tick) else none } }

/-- The idle timer runs out (R173). -/
def Station.idleExpired (s : Station) : Station :=
  let s := s.setDue s.adu.pointer .cyclic
  { s with adu := { s.adu with pointer := (s.adu.pointer + 1) % s.cfg.n, idleStart := some s.tick } }

end Sys2Proof.Machine
end

