-- ==== Sys2Proof/Machine/Face.lean ====
section
/-! DEFINITION. The Face Controller: the lane drive (R143 to R145), the steps of the task at the face (R134, R137, R141,
R146, R147), the ends of cycles (R135 to R138, R141, R142, R146), the infeed (R139, R140), the gauge (R147, R148). -/

namespace Sys2Proof.Machine

/-! ### The lane drive -/

/-- The lane outputs of a lane drive state (R143, section 11.7): STOW rolls back, the others roll forward, RELEASE and
SWEEP with the gate open. -/
def Pins.lane (p : Pins) (l : Lane) : Pins :=
  { p with
    laneForward := l = .presenting || l = .releasing || l = .sweeping
    laneReverse := l = .stowing
    laneGate := l = .releasing || l = .sweeping }

/-- A lane command given: its state, its outputs, the lane timer (R143). -/
def Station.giveLane (s : Station) (l : Lane) : Station :=
  { s with fct := { s.fct with lane := l, laneStarted := s.tick }, pins := s.pins.lane l }

/-- The lane drive returns to IDLE: rollers stopped, gate shut. -/
def Station.laneIdle (s : Station) : Station :=
  { s with fct := { s.fct with lane := .idle }, pins := s.pins.lane .idle }

/-- A STOW begins: the lane drive is IDLE, its fault mark is clear, and HEAD_OCC is asserted; with HEAD_OCC clear it
ends at once with no motion (R143). -/
def Station.stow (s : Station) : Station :=
  if s.fct.lane = .idle ∧ s.fct.laneFault = false ∧ s.pins.headOcc then s.giveLane .stowing else s

/-- The lane is free for a RELEASE or a SWEEP, apart from the head position (R144, R145). -/
def Fct.laneFree (f : Fct) : Bool := f.lane = .idle && !f.laneCycle && !f.laneFault

/-- The pending release begins when it can; a tyre at the head position is stowed first (R144). -/
def Station.beginRelease (s : Station) : Station :=
  if s.fct.pendingRelease.isSome && s.fct.laneFree then
    if s.pins.headOcc then s.giveLane .stowing
    else { s.giveLane .releasing with fct := { (s.giveLane .releasing).fct with exitCount := 0 } }
  else s

/-- The conditions of R145 hold, and the sweep begins. -/
def Station.beginSweep (s : Station) : Station :=
  if s.cnu.groups.isEmpty && !s.pins.laneClear && s.fct.pendingRelease.isNone && s.fct.laneFree then
    s.giveLane .sweeping
  else s

/-! ### The end of a task at the face (R126) -/

/-- The task leaves the face and stays in the list: handed back, or LOAD waiting. -/
def Station.handBack (s : Station) : Station := { s with fct := { s.fct with task := none, stage := .check } }

/-- The task leaves the face and the list: complete, aborted or removed. -/
def Station.endTask (s : Station) (id : Nat) : Station := s.handBack.removeTask id

/-- LOAD waiting, or the end of a LOAD whose owner had it removed (R126, R131). -/
def Station.endLoad (s : Station) (t : Task) : Station := if t.removed then s.endTask t.id else s.handBack

/-! ### Readings -/

/-- READ given for a bay of a carrier (R147). -/
def Station.read (s : Station) (a : BayAddr) (p : Option Purpose) : Station :=
  { s with
    fct := { s.fct with
      stage := .reading
      gauge := some { carrier := a.carrier, bay := a.bay, purpose := p, started := s.tick, discard := false } }
    pins := { s.pins with gauge := some a.bay } }

/-! ### Cycles begun -/

/-- CYCLE given (R133): kind and bay, at the carrier at the face; a TAKE holds its article's unit mass and pitch. -/
def Station.giveCycle (s : Station) (kind : CycleKind) (a : BayAddr) : Station :=
  let entry := ((s.bay? a).bind (fun b => b.binding)).bind (fun x => s.smap.article? x.article)
  { s with
    fct := { s.fct with
      stage := .cycle
      cycle := some {
        kind := kind, carrier := s.mpl.p.getD a.carrier, bay := a.bay, phase := .approach, started := s.tick
        extended := false, timedOut := false
        unitMass := if kind = .take then (entry.map (fun e => e.unitMass)).getD 0 else 0
        pitch := if kind = .take then (entry.map (fun e => e.pitch)).getD 0 else 0 } }
    pins := { s.pins with extractor := some (kind, a.bay) } }

/-- A cycle may begin in this mode (R134); none begins while SVC_ACK is asserted (section 11.4). -/
def Station.mayCycle (s : Station) : Bool := s.stc.mode = .running && !s.pins.svcAck

/-- The carrier at the face, whose locks are checked (R25, R134); the task's own where p has no value. -/
def Station.faceCarrier (s : Station) (a : BayAddr) : Nat := s.mpl.p.getD a.carrier

/-- The bay of a PICK_STOP. -/
def PickStop.addr (stop : PickStop) : BayAddr where
  carrier := stop.carrier
  bay := stop.bay

/-- A PICK_STOP before its next cycle (R137), then the preconditions of a TAKE (R134) and the lock check (R25). -/
def Station.pickStep (s : Station) (t : Task) (stop : PickStop) : Station :=
  if stop.qty = 0 then s.read stop.addr none
  else if t.removed then s.endTask t.id
  else if !s.mayCycle || s.fct.pendingRelease.isSome || s.fct.lane ≠ .idle then s.handBack
  else if s.pins.headOcc then
    if s.fct.laneFault then s.handBack
    else { s.stow with fct := { s.stow.fct with stage := .stray } }
  else if s.mayTake (s.faceCarrier stop.addr) then s.giveCycle .take stop.addr
  else s.handBack

/-- A LOAD before its cycle (R134, R141). -/
def Station.loadStep (s : Station) (t : Task) (serial : Nat) (a : BayAddr) : Station :=
  if t.removed then s.endTask t.id
  else if !s.mayCycle || s.fct.infeed ≠ .ofRecord serial then s.handBack
  else if s.mayStore (s.faceCarrier a) then s.giveCycle .store a
  else s.handBack

/-- A PUTBACK before its cycle (R134, R146). -/
def Station.putbackStep (s : Station) (t : Task) (dest : Option BayAddr) : Station :=
  match dest with
  | none => if t.removed then s.endTask t.id else s.handBack
  | some a =>
    if t.removed then s.endTask t.id
    else if !s.mayCycle || s.fct.pendingRelease.isSome || s.fct.lane ≠ .idle then s.handBack
    else if !s.pins.headOcc then
      if s.fct.laneFault then s.handBack
      else { s.giveLane .presenting with fct := { (s.giveLane .presenting).fct with stage := .presenting } }
    else if s.mayStore (s.faceCarrier a) then s.giveCycle .ret a
    else s.handBack

/-- A SCAN handed to the face: the first READ (R147, R171). -/
def Station.scanStep (s : Station) (t : Task) (c : Nat) (p : Purpose) : Station :=
  if t.removed then s.endTask t.id else (s.scanBegun c).read { carrier := c, bay := 0 } (some p)

/-- The check before the next step of the task at the face. -/
def Station.faceCheck (s : Station) (t : Task) : Station :=
  match t.job with
  | .pickStop stop => s.pickStep t stop
  | .load serial a => s.loadStep t serial a
  | .putback _ dest => s.putbackStep t dest
  | .scan c p => s.scanStep t c p

/-- The readings of the task at the face have ended, and for a PICK_STOP its last stow as well (R137, R141, R148). -/
def Station.readingsOver (s : Station) (job : Job) : Bool :=
  s.fct.gauge.isNone &&
    (match job with
    | .pickStop _ => s.fct.lane ≠ .stowing
    | .load _ _ | .putback _ _ | .scan _ _ => true)

/-- The task at the face goes on where what it waited for has ended (R134, R136, R137, R143). A stray stow and a present are
waited for in RUNNING alone: with no cycle in flight the task is handed back as the mode leaves it (R130, R149). -/
def Station.faceAdvance (s : Station) : Station :=
  match s.faceTask? with
  | none => s
  | some t =>
    match s.fct.stage with
    | .check => s.faceCheck t
    | .cycle => s
    | .stowing => if s.fct.lane = .idle then s.faceCheck t else s
    | .stray | .presenting => if s.fct.lane = .idle ∨ s.stc.mode ≠ .running then s.faceCheck t else s
    | .reading => if s.readingsOver t.job then s.endTask t.id else s

/-! ### Ends of cycles -/

/-- The timeout mark, and the fault of a timed-out cycle (R135 step 4). -/
def Station.timeoutFault (s : Station) : Station :=
  if s.fct.timeoutMark then ({ s with fct := { s.fct with timeoutMark := false } }).haltFault .extractorRepeat
  else ({ s with fct := { s.fct with timeoutMark := true } }).nonHaltingFault .extractorTimeout

/-- A cycle that met EXTRACTOR_TIMEOUT (R135). -/
def Station.cycleTimedOut (s : Station) (t : Task) (c : Cycle) : Station :=
  ((s.extractorFault c.carrier).endTask t.id).timeoutFault

/-- The abort of a PICK_STOP settled with the Claim Unit (R138, R111). -/
def Station.settleAbort (s : Station) (stop : PickStop) : Station :=
  match s.pick? stop.serial with
  | none => s.unreserve [(stop.addr, 1)]
  | some b =>
    let s := s.unreserve [(stop.addr, b.holds stop.addr)]
    let s := s.updPick stop.serial (fun b =>
      { b with sel := b.sel.map (fun e => if e.addr = stop.addr then { e with qty := 0 } else e) })
    s.raiseAbandon b.order .stockLost

/-- The tyre entry of a tyre taken (R154), from the article table as it stands, or what the TAKE cycle holds. -/
def Station.takenTyre (s : Station) (stop : PickStop) (c : Cycle) : Tyre :=
  let entry := s.smap.article? stop.article
  { serial := (s.record? stop.serial).map (fun r => r.serial), article := stop.article, week := stop.week
    unitMass := (entry.map (fun e => e.unitMass)).getD c.unitMass
    pitch := (entry.map (fun e => e.pitch)).getD c.pitch
    origin := stop.addr }

/-- The quantity of a PICK_STOP falls by 1 (R136). -/
def Task.lessOne (t : Task) : Task :=
  match t.job with
  | .pickStop stop => { t with job := .pickStop { stop with qty := stop.qty - 1 } }
  | .load _ _ | .putback _ _ | .scan _ _ => t

/-- The end of a TAKE cycle (R136, R137, R138). -/
def Station.takeEnd (s : Station) (t : Task) (stop : PickStop) (c : Cycle) : Station :=
  if c.timedOut then
    let s := (s.cycleTimedOut t c).settleAbort stop
    s.stow
  else
    let s := { s with fct := { s.fct with timeoutMark := false, stage := .stowing } }
    let s := s.takeReport stop.addr
    let s := s.tyreTaken stop.serial stop.addr
    let s := s.tyreStaged stop.order (s.takenTyre stop c)
    let s := (s.updTask t.id Task.lessOne).stow
    if stop.qty ≤ 1 then s.read stop.addr none else s

/-- The infeed tyre becomes SURPLUS, and INFEED_SURPLUS is reported (R139). -/
def Station.surplus (s : Station) : Station :=
  ({ s with fct := { s.fct with infeed := .surplus } }).nonHaltingFault .infeedSurplus

/-- The tyre has left the infeed (R140): an arrival of a record is withdrawn. -/
def Station.infeedEmptied (s : Station) : Station :=
  match s.fct.infeed with
  | .none => s
  | .surplus => { s with fct := { s.fct with infeed := .none } }
  | .ofRecord serial =>
    ({ s with fct := { s.fct with infeed := .none } }).updPut serial (fun b => { b with arrived := b.arrived - 1 })

/-- The end of a STORE cycle (R141, R142, R110). -/
def Station.storeEnd (s : Station) (t : Task) (serial : Nat) (a : BayAddr) (c : Cycle) : Station :=
  if c.timedOut then
    let s := s.cycleTimedOut t c
    let s := if (s.put? serial).isSome then s else s.unexpect a 1
    if s.pins.infeedOcc then s else s.infeedEmptied
  else
    let s := { s with fct := { s.fct with timeoutMark := false, infeed := .none } }
    let s := (s.storeReport a).updPut serial (fun b => { b with stored := b.stored + 1 })
    let s := if s.pins.infeedOcc then s.surplus else s
    match s.record? serial, s.put? serial with
    | some r, some b =>
      if r.qty ≤ b.stored then (s.dropRecord serial).read a none else s.handBack
    | _, _ => s.endLoad t

/-- The end of a RETURN cycle (R146, R166). -/
def Station.returnEnd (s : Station) (t : Task) (order : Nat) (dest : Option BayAddr) (c : Cycle) : Station :=
  match dest with
  | none => s.endTask t.id
  | some a =>
    if c.timedOut then ((s.cycleTimedOut t c).unexpect a 1).returnFailed order
    else
      let s := { s with fct := { s.fct with timeoutMark := false } }
      ((s.storeReport a).tyreReturned order).endTask t.id

/-- The end of a cycle with its outcome (R133). -/
def Station.cycleEnded (s : Station) (c : Cycle) : Station :=
  let s := { s with fct := { s.fct with cycle := none } }
  match s.faceTask? with
  | none => s
  | some t =>
    match t.job with
    | .pickStop stop => s.takeEnd t stop c
    | .load serial a => s.storeEnd t serial a c
    | .putback order dest => s.returnEnd t order dest c
    | .scan _ _ => s

/-! ### The infeed -/

/-- An arrival pulse (R139, R109). -/
def Station.arrival (s : Station) : Station :=
  match s.fct.infeed with
  | .none =>
    match s.arrivalRecord with
    | none => s.surplus
    | some (r, _) => ({ s with fct := { s.fct with infeed := .ofRecord r.serial } }).countArrival r
  | .ofRecord _ | .surplus => s.surplus

/-- A STORE cycle is in flight. -/
def Fct.storing (f : Fct) : Bool := f.cycle.any (fun c => c.kind = .store)

/-! ### The gauge -/

/-- A reading ends with a height (R147, R148, R129). -/
def Station.readingEnded (s : Station) (g : Reading) (h : Nat) : Station :=
  let a : BayAddr := { carrier := g.carrier, bay := g.bay }
  let s := { s with fct := { s.fct with gauge := none } }
  let ended (u : Station) : Station :=
    match u.fct.task with
    | some id => u.endTask id
    | none => u
  match g.purpose with
  | none => s.touchAudit a h
  | some p =>
    if g.discard then ended (s.scanAbandoned g.carrier)
    else
      let s := s.scanReading a h
      if g.bay + 1 < s.cfg.b then s.read { a with bay := g.bay + 1 } (some p)
      else ended (s.scanComplete g.carrier p)

/-! ### The lane at its events -/

/-- The lane timer runs out (R143, R144). -/
def Station.laneTimedOut (s : Station) : Station :=
  let releasing := s.fct.lane = .releasing
  let release := s.fct.pendingRelease
  let s := s.laneIdle
  let s := ({ s with fct := { s.fct with laneFault := true } }).haltFault .releaseTimeout
  match release with
  | some r =>
    if releasing then ({ s with fct := { s.fct with pendingRelease := none } }).releaseFailed r.order s.fct.exitCount
    else s
  | none => s

/-- An exit pulse (R144): counted while RELEASING, no effect otherwise. -/
def Station.exitPulse (s : Station) : Station :=
  if s.fct.lane = .releasing then
    let s := { s with fct := { s.fct with exitCount := s.fct.exitCount + 1 } }
    match s.fct.pendingRelease with
    | some r =>
      if r.count ≤ s.fct.exitCount then
        (({ s.laneIdle with fct := { s.laneIdle.fct with pendingRelease := none } })).releaseComplete r.order
      else s
    | none => s
  else s

end Sys2Proof.Machine
end

