-- ==== Sys2Proof/Machine/Settle.lean ====
section
/-! DEFINITION. What follows within an event once its own change is made: the tests, requests and decisions that the
rules tie to reports between the blocks (R117, R120, R144, R145, R156, R163, R165, R170, R173, R189). A report is seen
as a difference between the station before the event and the station as it stands. -/

namespace Sys2Proof.Machine

/-! ### Reports seen as differences -/

/-- The lock sets lost a reason somewhere: a report of a reason cleared. -/
def reasonCleared : List Carrier → List Carrier → Bool
  | k :: ks, j :: js =>
    [Reason.unverified, .audit, .touched, .quarantine, .held, .retired].any (fun r => k.locks.has r && !j.locks.has r)
      || reasonCleared ks js
  | _, _ => false

/-- A bay record changed. -/
def bayChanged : List Carrier → List Carrier → Bool
  | k :: ks, j :: js => decide (k.bays ≠ j.bays) || bayChanged ks js
  | _, _ => false

/-- What of a record the planner is told of: its state and its arrived count (R120). -/
def LineRec.reported (r : LineRec) : Nat × Nat × Nat :=
  match r.body with
  | .pick b =>
    (r.serial, (match b.state with
      | .tentative => 0
      | .won => 1
      | .picking => 2
      | .staged => 3
      | .returning => 4), 0)
  | .putaway b =>
    (r.serial, (match b.state with
      | .tentative => 0
      | .won => 1
      | .loading => 2), b.arrived)

/-- A report from the Claim Unit to the planner (R120): a record has changed state, or an arrival has been counted; an
arrival that is withdrawn (R140) is no such report. DESIGN CHOICE (log entry 44): a record made or removed has changed
state. -/
def recordReported (old new : List LineRec) : Bool :=
  let state := fun (r : LineRec) => (r.reported.1, r.reported.2.1)
  decide (old.map state ≠ new.map state)
    || new.any (fun r => (old.find? (fun o => o.serial == r.serial)).any (fun o => decide (o.reported.2.2 < r.reported.2.2)))

/-- What of a group the planner is told of (R153): its order, its state, its tyres. DESIGN CHOICE (log entry 40): the
release flag and the putback and stuck marks are not told. -/
def Group.reported (g : Group) : Nat × Bool × List Tyre := (g.order, g.returning, g.tyres)

/-- An event of the list of R120 has come about. -/
def decisionDue (old s : Station) : Bool :=
  (old.fct.task.isSome && s.fct.task.isNone) || (old.mpl.move.isSome && s.mpl.move.isNone)
    || (old.mpl.held.isSome && s.mpl.held.isNone)
    || decide (old.mpl.tasks.map (fun t => t.id) ≠ s.mpl.tasks.map (fun t => t.id))
    || (old.stc.mode ≠ .running && s.stc.mode = .running)
    || reasonCleared old.smap.carriers s.smap.carriers
    || decide (old.cnu.groups.map Group.reported ≠ s.cnu.groups.map Group.reported)
    || (old.fct.pendingRelease.isSome && s.fct.pendingRelease.isNone)
    || (old.fct.lane = .sweeping && s.fct.lane = .idle)
    || destinationGiven old.mpl s.mpl || recordReported old.clu.records s.clu.records

/-- The moments at which R145 has the sweep conditions tested, and the one of R149. -/
def sweepDue (old s : Station) : Bool :=
  (old.fct.lane ≠ .idle && s.fct.lane = .idle) || (!old.cnu.groups.isEmpty && s.cnu.groups.isEmpty)
    || (old.pins.laneClear && !s.pins.laneClear) || (old.stc.mode = .halted && s.stc.mode = .running)

/-- The mode has become RUNNING or HALTED: every carrier is looked at, lowest first (R170). -/
def modeEntered (old s : Station) : Bool :=
  old.stc.mode ≠ s.stc.mode && (s.stc.mode = .running || s.stc.mode = .halted)

/-! ### The settling of an event -/

/-- No task is at the face, in a move or held (R125). -/
def Station.taskFree (s : Station) : Bool := s.faceFree && s.fct.task.isNone && s.mpl.held.isNone

/-- The home check move of an accepted RESUME begins when the face is free and no task is held or in flight (R125, R193);
none during a service hold (R130). -/
def Station.resumeMove (s : Station) : Station :=
  if s.stc.mode = .halted && s.stc.resume && s.stc.hold = .none && s.taskFree then s.beginHomeCheck else s

/-- The Consolidation Unit's part: readies, putbacks, stuck groups (R156, R163, R165). -/
def Station.serveLane (s : Station) (old : Station) : Station :=
  let s := s.postReadies
  let s := s.beginPutback
  let s := if reasonCleared old.smap.carriers s.smap.carriers || bayChanged old.smap.carriers s.smap.carriers then
    s.rechooseStuck.decideAfter s else s
  s.servePutback.decideAfter s

/-- The requests for tasks, in the order of the offers of R117, while places are free. -/
def Station.serveTasks (s : Station) (old : Station) : Station :=
  ((s.serveLane old).serveClaims 24).serveAudit (modeEntered old s) 24

/-- A release or a sweep that can begin (R144, R145). -/
def Station.serveDrive (s : Station) (old : Station) : Station :=
  let s := s.beginRelease
  if sweepDue old s then s.beginSweep else s

/-- One round of what follows an event. -/
def Station.settleRound (s : Station) (old : Station) : Station :=
  let s := s.faceAdvance.resumeMove.acknowledge
  let s := (s.serveTasks old).serveDrive old
  if decisionDue old s then s.decision else s

/-- More follows: a decision, or the step of a task that has been handed to the face. -/
def unsettled (old s : Station) : Bool := decisionDue old s || (s.fct.task.isSome && s.fct.stage = .check)

/-- Rounds until nothing more follows, at most `fuel`, the last 10 only where more follows. -/
def settleRounds : Nat → Station → Station → Station
  | 0, _, s => s
  | fuel + 1, old, s => if fuel < 10 && !unsettled old s then s else settleRounds fuel s (s.settleRound old)

/-- The station after an event that began from `old`: joined and powered, what the rules tie to the event follows. -/
def Station.settle (s : Station) (old : Station) : Station :=
  if s.power = .on ∧ s.bus.joined then (settleRounds 16 old s).idleTimer else s

/-! ### The form of a command's meaning -/

/-- A command changes the station and leaves the queue of waiting commands; what follows within the event is part of
it. -/
def State.answer (s : State) (f : Station → Station) : Host.Outcome State Fault Refusal :=
  .next { s with station := (f s.station).settle s.station }

/-- An effect that only a powered station out of RESET has. -/
def Station.whenOn (s : Station) (f : Station → Station) : Station := if s.power = .on then f s else s

/-- An effect that only a powered station has once it has joined the bus. -/
def Station.whenJoined (s : Station) (f : Station → Station) : Station :=
  if s.power = .on ∧ s.bus.joined then f s else s

end Sys2Proof.Machine
end

