-- ==== Sys2Proof/Machine/CmdBus.lean ====
section
/-! DEFINITION. The meanings of the commands of the store bus: TAKE_OUT, FRAME_RESEND, ARBITRATION_LOST,
FRAME_COMPLETED, FRAME_ERROR, DOMINANT_RUN_16, DELAY_SIGNAL, REJOIN, ELEVEN_RECESSIVE_BITS_AFTER_REJOIN (R59 to R77,
R85, R86, R88). -/

namespace Sys2Proof.Machine

/-- The station takes part in the bus: joined, not WITHDRAWN, its 11 recessive bits read (R59, R62, R71, R77). -/
def Station.onBus (s : Station) : Bool := s.bus.joined && s.bus.ready && s.bus.standing ≠ .withdrawn

/-! ### Sending -/

/-- The slot that awaits a resend: ON_BUS, its frame not being sent (R66). -/
def Bus.awaiting (b : Bus) : Option Post := if b.sending.isSome then none else b.posts.find? (fun p => p.onBus)

/-- A frame begins (R75, R85): the slot ON_BUS with its payload, the bits driven. -/
def Station.beginFrame (s : Station) (p : Post) : Station :=
  { s with bus := { s.bus with
      posts := s.bus.posts.map (fun x => if x.handle = p.handle then { p with onBus := true } else x)
      sending := some p.handle, errorWait := none, delayCount := 0, gap := .none, acked := false
      drive := p.frame.bits } }

/-- A start opportunity that the station may use (R59): the gap has ended, nothing of an earlier frame or signal is
driven (R55), and a QUIET station that sent the last frame lets 8 pass. -/
def Station.startOpportunity (s : Station) (f : Station → Station) : Station :=
  if s.onBus && s.bus.sending.isNone then
    let s := { s with bus := { s.bus with errorWait := none, gap := .none, acked := false, drive := [] } }
    if s.bus.skip = 0 then f s else { s with bus := { s.bus with skip := s.bus.skip - 1 } }
  else s

/-- Take-out (R85, R86). -/
def Station.takeOut (s : Station) : Station :=
  if s.bus.awaiting.isSome then s
  else
    match s.takeOutChoice with
    | none => s
    | some p => s.beginFrame { p with payload := s.filledPayload p }

/-- TAKE_OUT (R59, R85, R86). -/
def execTakeOut (s : State) : Host.Outcome State Fault Refusal :=
  s.answer (fun x => x.whenJoined (fun x => x.startOpportunity Station.takeOut))

/-- The record that holds a claim handle. -/
def Station.claimHolder (s : Station) (h : Nat) : Option LineRec :=
  s.clu.records.find? (fun r => r.bid.claim == some h && r.tentative)

/-- NOT_SENT (R61, R88, R103): the slot FREE, the record removed, the slot offered. -/
def Station.claimNotSent (s : Station) (h : Nat) : Station :=
  let s := s.freeSlot h
  let s := match s.claimHolder h with
    | some r => s.dropRecord r.serial
    | none => s
  s.offerSlot

/-- The resend of the ON_BUS slot (R61, R66). -/
def Station.resend (s : Station) : Station :=
  match s.bus.awaiting with
  | none => s
  | some p => if p.kind = .clm ∧ s.claimsAllowed = false then s.claimNotSent p.handle else s.beginFrame p

/-- FRAME_RESEND (R59, R61, R66). -/
def execFrameResend (s : State) : Host.Outcome State Fault Refusal :=
  s.answer (fun x => x.whenJoined (fun x => x.startOpportunity Station.resend))

/-- Arbitration lost (R60): the slot back to PENDING, nothing further sent. DESIGN CHOICE (log entry 30): an STS that
comes back so stays PENDING beside one that R93 posted while it was on the bus. -/
def Station.loseArbitration (s : Station) : Station :=
  match s.bus.sending with
  | none => s
  | some h =>
    { s with bus := { s.bus with
        posts := s.bus.posts.map (fun x => if x.handle = h then { x with onBus := false } else x)
        sending := none, drive := [] } }

/-- ARBITRATION_LOST (R60). -/
def execArbitrationLost (s : State) : Host.Outcome State Fault Refusal :=
  s.answer (fun x => x.whenJoined Station.loseArbitration)

/-! ### Completion -/

/-- The post-end report SENT as the owner keeps it (R88, R103, R105, R156, R161, R183). -/
def Station.noteSent (s : Station) (p : Post) : Station :=
  match p.kind with
  | .clm =>
    match s.claimHolder p.handle with
    | some r => s.updBid r.serial (fun b => { b with sent := true })
    | none => s
  | .cls => { s with clu := { s.clu with notes := s.clu.notes.filter (fun n => n.handle != p.handle) } }
  | .rdy =>
    { s with cnu := { s.cnu with groups := s.cnu.groups.map (fun (g : Group) =>
        { g with readyHandles := g.readyHandles.filter (fun h => h != p.handle) }) } }
  | .abn =>
    { s with cnu := { s.cnu with orders := s.cnu.orders.map (fun (e : OrderEntry) =>
        { e with abandon := e.abandon.filter (fun h => h != p.handle) }) } }
  | .san => s.answerSent
  | .arp | .sts | .opn | .lof | .pof | .cct | .sct | .arq | .sqy => s

/-- The last flag of a SAN (R79). -/
def lastFlag (payload : List Byte) : Bool := payloadField payload 1 1 % 2 == 1

/-- The posts that follow a SENT report, made after the freed slot has been offered: the close of an expired record
(R103), the next SAN or the next answer (R183, R184). -/
def Station.afterSent (s : Station) (p : Post) : Station :=
  match p.kind with
  | .clm =>
    match s.claimHolder p.handle with
    | some r => if r.bid.expired then s.postClose r else s
    | none => s
  | .san => s.afterAnswer (lastFlag p.payload)
  | .abn | .rdy | .cls | .opn | .lof | .pof | .cct | .sct | .arq | .arp | .sqy | .sts => s

/-- A frame appended to the receive queue at its completion; the gap follows (R63, R73). A receiver has driven the
acknowledge slot dominant (R62), the transmitter has not. -/
def Station.appendFrame (s : Station) (f : Frame) (role : Role) : Station :=
  { s with bus := { s.bus with
      rxq := s.bus.rxq ++ [f], sending := none, errorWait := none, skip := 0, delayCount := 0, gap := .afterFrame
      acked := decide (role = Role.receiver), drive := [] } }

/-- The start opportunities that the transmitter of a frame lets pass after it (R59, R69). -/
def Standing.skipped (st : Standing) : Nat := if st = .quiet then 8 else 0

/-- The station's own frame completes (R63, R67, R88, R90): the freed slot is offered before any fresh post. DESIGN
CHOICE (log entry 42): the success is counted, with the STS of a change of standing (R67, R93), before the posts that
follow the SENT report, which are the CLS of an expired record (R103) and the next SAN (R183, R184). -/
def Station.sentCompleted (s : Station) (p : Post) : Station :=
  let s := (s.freeSlot p.handle).appendFrame p.frame .transmitter
  let s := (s.noteSent p).offerSlot.countSuccess .transmitter
  let s := { s with bus := { s.bus with skip := s.bus.standing.skipped } }
  s.afterSent p

/-- A frame of another node completes (R62, R63, R67), also one to which the station lost arbitration (R60). -/
def Station.receivedCompleted (s : Station) (f : Frame) : Station := (s.appendFrame f .receiver).countSuccess .receiver

/-- FRAME_COMPLETED (R63): a frame has its place, since the room test has passed (R74). -/
def execFrameCompleted (bits : List Bool) (s : State) : Host.Outcome State Fault Refusal :=
  s.answer (fun x => x.whenJoined (fun x =>
    if x.onBus && decide (x.bus.rxq.length < 16) then
      match x.bus.sending.bind x.bus.post? with
      | some p => x.sentCompleted p
      | none =>
        match receiveWire bits with
        | some f => x.receivedCompleted f
        | none => x
    else x))

/-! ### Errors -/

/-- An error signal with what follows it (R65): 6 dominant bits where it is active, 6 recessive bits where it is passive,
then recessive through the 8 bits of the error delimiter. -/
def errorSignal (active : Bool) : List Bool := List.replicate 6 (!active) ++ List.replicate 8 true

/-- The station's part in the frame on the bus. -/
def Bus.role (b : Bus) : Role := if b.sending.isSome then .transmitter else .receiver

/-- The frame is destroyed at the station (R64, R65, R66): the signal is driven, with a gap to follow its delimiter
(R59), and the slot waits for its resend. The signal is that of the standing in which the count of the error leaves the
station. A receiver that meets the error after the acknowledge slot has acknowledged the frame (R62). -/
def Station.signalError (s : Station) (role : Role) (error : BusError) (tec recCtr : Nat) : Station :=
  let standing := s.bus.standingAfter tec recCtr
  let s := { s with bus := { s.bus with
      sending := none, errorWait := some { role := role, active := standing.bids }, delayCount := 0, gap := .afterError
      acked := decide (role = Role.receiver) && afterSlot error, drive := errorSignal standing.bids
      skip := if role = Role.transmitter then standing.skipped else 0 } }
  s.countErrors tec recCtr

/-- A dominant bit in the station's error delimiter (R65, R67): after an active signal a new active one, not counted as a
further error, whatever the standing has become; after a passive signal the count of recessive bits begins again, and
nothing is driven. -/
def Station.signalAgain (s : Station) : Station :=
  if s.bus.errorWait.any (fun w => w.active) && s.bus.gap = .afterError then
    { s with bus := { s.bus with drive := errorSignal true } }
  else s

/-- FRAME_ERROR (R64 to R68, R74): an error that the station cannot meet in its part changes nothing. -/
def execFrameError (error : BusError) (s : State) : Host.Outcome State Fault Refusal :=
  s.answer (fun x => x.whenJoined (fun x =>
    if x.onBus && (error ≠ .roomTest || decide (16 ≤ x.bus.rxq.length)) then
      if error = .delimiter then x.signalAgain
      else
        match errorCounts x.bus.role x.bus.standing error with
        | some (t, r) => x.signalError x.bus.role error t r
        | none => x
    else x))

/-- A run of 16 dominant bits after the station's own error signal is counted (R67); the transmitter of the destroyed frame
lets its start opportunities pass by the standing that follows (R59, R69). -/
def Station.dominantRun (s : Station) (role : Role) : Station :=
  match role with
  | .transmitter =>
    ({ s with bus := { s.bus with skip := (s.bus.standingAfter 8 0).skipped } }).countErrors 8 0
  | .receiver => s.countErrors 0 1

/-- DOMINANT_RUN_16 (R67): only while the station waits after its own error signal. -/
def execDominantRun16 (s : State) : Host.Outcome State Fault Refusal :=
  s.answer (fun x => x.whenJoined (fun x =>
    match x.bus.errorWait with
    | none => x
    | some w => x.dominantRun w.role))

/-! ### Delay signal, rejoin -/

/-- The delay signal with its delimiter (R75). -/
def delayBits : List Bool := List.replicate 6 false ++ List.replicate 14 true

/-- The gap in which a station sends a delay signal of its own (R75): after a completed frame, or after a delay
delimiter. DEDUCED (log entry 34): that of a signal heard in a gap after an error as well. -/
def Gap.ownDelay : Gap → Bool
  | .afterFrame | .afterDelay => true
  | .none | .afterError => false

/-- DELAY_SIGNAL (R75): at most two in one gap, the station's own with 14 or more frames waiting; one of another station
is taken in any gap. -/
def execDelaySignal (heard : Bool) (s : State) : Host.Outcome State Fault Refusal :=
  s.answer (fun x => x.whenJoined (fun x =>
    let own := x.bus.gap.ownDelay && decide (14 ≤ x.bus.rxq.length)
    if x.onBus && x.bus.gap ≠ .none && decide (x.bus.delayCount < 2) && (own || heard) then
      { x with bus := { x.bus with
          delayCount := x.bus.delayCount + 1, errorWait := none, gap := .afterDelay, acked := false
          drive := if own then delayBits else [] } }
    else x))

/-- The runs of 12 in recessive stretches (R72), with the partial run before and after: every stretch but the last is
ended by a dominant bit, which clears the partial run. -/
def recessiveRuns (rest : Nat) : List Nat → Nat × Nat
  | [] => (0, rest)
  | [x] => ((rest + x) / 12, (rest + x) % 12)
  | x :: y :: xs => ((rest + x) / 12 + (recessiveRuns 0 (y :: xs)).1, (recessiveRuns 0 (y :: xs)).2)

/-- REJOIN (R72): a WITHDRAWN station counts the runs read, and rejoins when 96 are counted. -/
def execRejoin (stretches : List Nat) (s : State) : Host.Outcome State Fault Refusal :=
  s.answer (fun x => x.whenJoined (fun x =>
    if x.bus.standing = .withdrawn then
      let r := recessiveRuns x.bus.rejoinPartial stretches
      let runs := x.bus.rejoinRuns + r.1
      if 96 ≤ runs then x.rejoined
      else { x with bus := { x.bus with rejoinRuns := runs, rejoinPartial := r.2 } }
    else x))

/-- ELEVEN_RECESSIVE_BITS_AFTER_REJOIN (R59, R72). -/
def execElevenRecessiveBitsAfterRejoin (s : State) : Host.Outcome State Fault Refusal :=
  s.answer (fun x => x.whenJoined (fun x =>
    if x.bus.standing = .withdrawn then x else { x with bus := { x.bus with ready := true } }))

end Sys2Proof.Machine
end

