-- ==== Sys2Proof/Machine/CmdFace.lean ====
section
/-! DEFINITION. The meanings of the commands of the face: the extractor's phases (R133), the lane sensors and the lane
timer (R143, R144), the infeed (R139, R140), the gauge (R147), the service request (R189, R191). A phase or a timer
that has not run out has no end (log entry 7). -/

namespace Sys2Proof.Machine

/-! ### The extractor -/

/-- The cycle goes on to a phase, whose start tick is the present tick (R132). -/
def Station.putCycle (s : Station) (c : Cycle) : Station := { s with fct := { s.fct with cycle := some { c with started := s.tick } } }

/-- The end of APPROACH (R133). -/
def Station.approachEnded (s : Station) : Station :=
  match s.fct.cycle with
  | some c =>
    if c.phase = .approach ∧ s.elapsed c.started s.cfg.approach then s.putCycle { c with phase := .engage } else s
  | none => s

/-- APPROACH_END (R133). -/
def execApproachEnd (s : State) : Host.Outcome State Fault Refusal :=
  s.answer (fun x => x.whenJoined Station.approachEnded)

/-- The end of the engage minimum (R133): WITHDRAW with EXT_BUSY clear; otherwise the extension, or EXTRACTOR_TIMEOUT
at once where its maximum is 0. -/
def Station.engageMinimumEnded (s : Station) : Station :=
  match s.fct.cycle with
  | some c =>
    if c.phase = .engage ∧ c.extended = false ∧ s.elapsed c.started s.cfg.engageMin then
      if s.pins.extBusy = false then s.putCycle { c with phase := .withdraw }
      else if s.cfg.extensionMax = 0 then s.putCycle { c with phase := .withdraw, timedOut := true }
      else { s with fct := { s.fct with cycle := some { c with extended := true } } }
    else s
  | none => s

/-- ENGAGE_MINIMUM_END (R133). -/
def execEngageMinimumEnd (extBusy : Bool) (s : State) : Host.Outcome State Fault Refusal :=
  s.answer (fun x => x.whenJoined (fun x =>
    ({ x with pins := { x.pins with extBusy := extBusy } }).engageMinimumEnded))

/-- EXT_BUSY clears: an extended ENGAGE ends successfully (R133). -/
def Station.busyCleared (s : Station) : Station :=
  match s.fct.cycle with
  | some c => if c.phase = .engage ∧ c.extended then s.putCycle { c with phase := .withdraw } else s
  | none => s

/-- EXT_BUSY_CLEAR (R133). -/
def execExtBusyClear (s : State) : Host.Outcome State Fault Refusal :=
  s.answer (fun x => ({ x with pins := { x.pins with extBusy := false } }).whenJoined Station.busyCleared)

/-- The extension maximum runs out, counted from the end of the engage minimum: EXTRACTOR_TIMEOUT, and WITHDRAW all the
same (R133). -/
def Station.extensionEnded (s : Station) : Station :=
  match s.fct.cycle with
  | some c =>
    if c.phase = .engage ∧ c.extended ∧ s.elapsed c.started (s.cfg.engageMin + s.cfg.extensionMax) then
      s.putCycle { c with phase := .withdraw, timedOut := true }
    else s
  | none => s

/-- EXTENSION_MAXIMUM_EXPIRY (R133). -/
def execExtensionMaximumExpiry (s : State) : Host.Outcome State Fault Refusal :=
  s.answer (fun x => x.whenJoined Station.extensionEnded)

/-- The end of WITHDRAW: the cycle ends with its outcome (R133). -/
def Station.withdrawEnded (s : Station) : Station :=
  match s.fct.cycle with
  | some c => if c.phase = .withdraw ∧ s.elapsed c.started s.cfg.withdrawTime then s.cycleEnded c else s
  | none => s

/-- CYCLE_END (R133, R135, R136, R138, R141, R142, R146). -/
def execCycleEnd (infeedOccupied : Bool) (s : State) : Host.Outcome State Fault Refusal :=
  s.answer (fun x => x.whenJoined (fun x =>
    ({ x with pins := { x.pins with infeedOcc := infeedOccupied } }).withdrawEnded))

/-! ### The lane -/

/-- A STOW ends as HEAD_OCC clears (R143). -/
def Station.headCleared (s : Station) : Station := if s.fct.lane = .stowing then s.laneIdle else s

/-- HEAD_OCC_CLEAR (R143). -/
def execHeadOccClear (s : State) : Host.Outcome State Fault Refusal :=
  s.answer (fun x => ({ x with pins := { x.pins with headOcc := false } }).whenJoined Station.headCleared)

/-- A PRESENT ends as HEAD_OCC is asserted (R143). -/
def Station.headAsserted (s : Station) : Station := if s.fct.lane = .presenting then s.laneIdle else s

/-- HEAD_OCC_ASSERTED (R143). -/
def execHeadOccAsserted (s : State) : Host.Outcome State Fault Refusal :=
  s.answer (fun x => ({ x with pins := { x.pins with headOcc := true } }).whenJoined Station.headAsserted)

/-- The lane timer runs out (R143). -/
def Station.laneExpired (s : Station) : Station :=
  if s.fct.lane ≠ .idle ∧ s.elapsed s.fct.laneStarted (s.cfg.releaseTimeout * 1000) then s.laneTimedOut else s

/-- LANE_TIMER_EXPIRY (R143, R144, R160). -/
def execLaneTimerExpiry (s : State) : Host.Outcome State Fault Refusal :=
  s.answer (fun x => x.whenJoined Station.laneExpired)

/-- LANE_EXIT_PULSE (R144, R145, R160). -/
def execLaneExitPulse (s : State) : Host.Outcome State Fault Refusal :=
  s.answer (fun x => x.whenJoined Station.exitPulse)

/-! ### The infeed -/

/-- INFEED_ARRIVAL (R139, R109): the tyre stands at the infeed, so the occupancy sensor is asserted. -/
def execInfeedArrival (s : State) : Host.Outcome State Fault Refusal :=
  s.answer (fun x => ({ x with pins := { x.pins with infeedOcc := true } }).whenJoined Station.arrival)

/-- The occupancy sensor falls (R140): with a STORE cycle in flight R141 decides at its end. -/
def Station.infeedFell (s : Station) : Station := if s.fct.storing then s else s.infeedEmptied

/-- INFEED_OCC_FALL (R140). -/
def execInfeedOccFall (s : State) : Host.Outcome State Fault Refusal :=
  s.answer (fun x => ({ x with pins := { x.pins with infeedOcc := false } }).whenJoined Station.infeedFell)

/-! ### The gauge -/

/-- The gauge answers (R147). -/
def Station.gaugeAnswered (s : Station) (h : Nat) : Station :=
  match s.fct.gauge with
  | some g => s.readingEnded g h
  | none => s

/-- GAUGE_ANSWER (R147, R148, R174 to R180). -/
def execGaugeAnswer (height : BitVec 12) (s : State) : Host.Outcome State Fault Refusal :=
  s.answer (fun x => x.whenJoined (fun x => x.gaugeAnswered height.toNat))

/-- 1000 ms have passed since READ: the height is 4095 (R147). -/
def Station.gaugeTimedOut (s : Station) : Station :=
  match s.fct.gauge with
  | some g => if s.elapsed g.started 1000 then s.readingEnded g 4095 else s
  | none => s

/-- GAUGE_READ_TIMEOUT (R147). -/
def execGaugeReadTimeout (s : State) : Host.Outcome State Fault Refusal :=
  s.answer (fun x => x.whenJoined Station.gaugeTimedOut)

/-! ### The service panel -/

/-- SVC_REQ_RISE (R189, R112, R130, R149). -/
def execSvcReqRise (s : State) : Host.Outcome State Fault Refusal :=
  s.answer (fun x => ({ x with pins := { x.pins with svcReq := true } }).whenJoined Station.takeService)

/-- SVC_REQ_FALL (R191). -/
def execSvcReqFall (s : State) : Host.Outcome State Fault Refusal :=
  s.answer (fun x => ({ x with pins := { x.pins with svcReq := false } }).whenJoined Station.endService)

end Sys2Proof.Machine
end

