-- ==== Sys2Proof/Machine/CmdMotion.lean ====
section
/-! DEFINITION. The meanings of the drive commands: REVERSAL_DWELL_EXPIRY, MOTION_TIMER_EXPIRY, INDEX, HOME, IN_POS
(R121 to R126, R130, R131, R190). -/

namespace Sys2Proof.Machine

/-- The held task's move begins (R121, R122). -/
def Station.endDwell (s : Station) : Station :=
  match s.mpl.held with
  | some h => if s.dwellOver then s.giveMove h.dir h.steps h.target (some h.task) else s
  | none => s

/-- REVERSAL_DWELL_EXPIRY (R121). -/
def execReversalDwellExpiry (s : State) : Host.Outcome State Fault Refusal :=
  s.answer (fun x => x.whenJoined Station.endDwell)

/-- The motion timer runs out (R122, R125). -/
def Station.motionExpired (s : Station) : Station :=
  match s.mpl.move with
  | some m => if s.elapsed m.started m.limit then s.stopMove.motionFailed else s
  | none => s

/-- MOTION_TIMER_EXPIRY (R122, R125, R188). -/
def execMotionTimerExpiry (s : State) : Host.Outcome State Fault Refusal :=
  s.answer (fun x => x.whenOn Station.motionExpired)

/-- One INDEX pulse (R123), and TOUCHED on the carrier that comes to the face while the hold is ACKED (R190). -/
def Station.indexPulse (s : Station) : Station :=
  match s.mpl.p with
  | none => s
  | some p =>
    let q := stepPosition s.cfg.n s.mpl.indexDir p
    let s := { s with mpl := { s.mpl with p := some q } }
    if s.stc.hold = .acked then s.touch q else s

/-- INDEX (R123, R190). -/
def execIndex (s : State) : Host.Outcome State Fault Refusal :=
  s.answer (fun x => x.whenOn Station.indexPulse)

/-- The move in flight is a home check move. -/
def Mpl.homeCheck (m : Mpl) : Option Move := m.move.filter (fun x => x.task.isNone)

/-- The first HOME of a home check move: p is 0 where it has a value, and STOP is given (R125). -/
def Station.homeFound (s : Station) (m : Move) : Station :=
  { s with
    mpl := { s.mpl with p := s.mpl.p.map (fun _ => 0), move := some { m with homeSeen := true } }
    pins := { s.pins with drive := .stop } }

/-- One HOME pulse (R124, R125). -/
def Station.homePulse (s : Station) : Station :=
  match s.mpl.homeCheck with
  | some m => if m.homeSeen then s else s.homeFound m
  | none =>
    match s.mpl.p with
    | none | some 0 => s
    | some _ => (({ s with mpl := { s.mpl with p := some 0 } }).stopMove).haltFault .homeMismatch

/-- HOME (R124, R125). -/
def execHome (s : State) : Host.Outcome State Fault Refusal :=
  s.answer (fun x => x.whenOn Station.homePulse)

/-- The move has ended at its IN_POS. -/
def Station.moveEnded (s : Station) : Station :=
  { s with mpl := { s.mpl with move := none, lastInPos := some s.tick } }

/-- The home check move completes (R125): at start homing is done (R188), otherwise the resume is complete (R193). -/
def Station.homeCheckDone (s : Station) : Station :=
  let s := s.moveEnded
  let s := { s with mpl := { s.mpl with lastDir := .forward } }
  let found : Station := { s with mpl := { s.mpl with p := some (s.mpl.p.getD 0) } }
  if s.stc.start = .homing then { found with stc := { s.stc with start := .joining, homed := true } }
  else if s.stc.resume then found.resumeComplete
  else s

/-- The move of a task ends (R122, R126, R130, R131). -/
def Station.taskMoveDone (s : Station) (m : Move) (id : Nat) : Station :=
  let s := s.moveEnded
  if s.mpl.p ≠ some m.target then (s.dropIfRemoved id).haltFault .motionTimeout
  else
    match s.task? id with
    | none => s
    | some t =>
      if t.removed then s.removeTask id
      else if s.stc.mode = .running then s.atTarget t
      else s

/-- IN_POS (R122, R125): none ends a home check move before its HOME. -/
def Station.inPosition (s : Station) : Station :=
  match s.mpl.move with
  | none => s
  | some m =>
    match m.task with
    | none => if m.homeSeen then s.homeCheckDone else s
    | some id => s.taskMoveDone m id

/-- IN_POS (R122, R125, R126). -/
def execInPos (s : State) : Host.Outcome State Fault Refusal :=
  s.answer (fun x => x.whenOn Station.inPosition)

end Sys2Proof.Machine
end

