-- ==== Sys2Proof/Machine/CmdNotice.lean ====
section
/-! DEFINITION. The meanings of the commands that take the frame at the head of the receive queue (R73, R78, R81, R82):
one for each kind of notice, one for each action of a CCT (R33 to R36), NOTICE_REJECTED, STATUS_FRAME_DISCARDED. -/

namespace Sys2Proof.Machine

/-! ### The head of the receive queue -/

/-- The frame at the head, if it passes the acceptance checks and is of the kind. -/
def Station.headNotice (s : Station) (k : Kind) : Option Frame := s.bus.rxq.head?.filter (fun f => f.accepted = some k)

/-- The head frame removed. -/
def Station.dropHead (s : Station) : Station := { s with bus := { s.bus with rxq := s.bus.rxq.tail } }

/-- The head frame taken by its block, if it is of the kind and satisfies a further test on its payload. -/
def Station.takeNotice (s : Station) (k : Kind) (test : List Byte → Bool) (f : Frame → Station → Station) : Station :=
  match s.headNotice k with
  | some x => if test x.payload then f x s.dropHead else s
  | none => s

/-- The notice is the station's own (R82, R155). -/
def Station.ownFrame (s : Station) (f : Frame) : Bool := f.sender == s.cfg.station

/-- The store week of an OPN or a POF (R83). -/
def Station.hearWeek (s : Station) (week : Nat) : Station :=
  { s with stc := { s.stc with storeWeek := max s.stc.storeWeek week } }

/-- The action of a CCT, the selector of an ARQ. -/
def codeIs (code : Nat) (p : List Byte) : Bool := payloadField p 1 1 == code

/-- Any payload. -/
def anyPayload (_ : List Byte) : Bool := true

end Sys2Proof.Machine

namespace Sys2Proof

open Machine

/-- A notice that no other command of the table takes: one that fails R81, a CCT with an unknown action (R33), an ARQ
with an unknown selector (R172). -/
def Frame.unusable (f : Frame) : Bool :=
  match f.accepted with
  | none => true
  | some .cct => !decide (1 ≤ payloadField f.payload 1 1 ∧ payloadField f.payload 1 1 ≤ 8)
  | some .arq => !decide (1 ≤ payloadField f.payload 1 1 ∧ payloadField f.payload 1 1 ≤ 2)
  | some _ => false

end Sys2Proof

namespace Sys2Proof.Machine

/-- NOTICE_REJECTED (R81): the frame is removed without effect. -/
def execNoticeRejected (s : State) : Host.Outcome State Fault Refusal :=
  s.answer (fun x => x.whenJoined (fun x => if x.bus.rxq.head?.any Frame.unusable then x.dropHead else x))

/-- STATUS_FRAME_DISCARDED (R78): an ARP, SAN or STS is removed unused. -/
def execStatusFrameDiscarded (s : State) : Host.Outcome State Fault Refusal :=
  s.answer (fun x => x.whenJoined (fun x =>
    if (x.headNotice .arp).isSome || (x.headNotice .san).isSome || (x.headNotice .sts).isSome then x.dropHead else x))

/-! ### Orders and rounds -/

/-- ABN_TAKEN (R161). -/
def execAbnTaken (s : State) : Host.Outcome State Fault Refusal :=
  s.answer (fun x => x.whenJoined (fun x => x.takeNotice .abn anyPayload (fun f x =>
    x.hearAbandon (payloadField f.payload 0 2))))

/-- RDY_TAKEN (R155). -/
def execRdyTaken (s : State) : Host.Outcome State Fault Refusal :=
  s.answer (fun x => x.whenJoined (fun x => x.takeNotice .rdy anyPayload (fun f x =>
    x.hearReady (payloadField f.payload 0 2) (payloadField f.payload 2 1) (x.ownFrame f))))

/-- CLS_TAKEN (R107). -/
def execClsTaken (s : State) : Host.Outcome State Fault Refusal :=
  s.answer (fun x => x.whenJoined (fun x => x.takeNotice .cls anyPayload (fun f x =>
    x.hearClose (roundField f.payload) (x.ownFrame f))))

/-- CLM_TAKEN (R102). -/
def execClmTaken (s : State) : Host.Outcome State Fault Refusal :=
  s.answer (fun x => x.whenJoined (fun x => x.takeNotice .clm anyPayload (fun f x =>
    x.hearClaim (roundField f.payload) f.key.toNat)))

/-- OPN_TAKEN (R83, R151). -/
def execOpnTaken (s : State) : Host.Outcome State Fault Refusal :=
  s.answer (fun x => x.whenJoined (fun x => x.takeNotice .opn anyPayload (fun f x =>
    (x.hearWeek (payloadField f.payload 3 2)).openOrder (payloadField f.payload 0 2) (payloadField f.payload 2 1))))

/-- A LOF at the Claim Unit (R98, R100, R101). -/
def Station.hearLineOffer (s : Station) (p : List Byte) : Station :=
  let order := payloadField p 0 2
  let line := payloadField p 2 1
  let article := payloadField p 3 3
  let qty := payloadField p 6 1
  if s.lofTests order line article qty then s.bidPick order line article qty else s

/-- LOF_TAKEN (R98, R100, R101). -/
def execLofTaken (s : State) : Host.Outcome State Fault Refusal :=
  s.answer (fun x => x.whenJoined (fun x => x.takeNotice .lof anyPayload (fun f x => x.hearLineOffer f.payload)))

/-- A POF at the Claim Unit (R99, R100, R101), its week taken first (R83). -/
def Station.hearPutawayOffer (s : Station) (p : List Byte) : Station :=
  let number := payloadField p 0 2
  let a : Article := { code := payloadField p 2 3, unitMass := payloadField p 6 2, pitch := payloadField p 8 2 }
  let qty := payloadField p 5 1
  let week := payloadField p 10 2
  let s := s.hearWeek week
  if s.pofTests number qty a then s.bidPutaway number week qty a else s

/-- POF_TAKEN (R83, R99, R100, R101). -/
def execPofTaken (s : State) : Host.Outcome State Fault Refusal :=
  s.answer (fun x => x.whenJoined (fun x => x.takeNotice .pof anyPayload (fun f x => x.hearPutawayOffer f.payload)))

/-! ### Carrier control -/

/-- The carriers a range action acts on (R33): first..last, or those outside it, of the N carriers; none where a check
fails. -/
def rangeOf (n : Nat) (p : List Byte) : List Nat :=
  let first := payloadField p 2 1
  let last := min (payloadField p 3 1) (n - 1)
  if first < n ∧ first ≤ payloadField p 3 1 then
    (List.range n).filter (fun c =>
      if payloadField p 4 1 = 0 then decide (first ≤ c ∧ c ≤ last) else decide (c < first ∨ last < c))
  else []

/-- The carriers that a range CCT acts on at this station (R33). -/
def Station.rangeActed (s : Station) (p : List Byte) : List Nat :=
  if targets s.cfg.station p then rangeOf s.cfg.n p else []

/-- Every carrier, for HOLD_ALL and UNHOLD_ALL (R33, R34). -/
def Station.allActed (s : Station) (p : List Byte) : List Nat :=
  if targets s.cfg.station p then List.range s.cfg.n else []

/-- One reason set or cleared on each of the carriers (R26). -/
def Station.putEach (s : Station) (cs : List Nat) (r : Reason) (v : Bool) : Station :=
  cs.foldl (fun t c => t.putReason c r v) s

/-- CCT_HOLD (R33, R34). -/
def execCctHold (s : State) : Host.Outcome State Fault Refusal :=
  s.answer (fun x => x.whenJoined (fun x => x.takeNotice .cct (codeIs 1) (fun f x =>
    x.putEach (x.rangeActed f.payload) .held true)))

/-- CCT_UNHOLD (R33, R34). -/
def execCctUnhold (s : State) : Host.Outcome State Fault Refusal :=
  s.answer (fun x => x.whenJoined (fun x => x.takeNotice .cct (codeIs 2) (fun f x =>
    x.putEach (x.rangeActed f.payload) .held false)))

/-- CCT_HOLD_ALL (R33, R34). -/
def execCctHoldAll (s : State) : Host.Outcome State Fault Refusal :=
  s.answer (fun x => x.whenJoined (fun x => x.takeNotice .cct (codeIs 3) (fun f x =>
    x.putEach (x.allActed f.payload) .held true)))

/-- CCT_UNHOLD_ALL (R33, R34). -/
def execCctUnholdAll (s : State) : Host.Outcome State Fault Refusal :=
  s.answer (fun x => x.whenJoined (fun x => x.takeNotice .cct (codeIs 4) (fun f x =>
    x.putEach (x.allActed f.payload) .held false)))

/-- CCT_RETIRE (R33, R35). -/
def execCctRetire (s : State) : Host.Outcome State Fault Refusal :=
  s.answer (fun x => x.whenJoined (fun x => x.takeNotice .cct (codeIs 5) (fun f x =>
    x.putEach (x.rangeActed f.payload) .retired true)))

/-- CCT_UNRETIRE (R33, R35). -/
def execCctUnretire (s : State) : Host.Outcome State Fault Refusal :=
  s.answer (fun x => x.whenJoined (fun x => x.takeNotice .cct (codeIs 6) (fun f x =>
    (x.rangeActed f.payload).foldl Station.unretire x)))

/-- CCT_CLEAR_QUARANTINE (R33, R36). -/
def execCctClearQuarantine (s : State) : Host.Outcome State Fault Refusal :=
  s.answer (fun x => x.whenJoined (fun x => x.takeNotice .cct (codeIs 7) (fun f x =>
    x.putEach (x.rangeActed f.payload) .quarantine false)))

/-- SET_COUNT at the Lock Table (R33, R36), and the set-count at the Stock Map (R17). -/
def Station.takeSetCount (s : Station) (p : List Byte) : Station :=
  let a : BayAddr := { carrier := payloadField p 2 1, bay := payloadField p 5 1 }
  if targets s.cfg.station p ∧ a.carrier < s.cfg.n ∧ a.bay < s.cfg.b then
    (s.putReason a.carrier .quarantine false).setCount a (payloadField p 6 1)
  else s

/-- CCT_SET_COUNT (R33, R36, R17). -/
def execCctSetCount (s : State) : Host.Outcome State Fault Refusal :=
  s.answer (fun x => x.whenJoined (fun x => x.takeNotice .cct (codeIs 8) (fun f x => x.takeSetCount f.payload)))

/-! ### Station control, audit requests, stock queries -/

/-- A RESUME (R193): taken in HALTED, with no hold and none in progress. -/
def Station.takeResume (s : Station) (p : List Byte) : Station :=
  if targets s.cfg.station p ∧ codeIs 1 p ∧ s.stc.mode = .halted ∧ s.stc.hold = .none ∧ s.stc.resume = false then
    { s with stc := { s.stc with resume := true } }
  else s

/-- SCT_RESUME (R193): the home check move follows as the event settles. Any other SCT is removed without effect. -/
def execSctResume (s : State) : Host.Outcome State Fault Refusal :=
  s.answer (fun x => x.whenJoined (fun x => x.takeNotice .sct anyPayload (fun f x => x.takeResume f.payload)))

/-- The due reason REQUEST on each of the carriers (R171, R172). -/
def Station.requestEach (s : Station) (cs : List Nat) : Station := cs.foldl (fun t c => t.setDue c .request) s

/-- The carriers of a range ARQ (R172). -/
def Station.auditRange (s : Station) (p : List Byte) : List Nat :=
  let first := payloadField p 2 1
  let last := min (payloadField p 3 1) (s.cfg.n - 1)
  if targets s.cfg.station p ∧ first < s.cfg.n ∧ first ≤ payloadField p 3 1 then
    (List.range s.cfg.n).filter (fun c => decide (first ≤ c ∧ c ≤ last))
  else []

/-- ARQ_BY_RANGE (R172). -/
def execArqByRange (s : State) : Host.Outcome State Fault Refusal :=
  s.answer (fun x => x.whenJoined (fun x => x.takeNotice .arq (codeIs 1) (fun f x =>
    x.requestEach (x.auditRange f.payload))))

/-- The carriers of an article ARQ (R172): those with a bay bound to the article. -/
def Station.auditArticle (s : Station) (p : List Byte) : List Nat :=
  let article := payloadField p 4 3
  if targets s.cfg.station p ∧ article ≠ 0 then
    (s.smap.carriers.zipIdx.filter (fun x => x.1.bays.any (fun b => b.boundTo article))).map (fun x => x.2)
  else []

/-- ARQ_BY_ARTICLE (R172). -/
def execArqByArticle (s : State) : Host.Outcome State Fault Refusal :=
  s.answer (fun x => x.whenJoined (fun x => x.takeNotice .arq (codeIs 2) (fun f x =>
    x.requestEach (x.auditArticle f.payload))))

/-- SQY_TAKEN (R181). -/
def execSqyTaken (s : State) : Host.Outcome State Fault Refusal :=
  s.answer (fun x => x.whenJoined (fun x => x.takeNotice .sqy anyPayload (fun f x =>
    if targets x.cfg.station f.payload then x.takeQuery (payloadField f.payload 1 3) else x)))

end Sys2Proof.Machine
end

