-- ==== Sys2Proof/Machine/Load.lean ====
section
/-! DEFINITION. The retained load of start (R21, R37). -/

namespace Sys2Proof.Machine

/-- The header holds the configured N, B and H (R21 step 1). -/
def Retained.headerGood (r : Retained) (cfg : Config) : Bool := r.header = .good { n := cfg.n, b := cfg.b, h := cfg.h }

/-- The article table that the article records give (R21 step 2); `seen` are the codes of lower slots. -/
def loadArticles (trusted : Bool) (seen : List Nat) : List (Stored (Option Article)) → List (Option Article)
  | [] => []
  | .good (some a) :: rest =>
    if trusted && !seen.contains a.code then some a :: loadArticles trusted (a.code :: seen) rest
    else none :: loadArticles trusted seen rest
  | .good none :: rest | .failed :: rest => none :: loadArticles trusted seen rest

/-- A bay's retained binding and count can be trusted (R21 step 3). -/
def BayImage.trusted (x : BayImage) (m : Smap) (h : Nat) : Bool :=
  match x.binding with
  | none => true
  | some y => (m.article? y.article).any (fun a => decide (x.count ≤ capB h a.pitch))

/-- The contents of a carrier record that is trusted (R21 step 3); none for one that is not. -/
def trustedImage (trusted : Bool) (m : Smap) (cfg : Config) : Stored CarrierImage → Option CarrierImage
  | .failed => none
  | .good x =>
    if trusted && x.bays.length == cfg.b && x.bays.all (fun b => b.trusted m cfg.h) then some x else none

/-- The bay that a trusted record gives; an unbound bay has count 0 (R5). -/
def BayImage.bay (x : BayImage) : Bay where
  binding := x.binding
  count := if x.binding = none then 0 else x.count
  reserved := 0
  incoming := 0
  grade := .none
  unsureOnce := false

/-- The carrier that a trusted record gives, with UNVERIFIED (R21 steps 3 and 4, R37). -/
def CarrierImage.carrier (x : CarrierImage) : Carrier where
  bays := x.bays.map BayImage.bay
  locks := {
    unverified := true, audit := false, touched := false, quarantine := x.quarantine, held := x.held
    retired := x.retired }
  faults := x.faults
  due := .none
  mass := 0
  rescan := none
  write := .idle

/-- The carrier that an untrusted record gives, with the write of its values (R21 step 3, R37). -/
def Carrier.untrusted (b : Nat) : Carrier :=
  let k : Carrier := {
    bays := List.replicate b Bay.empty
    locks := { LockSet.empty with unverified := true, quarantine := true }
    faults := 0, due := .none, mass := 0, rescan := none, write := .idle }
  { k with write := .writing k.image }

/-- The carrier-wide drop of R6 at the load, a write trigger where a binding goes (R21 step 4). -/
def Carrier.dropAtLoad (k : Carrier) : Carrier :=
  let k' := { k with bays := dropIdle k.bays }
  if k'.image = k.image then k' else { k' with write := k'.write.trigger k'.image }

/-- The carriers that the first `cfg.n` carrier records give. -/
def loadCarriers (trusted : Bool) (m : Smap) (cfg : Config) (recs : List (Stored CarrierImage)) : List Carrier :=
  (recs.take cfg.n).map (fun r =>
    match trustedImage trusted m cfg r with
    | some x => x.carrier.dropAtLoad
    | none => Carrier.untrusted cfg.b)

/-- The article codes that no bay is bound to. -/
def Smap.unboundCodes (m : Smap) : List Nat :=
  m.articles.filterMap (fun e => e.bind (fun a =>
    if m.carriers.any (fun k => k.bays.any (fun b => b.boundTo a.code)) then none else some a.code))

/-- The retained load (R21): the header, the article records, the carrier records, the derived state. -/
def Station.retainedLoad (s : Station) : Station :=
  let good := s.retained.headerGood s.cfg
  let articles := loadArticles good [] s.retained.articles
  let m : Smap := {
    carriers := [], articles := articles, articleWrites := List.replicate 64 .idle, imbalance := 0 }
  let carriers := loadCarriers good m s.cfg s.retained.carriers
  let m := { m with carriers := carriers }
  let s := { s with
    retained := { s.retained with header := .good { n := s.cfg.n, b := s.cfg.b, h := s.cfg.h } }, smap := m }
  let s := m.unboundCodes.foldl (fun t code => t.testArticle code) s
  let carriers := s.smap.carriers.map (fun k => { k with mass := s.smap.carrierMass k })
  { s with smap := { s.smap with carriers := carriers, imbalance := imbalanceOf (carriers.map (fun k => k.mass)) } }

end Sys2Proof.Machine
end

