-- ==== Sys2Proof/Machine/CmdStart.lean ====
section
/-! DEFINITION. The meanings of the commands of power, RESET and start: POWER_UP, RESET_ASSERT, RESET_RELEASE,
POWER_LOSS, CONFIG_READ_END, LANE_CLEAR_ASSERTED, LANE_CLEAR_FALL, JOIN (R20, R77, R145, R185 to R188). -/

namespace Sys2Proof.Machine

/-- The retained memory once the supply or RESET has ended the work in progress (R20): only a running station has
writes in flight. -/
def Station.retainedLeft (s : Station) : Retained := if s.power = .on then s.abandonWrites else s.retained

/-- POWER_UP (R185): every start value; start begins at step 1, at once or, with the RESET line asserted, when it is
released. Over a station that is already powered it stands for the loss of power as well (log entry 8). -/
def execPowerUp (s : State) : Host.Outcome State Fault Refusal :=
  s.answer (fun x => Station.atStart (if x.pins.reset then .inReset else .on) x.retainedLeft x.pins)

/-- RESET_ASSERT (R185, R20): every command output inactive, every operation in flight abandoned. RESET is a line: its
level is kept, also without power. -/
def execResetAssert (s : State) : Host.Outcome State Fault Refusal :=
  s.answer (fun x => ({ x with pins := { x.pins with reset := true } }).whenOn (fun x =>
    Station.atStart .inReset x.abandonWrites x.pins))

/-- RESET_RELEASE (R185): start from step 1 with the tick at 0. -/
def execResetRelease (s : State) : Host.Outcome State Fault Refusal :=
  s.answer (fun x =>
    let pins := { x.pins with reset := false }
    if x.power = .inReset then Station.atStart .on x.retained pins else { x with pins := pins })

/-- POWER_LOSS (R20): everything but the retained memory is lost. -/
def execPowerLoss (s : State) : Host.Outcome State Fault Refusal :=
  s.answer (fun x => Station.atStart .off x.retainedLeft x.pins)

/-- CONFIG_BAD (R187, R196). -/
def Station.configBad (s : Station) : Station :=
  { s with
    stc := { s.stc with lastFault := some .configBad, start := .configBad }
    pins := { s.pins with fault := true } }

/-- LANE_CLEAR seen asserted in the lane wait: the homing move begins (R188). -/
def Station.endLaneWait (s : Station) : Station :=
  if s.stc.start = .laneWait ∧ s.pins.laneClear then
    ({ s with stc := { s.stc with start := .homing } }).beginHomeCheck
  else s

/-- Step 1 ends well (R186, R188): the values clamped, the retained load, the lane wait. -/
def Station.configured (s : Station) (read : ConfigRead) : Station :=
  let s := ({ s with cfg := read.clamped }).retainedLoad
  ({ s with stc := { s.stc with start := .laneWait } }).endLaneWait

/-- CONFIG_READ_END (R186, R187, R188, R21). -/
def execConfigReadEnd (read : ConfigRead) (s : State) : Host.Outcome State Fault Refusal :=
  s.answer (fun x => x.whenOn (fun x =>
    if x.stc.start = .configRead then (if read.bad then x.configBad else x.configured read) else x))

/-- LANE_CLEAR rises while a sweep runs: the sweep ends (R143, R145). -/
def Station.endSweep (s : Station) : Station := if s.fct.lane = .sweeping then s.laneIdle else s

/-- LANE_CLEAR_ASSERTED (R188, R145). -/
def execLaneClearAsserted (s : State) : Host.Outcome State Fault Refusal :=
  s.answer (fun x => ({ x with pins := { x.pins with laneClear := true } }).whenOn (fun x => x.endLaneWait.endSweep))

/-- LANE_CLEAR_FALL (R145): the sweep conditions are tested as the event settles. -/
def execLaneClearFall (s : State) : Host.Outcome State Fault Refusal :=
  s.answer (fun x => { x with pins := { x.pins with laneClear := false } })

/-- Start ends at the join (R77, R188, R196): RUNNING with homing complete, else HALTED with MOTION_TIMEOUT. -/
def Station.startEnds (s : Station) : Station :=
  let s := { s with bus := { s.bus with joined := true, ready := true }, stc := { s.stc with start := .done } }
  let s :=
    if s.stc.homed then { s with stc := { s.stc with mode := .running } }
    else { s with
      stc := { s.stc with mode := .halted, lastFault := some .motionTimeout }
      pins := { s.pins with fault := true } }
  let s := if s.pins.infeedOcc then { s with fct := { s.fct with infeed := .surplus } } else s
  let s := s.statusTrigger.serveAudit true 24
  if s.pins.svcReq then s.takeService else s

/-- JOIN (R77, R188, R195, R132, R189). -/
def execJoin (infeedOccupied : Bool) (s : State) : Host.Outcome State Fault Refusal :=
  s.answer (fun x => x.whenOn (fun x =>
    if x.stc.start = .joining then ({ x with pins := { x.pins with infeedOcc := infeedOccupied } }).startEnds else x))

end Sys2Proof.Machine
end

