-- ==== Sys2Proof/Machine/CmdTimer.lean ====
section
/-! DEFINITION. The meanings of the timer commands and of the end of a retained write: CLAIM_WINDOW_EXPIRY,
INFEED_TIMEOUT, RETAINED_WRITE_COMPLETE, HOLD_TIMER_EXPIRY, IDLE_TIMER_EXPIRY (R19, R104, R110, R157, R173). A timer
that has not run out has no expiry (log entry 7). -/

namespace Sys2Proof.Machine

/-- The record of a round. -/
def Station.roundRecord (s : Station) (round : RoundId) : Option LineRec :=
  s.clu.records.find? (fun r => r.round = round)

/-- CLAIM_WINDOW_EXPIRY (R104). -/
def execClaimWindowExpiry (round : RoundId) (s : State) : Host.Outcome State Fault Refusal :=
  s.answer (fun x => x.whenJoined (fun x =>
    match x.roundRecord round with
    | some r => if x.windowDue r then x.windowExpired r else x
    | none => x))

/-- INFEED_TIMEOUT (R110, R142). -/
def execInfeedTimeout (putaway : Nat) (s : State) : Host.Outcome State Fault Refusal :=
  s.answer (fun x => x.whenJoined (fun x =>
    match x.roundRecord (.putaway putaway) with
    | some r => if (x.put? r.serial).any x.infeedDue then x.dropRecord r.serial else x
    | none => x))

/-- RETAINED_WRITE_COMPLETE (R19). -/
def execRetainedWriteComplete (record : RetainedId) (s : State) : Host.Outcome State Fault Refusal :=
  s.answer (fun x => x.whenOn (fun x => x.completeWrite record))

/-- The one expiry of an entry's hold timer (R157). -/
def Station.holdExpires (s : Station) (e : OrderEntry) : Station :=
  (s.updOrder e.order (fun x => { x with holdExpired := true })).raiseAbandon e.order .holdExpired

/-- HOLD_TIMER_EXPIRY (R157, R161). -/
def execHoldTimerExpiry (order : Nat) (s : State) : Host.Outcome State Fault Refusal :=
  s.answer (fun x => x.whenJoined (fun x =>
    match x.order? order with
    | some e => if x.holdDue e then x.holdExpires e else x
    | none => x))

/-- IDLE_TIMER_EXPIRY (R173). -/
def execIdleTimerExpiry (s : State) : Host.Outcome State Fault Refusal :=
  s.answer (fun x => x.whenJoined (fun x =>
    if x.adu.idleStart.any (fun t => x.elapsed t (x.cfg.idleDelay * 1000)) then x.idleExpired else x))

end Sys2Proof.Machine
end

