-- ==== Sys2Proof/Machine/Dispatch.lean ====
section
/-! DEFINITION. One arm for each command: a direct call of its meaning. -/

namespace Sys2Proof.Machine

def exec (i : Instr) (s : State) : Host.Outcome State Fault Refusal :=
  match i with
  | .powerUp => Sys2Proof.Machine.execPowerUp s
  | .resetAssert => Sys2Proof.Machine.execResetAssert s
  | .resetRelease => Sys2Proof.Machine.execResetRelease s
  | .configReadEnd read => Sys2Proof.Machine.execConfigReadEnd read s
  | .laneClearAsserted => Sys2Proof.Machine.execLaneClearAsserted s
  | .laneClearFall => Sys2Proof.Machine.execLaneClearFall s
  | .join infeedOccupied => Sys2Proof.Machine.execJoin infeedOccupied s
  | .takeOut => Sys2Proof.Machine.execTakeOut s
  | .frameResend => Sys2Proof.Machine.execFrameResend s
  | .arbitrationLost => Sys2Proof.Machine.execArbitrationLost s
  | .frameCompleted bits => Sys2Proof.Machine.execFrameCompleted bits s
  | .frameError error => Sys2Proof.Machine.execFrameError error s
  | .dominantRun16 => Sys2Proof.Machine.execDominantRun16 s
  | .delaySignal heard => Sys2Proof.Machine.execDelaySignal heard s
  | .rejoin stretches => Sys2Proof.Machine.execRejoin stretches s
  | .noticeRejected => Sys2Proof.Machine.execNoticeRejected s
  | .statusFrameDiscarded => Sys2Proof.Machine.execStatusFrameDiscarded s
  | .abnTaken => Sys2Proof.Machine.execAbnTaken s
  | .rdyTaken => Sys2Proof.Machine.execRdyTaken s
  | .clsTaken => Sys2Proof.Machine.execClsTaken s
  | .clmTaken => Sys2Proof.Machine.execClmTaken s
  | .opnTaken => Sys2Proof.Machine.execOpnTaken s
  | .lofTaken => Sys2Proof.Machine.execLofTaken s
  | .pofTaken => Sys2Proof.Machine.execPofTaken s
  | .cctHold => Sys2Proof.Machine.execCctHold s
  | .cctUnhold => Sys2Proof.Machine.execCctUnhold s
  | .cctHoldAll => Sys2Proof.Machine.execCctHoldAll s
  | .cctUnholdAll => Sys2Proof.Machine.execCctUnholdAll s
  | .cctRetire => Sys2Proof.Machine.execCctRetire s
  | .cctUnretire => Sys2Proof.Machine.execCctUnretire s
  | .cctClearQuarantine => Sys2Proof.Machine.execCctClearQuarantine s
  | .cctSetCount => Sys2Proof.Machine.execCctSetCount s
  | .sctResume => Sys2Proof.Machine.execSctResume s
  | .arqByRange => Sys2Proof.Machine.execArqByRange s
  | .arqByArticle => Sys2Proof.Machine.execArqByArticle s
  | .sqyTaken => Sys2Proof.Machine.execSqyTaken s
  | .claimWindowExpiry round => Sys2Proof.Machine.execClaimWindowExpiry round s
  | .infeedTimeout putaway => Sys2Proof.Machine.execInfeedTimeout putaway s
  | .retainedWriteComplete record => Sys2Proof.Machine.execRetainedWriteComplete record s
  | .reversalDwellExpiry => Sys2Proof.Machine.execReversalDwellExpiry s
  | .motionTimerExpiry => Sys2Proof.Machine.execMotionTimerExpiry s
  | .index => Sys2Proof.Machine.execIndex s
  | .home => Sys2Proof.Machine.execHome s
  | .inPos => Sys2Proof.Machine.execInPos s
  | .approachEnd => Sys2Proof.Machine.execApproachEnd s
  | .engageMinimumEnd extBusy => Sys2Proof.Machine.execEngageMinimumEnd extBusy s
  | .extBusyClear => Sys2Proof.Machine.execExtBusyClear s
  | .extensionMaximumExpiry => Sys2Proof.Machine.execExtensionMaximumExpiry s
  | .cycleEnd infeedOccupied => Sys2Proof.Machine.execCycleEnd infeedOccupied s
  | .headOccClear => Sys2Proof.Machine.execHeadOccClear s
  | .headOccAsserted => Sys2Proof.Machine.execHeadOccAsserted s
  | .laneTimerExpiry => Sys2Proof.Machine.execLaneTimerExpiry s
  | .laneExitPulse => Sys2Proof.Machine.execLaneExitPulse s
  | .infeedArrival => Sys2Proof.Machine.execInfeedArrival s
  | .infeedOccFall => Sys2Proof.Machine.execInfeedOccFall s
  | .gaugeAnswer height => Sys2Proof.Machine.execGaugeAnswer height s
  | .gaugeReadTimeout => Sys2Proof.Machine.execGaugeReadTimeout s
  | .idleTimerExpiry => Sys2Proof.Machine.execIdleTimerExpiry s
  | .holdTimerExpiry order => Sys2Proof.Machine.execHoldTimerExpiry order s
  | .svcReqRise => Sys2Proof.Machine.execSvcReqRise s
  | .svcReqFall => Sys2Proof.Machine.execSvcReqFall s
  | .powerLoss => Sys2Proof.Machine.execPowerLoss s
  | .elevenRecessiveBitsAfterRejoin => Sys2Proof.Machine.execElevenRecessiveBitsAfterRejoin s

end Sys2Proof.Machine
end

