-- ==== Sys2Proof/Machine/Step.lean ====
section
/-! DEFINITION. One step of the block: the command at the front of the queue, or one millisecond of the tick. -/

namespace Sys2Proof.Machine

/-- With no command waiting the block idles for one millisecond: the tick of a powered station runs on (chapter 0,
section 4.1). DESIGN CHOICE (log entry 7). -/
def Station.idleTick (s : Station) : Station := s.whenOn (fun s => { s with tick := s.tick + 1 })

/-- The command at the front of the queue is taken from it and carried out. -/
def step (s : State) : Host.Outcome State Fault Refusal :=
  match s.pending with
  | c :: rest => exec c { s with pending := rest }
  | [] => .next { s with station := s.station.idleTick }

/-- The command that a table word spells put at the front of the queue; no row of the table has a word. -/
def State.withFetchWord (s : State) (nbits w : Nat) : State :=
  match decodeTableWord nbits w with
  | some c => { s with pending := c :: s.pending }
  | none => s

end Sys2Proof.Machine
end

