-- ==== Sys2Proof/Safety.lean ====
section
/-! DEFINITION. What a safe station is, in the terms the obligations use: the bounds and the rules that the spec states
for its state as it stands, and the view of it that what follows within an event leaves alone. -/

namespace Sys2Proof.Machine

/-- The Bus Interface within its rules: REC at most 255 (R67), the standing that of the counters, or WITHDRAWN
(R68, R70), at most 16 frames waiting (R73), at most two delay signals in a gap (R75), fewer than 96 runs counted
(R72). -/
def Bus.Sound (b : Bus) : Prop :=
  b.recCtr ≤ 255 ∧ (b.standing = .withdrawn ∨ b.standing = standingOf b.tec b.recCtr) ∧ b.rxq.length ≤ 16
    ∧ b.delayCount ≤ 2 ∧ b.rejoinRuns < 96

/-- No table holds more than its stated number of entries (chapter 0, section 5.3): 12 post slots of which 8 for the
claim class (R84), 24 line records (R94), 24 tasks with passed-over counts of 0..6 (R115), 32 orders (R150). -/
def Station.Limits (s : Station) : Prop :=
  (s.bus.posts.length ≤ 12 ∧ s.bus.claimSlots ≤ 8)
    ∧ (s.mpl.tasks.length ≤ 24 ∧ ∀ t ∈ s.mpl.tasks, t.passed ≤ 6)
    ∧ s.clu.records.length ≤ 24 ∧ s.cnu.orders.length ≤ 32

/-- A fault count of at most 3, and RETIRED with a count of 3 (R32). -/
def faultRule (faults : Nat) (retired : Bool) : Prop := faults ≤ 3 ∧ (faults = 3 → retired = true)

/-- A retained carrier record that keeps the rule. -/
def CarrierImage.FaultRule (x : CarrierImage) : Prop := faultRule x.faults x.retired

/-- The values of a write in flight keep the rule. -/
def WriteState.FaultRule (w : WriteState CarrierImage) : Prop :=
  match w with
  | .idle => True
  | .writing v => v.FaultRule
  | .writingNewerWaiting v => v.FaultRule

/-- A carrier record that keeps the rule, with the values its retained write carries. -/
def Carrier.FaultRule (k : Carrier) : Prop := faultRule k.faults k.locks.retired ∧ k.write.FaultRule

/-- A stored carrier record that keeps the rule, or fails its check. -/
def Stored.FaultRule (r : Stored CarrierImage) : Prop :=
  match r with
  | .failed => True
  | .good x => x.FaultRule

/-- Every carrier record keeps the rule of R32: working, on its way to the retained memory, and retained. -/
def Station.FaultCounts (s : Station) : Prop :=
  (∀ k ∈ s.smap.carriers, k.FaultRule) ∧ ∀ r ∈ s.retained.carriers, r.FaultRule

/-- The rules of the modes and of the lines that show them: STARTING until start has ended (R185, R188), a resume
only in HALTED (R193), SERVICE only with a hold and STARTING only without one (R189, R191), FAULT from a CONFIG_BAD and
in HALTED (R196), SVC_ACK only while the hold is ACKED (R196), and no station runs while RESET is asserted (R185). -/
def Station.ModeRules (s : Station) : Prop :=
  (s.stc.mode = .starting ↔ s.stc.start ≠ .done) ∧ (s.stc.resume = true → s.stc.mode = .halted)
    ∧ (s.stc.mode = .service → s.stc.hold ≠ .none) ∧ (s.stc.mode = .starting → s.stc.hold = .none)
    ∧ (s.pins.fault = true ↔ s.stc.mode = .halted ∨ s.stc.start = .configBad)
    ∧ (s.pins.svcAck = true ↔ s.stc.hold = .acked)
    ∧ (s.power = .on → s.pins.reset = false)

/-- The position is one of the N carriers (R123), N being even and 16..96 (R186); it has no value before step 1 of start
has ended (R188). -/
def Station.PositionRule (s : Station) : Prop :=
  (16 ≤ s.cfg.n ∧ s.cfg.n ≤ 96 ∧ s.cfg.n % 2 = 0) ∧ (∀ p, s.mpl.p = some p → p < s.cfg.n)
    ∧ (s.stc.start = .configRead → s.mpl.p = none)

/-- The model's names are fresh: no handle, record serial or task name has been given out that is still to come, and no
two posts, records or tasks have one name; nor have two order entries or two groups one order (R150, R153). -/
def Station.NamesFresh (s : Station) : Prop :=
  (∀ x ∈ s.bus.posts, x.handle < s.bus.nextHandle) ∧ (∀ r ∈ s.clu.records, r.serial < s.clu.nextSerial)
    ∧ (∀ t ∈ s.mpl.tasks, t.id < s.mpl.nextTask)
    ∧ (s.bus.posts.map (fun x => x.handle)).Nodup ∧ (s.clu.records.map (fun r => r.serial)).Nodup
    ∧ (s.mpl.tasks.map (fun t => t.id)).Nodup
    ∧ (s.cnu.orders.map (fun e => e.order)).Nodup ∧ (s.cnu.groups.map (fun g => g.order)).Nodup

/-- A bay within its bounds (R5): reserved at most count, count + incoming at most the capacity for its article, which has
an entry (R4); an unbound bay empty. -/
def Station.bayBounds (s : Station) (b : Bay) : Bool :=
  match b.binding with
  | none => b.idle
  | some x => decide (b.reserved ≤ b.count) && (s.smap.article? x.article).any (fun a =>
      decide (b.count + b.incoming ≤ capB s.cfg.h a.pitch))

/-- Every bay lies within its bounds (R5). -/
def Station.BayRule (s : Station) : Prop := ∀ k ∈ s.smap.carriers, ∀ b ∈ k.bays, s.bayBounds b = true

/-- The tyres that stand on the lane (R153). -/
def Cnu.laneTyres (c : Cnu) : Nat := (c.groups.map (fun g => g.tyres.length)).sum

/-- The quantity a task is to take of a record's tyres. -/
def Job.stopQty (serial : Nat) : Job → Nat
  | .pickStop stop => if stop.serial = serial then stop.qty else 0
  | .load _ _ | .putback _ _ | .scan _ _ => 0

/-- The tyres of a pick record that its tasks are to take, those that have no task yet, and those staged. -/
def Station.pickTotal (s : Station) (serial : Nat) (b : PickBody) : Nat :=
  (s.mpl.tasks.map (fun t => t.job.stopQty serial)).sum + ((b.sel.filter (fun e => !e.taskMark)).map (fun e => e.qty)).sum
    + b.staged

/-- What the task at the face can bring to the lane: a PICK_STOP its whole quantity, one whose owner has removed it the
tyre of its TAKE cycle in flight alone (R119, R131). -/
def Station.faceRoom (s : Station) (t : Task) : Prop :=
  match t.job with
  | .pickStop stop =>
    (s.fct.cycle ≠ none → 1 ≤ stop.qty ∧ s.cnu.laneTyres + 1 ≤ 8)
      ∧ (t.removed = false → s.cnu.laneTyres + stop.qty ≤ 8)
  | .load _ _ | .putback _ _ | .scan _ _ => True

/-- At most 8 tyres stand on the lane (R153), with what keeps them so: the room of the task at the face; a pick record's
tyres, staged or still to come, no more than its quantity (R95, R108); no task of a record to come; and one task alone
at the face or in a move (R120, R126). -/
def Station.LaneRule (s : Station) : Prop :=
  s.cnu.laneTyres ≤ 8 ∧ (∀ t, s.faceTask? = some t → s.faceRoom t)
    ∧ (∀ r ∈ s.clu.records, ∀ b, r.body = .pick b → s.pickTotal r.serial b ≤ r.qty)
    ∧ (∀ t ∈ s.mpl.tasks, ∀ stop, t.job = .pickStop stop → stop.serial < s.clu.nextSerial)
    ∧ (s.fct.cycle ≠ none → s.fct.stage = .cycle ∧ s.fct.task ≠ none)
    ∧ (s.fct.gauge ≠ none → s.fct.stage = .reading ∧ s.fct.task ≠ none)
    ∧ (s.mpl.move.bind (fun m => m.task) ≠ none ∨ s.mpl.held ≠ none → s.fct.task = none)
    ∧ (s.mpl.held ≠ none → s.mpl.move = none)

/-- A notice of this kind and payload stands PENDING in the slot of this handle. -/
def Bus.holdsPost (b : Bus) (h : Nat) (k : Kind) (payload : List Byte) : Prop :=
  ∃ p ∈ b.posts, p.handle = h ∧ p.kind = k ∧ p.payload = payload ∧ p.onBus = false

/-- The slot of this handle is FREE: its post is gone. -/
def Bus.slotFree (b : Bus) (h : Nat) : Prop := ∀ p ∈ b.posts, p.handle ≠ h

/-- An ABN of the order under the cause is posted, its handle kept, or owed (R161). -/
def Station.abnRaised (s : Station) (order : Nat) (cause : Cause) : Prop :=
  ∃ e, s.order? order = some e
    ∧ ((∃ h, e.abandon = some h ∧ s.bus.holdsPost h .abn (abnPayload order cause)) ∨ e.abandonOwed = some cause)

/-- The station is powered, out of RESET, and has joined the bus. -/
abbrev Station.live (s : Station) : Prop := s.power = .on ∧ s.bus.joined = true

/-! ### The view -/

/-- What of a carrier the settling of an event keeps: the lock reasons but for AUDIT and TOUCHED, the fault count, the
count and the reserved of each bay. -/
structure Stock where
  unverified : Bool
  quarantine : Bool
  held : Bool
  retired : Bool
  faults : Nat
  bays : List (Nat × Nat)
  deriving DecidableEq, Repr

def Carrier.stock (k : Carrier) : Stock where
  unverified := k.locks.unverified
  quarantine := k.locks.quarantine
  held := k.locks.held
  retired := k.locks.retired
  faults := k.faults
  bays := k.bays.map (fun b => (b.count, b.reserved))

/-- What of a record the settling of an event keeps: its names, its bid, its state and its arrived count. -/
structure RecordView where
  serial : Nat
  round : RoundId
  article : Nat
  qty : Nat
  bid : Bid
  reported : Nat × Nat × Nat
  deriving DecidableEq, Repr

def LineRec.kept (r : LineRec) : RecordView where
  serial := r.serial
  round := r.round
  article := r.article
  qty := r.qty
  bid := r.bid
  reported := r.reported

/-- What of a group the settling of an event keeps: its order, its state, its tyres and its release. -/
def Group.kept (g : Group) : Nat × Bool × List Tyre × ReleaseStage := (g.order, g.returning, g.tyres, g.release)

/-- What of a record the removal of other records keeps: all of the above but the bid, into which a slot that is freed
can bring a CLS (R105). -/
def LineRec.core (r : LineRec) : Nat × RoundId × Nat × Nat × (Nat × Nat × Nat) :=
  (r.serial, r.round, r.article, r.qty, r.reported)

/-- What of a carrier the removal of records keeps: all of the above but what is reserved of its bays. -/
def Carrier.holdings (k : Carrier) : Stock := { k.stock with bays := k.bays.map (fun b => (b.count, 0)) }

/-- What of an order entry the removal of records keeps: all but its abandon, into which a slot that is freed can bring
an ABN (R161). -/
def OrderEntry.kept (e : OrderEntry) : OrderEntry := { e with abandon := none, abandonOwed := none }

/-- What the settling of an event keeps of the station. -/
structure View where
  power : Power
  tick : Tick
  cfg : Config
  retained : Retained
  bus : Bus
  stc : Stc
  pins : Pins
  p : Option Nat
  lastInPos : Option Tick
  infeed : Infeed
  timeoutMark : Bool
  pendingRelease : Option Release
  laneFault : Bool
  orders : List OrderEntry
  groups : List (Nat × Bool × List Tyre × ReleaseStage)
  records : List RecordView
  notes : List CloseNote
  stock : List Stock
  pointer : Nat
  owedReports : List Report
  snapshot : Option Snapshot
  pendingQuery : Option Nat
  deriving DecidableEq, Repr

/-- The view of a station: the parts that the settling of an event may change stand at fixed values. -/
def Station.view (s : Station) : View where
  power := s.power
  tick := s.tick
  cfg := s.cfg
  retained := s.retained
  bus := { s.bus with posts := [], nextHandle := 0, owed := [] }
  stc := { s.stc with hold := .none, lastFault := none, statusOwed := false }
  pins := { s.pins.inactive with fault := s.pins.fault }
  p := s.mpl.p
  lastInPos := s.mpl.lastInPos
  infeed := s.fct.infeed
  timeoutMark := s.fct.timeoutMark
  pendingRelease := s.fct.pendingRelease
  laneFault := s.fct.laneFault
  orders := s.cnu.orders
  groups := s.cnu.groups.map Group.kept
  records := s.clu.records.map LineRec.kept
  notes := s.clu.notes
  stock := s.smap.carriers.map Carrier.stock
  pointer := s.adu.pointer
  owedReports := s.adu.owedReports
  snapshot := s.adu.snapshot
  pendingQuery := s.adu.pendingQuery

/-- The view `v` with the parts of `w` that the removal of records, with the offers of the slots it frees, can change. -/
def View.dropping (v w : View) : View :=
  { v with
    records := w.records, notes := w.notes, stock := w.stock, orders := w.orders, owedReports := w.owedReports
    snapshot := w.snapshot, infeed := w.infeed }

end Sys2Proof.Machine
end

