-- ==== Sys2Proof/Certificates/Slice0/Obligations.lean ====
section
/-! DEFINITION. The statements for the provers. `x` is the station before the command and `q` the commands still waiting.
Where a next state is written `u.settle x`, `u` is the command's own change, written out, and `settle` is what the rules
tie to the event after it (log entry 11); the second half of such a statement is its frame: everything in
`Station.view` is as in `u`, and so, but for what the statement changes, as it was before. -/

open Sys2Proof Sys2Proof.Machine

/-! ### The block -/

/-- For every command and station: a step takes the command at the front of the queue and carries it out on the
station with the rest of the queue; every command answers a next state and leaves the rest of the queue (log entry 3).
With no command waiting one millisecond of the tick passes, in a powered station alone: the model's choice, log entry
7. -/
def Obligations.StepRunsFrontCommand : Prop :=
  (∀ (c : Instr) (x : Station) (q : List Instr),
      step ⟨x, c :: q⟩ = exec c ⟨x, q⟩ ∧ ∃ y : Station, exec c ⟨x, q⟩ = .next ⟨y, q⟩)
    ∧ ∀ x : Station,
      (x.power = .on → step ⟨x, []⟩ = .next ⟨{ x with tick := x.tick + 1 }, []⟩)
        ∧ (x.power ≠ .on → step ⟨x, []⟩ = .next ⟨x, []⟩)

/-! ### Power, RESET and start -/

/-- POWER_UP, RESET_ASSERT, RESET_RELEASE and POWER_LOSS (R185, R20, R22): every working state at its start value, the
retained memory as R20 leaves it, the levels of the input lines the outside's. RESET is a line: its level is kept,
also without power, and with RESET asserted a POWER_UP waits for the release before it starts. That RESET_ASSERT and
POWER_LOSS put every working state at its start value at once is DEDUCED, log entry 24; POWER_UP over a powered
station is the model's choice, log entry 8. -/
def Obligations.PowerCommandsBeginAgain : Prop :=
  ∀ (x : Station) (q : List Instr),
    let up : Power := if x.pins.reset then .inReset else .on
    let asserted := { x.pins with reset := true }
    let released := { x.pins with reset := false }
    (x.power ≠ .on → exec .powerUp ⟨x, q⟩ = .next ⟨Station.atStart up x.retained x.pins, q⟩)
      ∧ (x.power = .on → exec .powerUp ⟨x, q⟩ = .next ⟨Station.atStart up x.abandonWrites x.pins, q⟩)
      ∧ (x.power = .on → exec .powerLoss ⟨x, q⟩ = .next ⟨Station.atStart .off x.abandonWrites x.pins, q⟩)
      ∧ (x.power ≠ .on → exec .powerLoss ⟨x, q⟩ = .next ⟨Station.atStart .off x.retained x.pins, q⟩)
      ∧ (x.power = .on → exec .resetAssert ⟨x, q⟩ = .next ⟨Station.atStart .inReset x.abandonWrites asserted, q⟩)
      ∧ (x.power ≠ .on → exec .resetAssert ⟨x, q⟩ = .next ⟨{ x with pins := asserted }, q⟩)
      ∧ (x.power = .inReset → exec .resetRelease ⟨x, q⟩ = .next ⟨Station.atStart .on x.retained released, q⟩)
      ∧ (x.power = .off → exec .resetRelease ⟨x, q⟩ = .next ⟨{ x with pins := released }, q⟩)
      ∧ (x.power = .on →
        let u := { x with pins := released }
        exec .resetRelease ⟨x, q⟩ = .next ⟨u.settle x, q⟩ ∧ (u.settle x).view = u.view)

/-- The values after power-up or RESET that the tables of R185, R77, R84, R91, R94, R115, R121, R132, R150, R169 and
the text of chapter 0, section 5.1 give; every output inactive, every input line at the level it has. -/
def Obligations.StartValues : Prop :=
  ∀ (p : Power) (r : Retained) (i : Pins),
    let x := Station.atStart p r i
    (x.tick = 0 ∧ x.retained = r)
      ∧ (x.stc.mode = .starting ∧ x.stc.hold = .none ∧ x.stc.homeMismatch = false ∧ x.stc.resume = false
        ∧ x.stc.lastFault = none ∧ x.stc.storeWeek = 0 ∧ x.stc.statusOwed = false)
      ∧ (x.bus.tec = 0 ∧ x.bus.recCtr = 0 ∧ x.bus.standing = .active ∧ x.bus.posts = [] ∧ x.bus.rxq = []
        ∧ x.bus.delayCount = 0 ∧ x.bus.rejoinRuns = 0 ∧ x.bus.owed = [] ∧ x.bus.joined = false ∧ x.bus.drive = []
        ∧ x.bus.sending = none ∧ x.bus.gap = .none ∧ x.bus.acked = false)
      ∧ (x.clu.records = [] ∧ x.mpl.tasks = [] ∧ x.mpl.move = none ∧ x.mpl.p = none ∧ x.mpl.lastDir = .forward)
      ∧ (x.fct.task = none ∧ x.fct.cycle = none ∧ x.fct.timeoutMark = false ∧ x.fct.lane = .idle
        ∧ x.fct.pendingRelease = none ∧ x.fct.exitCount = 0 ∧ x.fct.laneFault = false ∧ x.fct.gauge = none)
      ∧ (x.cnu.orders = [] ∧ x.cnu.groups = [] ∧ x.cnu.owedReadies = [])
      ∧ (x.adu.pointer = 0 ∧ x.adu.idleStart = none ∧ x.adu.owedReports = [] ∧ x.adu.snapshot = none
        ∧ x.adu.pendingQuery = none)
      ∧ (x.pins.drive = .inactive ∧ x.pins.extractor = none ∧ x.pins.gauge = none ∧ x.pins.laneForward = false
        ∧ x.pins.laneReverse = false ∧ x.pins.laneGate = false ∧ x.pins.svcAck = false ∧ x.pins.fault = false)
      ∧ (x.pins.laneClear = i.laneClear ∧ x.pins.headOcc = i.headOcc ∧ x.pins.extBusy = i.extBusy
        ∧ x.pins.infeedOcc = i.infeedOcc ∧ x.pins.svcReq = i.svcReq ∧ x.pins.reset = i.reset)

/-- CONFIG_READ_END. The three cases of CONFIG_BAD (R187): code 8 recorded, FAULT driven, the station STARTING for
good, the retained memory not loaded. Step 1 that ends well (R186, R188): the clamped values and the station number,
the retained load, and the lane wait, which with LANE_CLEAR asserted is followed at once by the homing move. -/
def Obligations.ConfigReadEndsStepOne : Prop :=
  (∀ (read : ConfigRead) (x : Station) (q : List Instr),
    x.power = .on → x.bus.joined = false → x.stc.start = .configRead →
    (read.answered = false ∨ read.checkGood = false ∨ read.straps.toNat = 0 ∨ 48 < read.straps.toNat) →
    exec (.configReadEnd read) ⟨x, q⟩ =
      .next ⟨{ x with
        stc := { x.stc with lastFault := some .configBad, start := .configBad }
        pins := { x.pins with fault := true } }, q⟩)
    ∧ (∀ (read : ConfigRead) (x : Station) (q : List Instr),
    x.power = .on → x.bus.joined = false → x.stc.start = .configRead →
    read.answered = true → read.checkGood = true → 1 ≤ read.straps.toNat → read.straps.toNat ≤ 48 →
    let y := ({ x with cfg := read.clamped }).retainedLoad
    (x.pins.laneClear = false →
        exec (.configReadEnd read) ⟨x, q⟩ = .next ⟨{ y with stc := { x.stc with start := .laneWait } }, q⟩)
      ∧ (x.pins.laneClear = true →
        exec (.configReadEnd read) ⟨x, q⟩ =
          .next ⟨({ y with stc := { x.stc with start := .homing } }).giveMove .forward read.clamped.n 0 none, q⟩))

/-- R186: every value lies in its range once it is clamped, and a value that lies in its range is kept; a value below
its range becomes the low end, and one above it the high end (a bit rate code above 3 is taken as 3); N is even, and
the idle audit delay is 0 or 30..3600 s. -/
def Obligations.ClampedValuesInRange : Prop :=
  (∀ lo hi v, lo ≤ hi → lo ≤ clampTo lo hi v ∧ clampTo lo hi v ≤ hi ∧ (lo ≤ v → v ≤ hi → clampTo lo hi v = v)
      ∧ (v < lo → clampTo lo hi v = lo) ∧ (hi < v → clampTo lo hi v = hi))
    ∧ (∀ v, 16 ≤ clampCarriers v ∧ clampCarriers v ≤ 96 ∧ clampCarriers v % 2 = 0
        ∧ (16 ≤ v → v ≤ 96 → clampCarriers v = v - v % 2)
        ∧ (v < 16 → clampCarriers v = 16) ∧ (96 < v → clampCarriers v = 96))
    ∧ (∀ v, (clampIdle v = 0 ↔ v = 0) ∧ (1 ≤ v → v ≤ 29 → clampIdle v = 30) ∧ (3600 < v → clampIdle v = 3600)
        ∧ (30 ≤ v → v ≤ 3600 → clampIdle v = v))
    ∧ ∀ r : ConfigRead, r.clamped.n = clampCarriers r.carriers ∧ r.clamped.idleDelay = clampIdle r.idleDelay
        ∧ r.clamped.b = clampTo 1 4 r.bays ∧ r.clamped.h = clampTo 300 1500 r.height
        ∧ r.clamped.bitRate = clampTo 0 3 r.bitRate ∧ r.clamped.ka = clampTo 0 15 r.ka
        ∧ r.clamped.kt = clampTo 0 15 r.kt ∧ r.clamped.kb = clampTo 0 15 r.kb
        ∧ r.clamped.limit = clampTo 100 60000 r.limit ∧ r.clamped.tau = clampTo 0 2 r.tau
        ∧ r.clamped.claimWindow = clampTo 5 250 r.claimWindow
        ∧ r.clamped.infeedTimeout = clampTo 5 300 r.infeedTimeout ∧ r.clamped.holdLimit = clampTo 10 900 r.holdLimit
        ∧ r.clamped.dwell = clampTo 0 3000 r.dwell ∧ r.clamped.pitchTime = clampTo 100 2000 r.pitchTime
        ∧ r.clamped.motionMargin = clampTo 500 20000 r.motionMargin
        ∧ r.clamped.approach = clampTo 100 5000 r.approach ∧ r.clamped.engageMin = clampTo 100 5000 r.engageMin
        ∧ r.clamped.withdrawTime = clampTo 100 5000 r.withdrawTime
        ∧ r.clamped.extensionMax = clampTo 0 30000 r.extensionMax
        ∧ r.clamped.releaseTimeout = clampTo 2 60 r.releaseTimeout

/-- What the retained load of start leaves, with no record in the line table (R21, R37, R7, R5). Header: the
configured values, written within the event (the model's choice, log entry 10). Article records: each that is good
gives its slot its entry, unless a lower slot names the code. A trusted record gives its carrier its counts,
QUARANTINE, HELD, RETIRED and fault count, and its bindings, dropped with a write where every count is 0. Any other
record, or any under a header that fails or differs, gives bays unbound and empty, a fault count of 0, QUARANTINE
alone, and a write. Every carrier is UNVERIFIED and has neither AUDIT, TOUCHED, a due reason nor a rescan want. An
entry that no bay is bound to is removed, with a write. -/
def Obligations.RetainedLoadLeaves : Prop :=
  ∀ x : Station, x.clu.records = [] →
    let y := x.retainedLoad
    let good := x.retained.header = .good { n := x.cfg.n, b := x.cfg.b, h := x.cfg.h }
    let entry := fun (i : Nat) (a : Article) => good ∧ x.retained.articles[i]? = some (.good (some a))
      ∧ ∀ j, j < i → ∀ a', x.retained.articles[j]? = some (.good (some a')) → a'.code ≠ a.code
    let trusted := fun r : CarrierImage => good ∧ r.bays.length = x.cfg.b
      ∧ ∀ z ∈ r.bays, ∀ w, z.binding = some w → ∃ i a, entry i a ∧ a.code = w.article ∧ z.count ≤ capB x.cfg.h a.pitch
    let bound := fun code : Nat =>
      ∃ k ∈ y.smap.carriers, ∃ b ∈ k.bays, ∃ w, b.binding = some { article := code, week := w }
    y.retained.header = .good { n := x.cfg.n, b := x.cfg.b, h := x.cfg.h }
      ∧ (x.cfg.n ≤ x.retained.carriers.length → y.smap.carriers.length = x.cfg.n)
      ∧ (∀ k ∈ y.smap.carriers,
          (k.locks.unverified = true ∧ k.locks.audit = false ∧ k.locks.touched = false ∧ k.due = .none
            ∧ k.rescan = none ∧ k.mass = y.smap.carrierMass k)
          ∧ ∀ b ∈ k.bays, b.reserved = 0 ∧ b.incoming = 0 ∧ b.grade = .none ∧ b.unsureOnce = false)
      ∧ (∀ (c : Nat) (r : CarrierImage), c < x.cfg.n → x.retained.carriers[c]? = some (.good r) → trusted r →
          ∃ k, y.smap.carriers[c]? = some k ∧ k.faults = r.faults
            ∧ k.locks = { LockSet.empty with
                unverified := true, quarantine := r.quarantine, held := r.held, retired := r.retired }
            ∧ k.bays.map (fun b => b.count) = r.bays.map (fun z => if z.binding = none then 0 else z.count)
            ∧ ((∃ z ∈ r.bays, z.binding ≠ none ∧ z.count ≠ 0) →
                k.bays.map (fun b => b.binding) = r.bays.map (fun z => z.binding) ∧ k.write = .idle)
            ∧ ((∀ z ∈ r.bays, z.binding = none ∨ z.count = 0) → (∀ b ∈ k.bays, b.binding = none)
                ∧ k.write = if ∀ z ∈ r.bays, z.binding = none then .idle else .writing k.image))
      ∧ (∀ (c : Nat) (s : Stored CarrierImage), c < x.cfg.n → x.retained.carriers[c]? = some s →
          (∀ r, s = .good r → ¬ trusted r) →
          ∃ k, y.smap.carriers[c]? = some k ∧ k.faults = 0 ∧ k.write = .writing k.image
            ∧ k.locks = { LockSet.empty with unverified := true, quarantine := true }
            ∧ k.bays = List.replicate x.cfg.b Bay.empty)
      ∧ (∀ (i : Nat) (a : Article), y.smap.articles[i]? = some (some a) ↔ entry i a ∧ bound a.code)
      ∧ (∀ i, i < 64 → y.smap.articleWrites[i]? = some (.writing none) ∨ y.smap.articleWrites[i]? = some .idle)
      ∧ (∀ i, i < 64 → (y.smap.articleWrites[i]? = some (.writing none) ↔ ∃ a, entry i a ∧ ¬ bound a.code))
      ∧ y.smap.imbalance = imbalanceOf (y.smap.carriers.map (fun k => k.mass))

/-- LANE_CLEAR_ASSERTED in the lane wait of start (R188, R125): the homing move, MOVE forward for N steps, its limit N
× pitch time + motion margin. LANE_CLEAR_ASSERTED after start (R145): a sweep ends, rollers stopped and gate shut; any
other lane drive state stays. LANE_CLEAR_FALL takes the level; with no task at the face and the conditions of R145 met
a SWEEP begins. For every command: a SWEEP begins only after a start has ended, with no group on the lane, LANE_CLEAR
clear, no release pending, no TAKE or RETURN cycle in flight and the lane fault mark clear, and it does begin where
these hold and the lane drive has returned to IDLE, the lane has become empty, LANE_CLEAR has fallen or HALTED has
become RUNNING (R149), in a station within the lane rule (StepKeepsTables). A pending release begins when the lane
drive is IDLE, no TAKE or RETURN cycle is in flight and the lane fault mark is clear (R144): a tyre at the head
position is stowed first; then exit count 0, gate open, forward, the lane timer started; no command leaves one
waiting. -/
def Obligations.LaneClearLine : Prop :=
  (∀ (x : Station) (q : List Instr),
    x.power = .on → x.bus.joined = false → x.stc.start = .laneWait → x.fct.lane = .idle →
    exec .laneClearAsserted ⟨x, q⟩ =
      .next ⟨{ x with
        stc := { x.stc with start := .homing }
        mpl := { x.mpl with
          held := none, lastDir := .forward
          move := some {
            dir := .forward, steps := x.cfg.n, target := 0, task := none, started := x.tick
            limit := x.cfg.n * x.cfg.pitchTime + x.cfg.motionMargin, homeSeen := false } }
        pins := { x.pins with laneClear := true, drive := .move .forward x.cfg.n } }, q⟩)
    ∧ (∀ (x : Station) (q : List Instr),
    (x.live → x.stc.start = .done → x.fct.lane = .sweeping →
        let u := { x with
          fct := { x.fct with lane := .idle }
          pins := { x.pins with laneClear := true, laneForward := false, laneReverse := false, laneGate := false } }
        exec .laneClearAsserted ⟨x, q⟩ = .next ⟨u.settle x, q⟩ ∧ (u.settle x).view = u.view)
      ∧ (x.live → x.stc.start = .done → x.fct.lane ≠ .sweeping →
        let u := { x with pins := { x.pins with laneClear := true } }
        exec .laneClearAsserted ⟨x, q⟩ = .next ⟨u.settle x, q⟩ ∧ (u.settle x).view = u.view)
      ∧ (let u := { x with pins := { x.pins with laneClear := false } }
        exec .laneClearFall ⟨x, q⟩ = .next ⟨u.settle x, q⟩ ∧ (u.settle x).view = u.view))
    ∧ (∀ x : Station,
    let go := x.cnu.groups = [] ∧ x.pins.laneClear = false ∧ x.fct.lane = .idle ∧ x.fct.pendingRelease = none
      ∧ (∀ c, x.fct.cycle = some c → c.kind = .store) ∧ x.fct.laneFault = false
    (go → x.beginSweep = { x with
        fct := { x.fct with lane := .sweeping, laneStarted := x.tick }
        pins := { x.pins with laneForward := true, laneReverse := false, laneGate := true } })
      ∧ (¬ go → x.beginSweep = x))
    ∧ (∀ (x : Station) (q : List Instr),
    x.live → x.fct.task = none → x.pins.laneClear = true → x.cnu.groups = [] → x.fct.lane = .idle →
    x.fct.pendingRelease = none → (∀ c, x.fct.cycle = some c → c.kind = .store) → x.fct.laneFault = false →
    ∃ y, exec .laneClearFall ⟨x, q⟩ = .next ⟨y, q⟩ ∧ y.fct.lane = .sweeping ∧ y.fct.laneStarted = x.tick
      ∧ y.pins.laneForward = true ∧ y.pins.laneGate = true)
    ∧ (∀ (c : Instr) (x y : Station) (q : List Instr), exec c ⟨x, q⟩ = .next ⟨y, q⟩ →
    let free := (∀ d, y.fct.cycle = some d → d.kind = .store) ∧ y.fct.laneFault = false
    let sweep := y.cnu.groups = [] ∧ y.pins.laneClear = false ∧ y.fct.pendingRelease = none ∧ free
    (x.fct.lane ≠ .sweeping → y.fct.lane = .sweeping → y.live ∧ sweep)
      ∧ (x.LaneRule → x.live → y.live →
          (x.fct.lane ≠ .idle ∧ y.fct.lane = .idle) ∨ (x.cnu.groups ≠ [] ∧ y.cnu.groups = [])
            ∨ (x.pins.laneClear = true ∧ y.pins.laneClear = false)
            ∨ (x.stc.mode = .halted ∧ y.stc.mode = .running) →
          ¬ (sweep ∧ y.fct.lane = .idle))
      ∧ (y.live → y.fct.pendingRelease ≠ none → ¬ (free ∧ y.fct.lane = .idle)))
    ∧ ∀ x : Station,
    let go := x.fct.pendingRelease ≠ none ∧ x.fct.lane = .idle ∧ (∀ c, x.fct.cycle = some c → c.kind = .store)
      ∧ x.fct.laneFault = false
    (go → x.pins.headOcc = true → x.beginRelease = { x with
        fct := { x.fct with lane := .stowing, laneStarted := x.tick }
        pins := { x.pins with laneForward := false, laneReverse := true, laneGate := false } })
      ∧ (go → x.pins.headOcc = false → x.beginRelease = { x with
        fct := { x.fct with lane := .releasing, laneStarted := x.tick, exitCount := 0 }
        pins := { x.pins with laneForward := true, laneReverse := false, laneGate := true } })
      ∧ (¬ go → x.beginRelease = x)

/-- JOIN (R77, R188, R196): the station joins and start ends, in RUNNING where homing completed, else in HALTED with
FAULT driven and MOTION_TIMEOUT the last fault code; an infeed that is occupied is SURPLUS (R132), which the join does
not report as INFEED_SURPLUS (DEDUCED, log entry 17). With SVC_REQ asserted the service hold begins (R189), in RUNNING
with the mode SERVICE: it is WAITING, or ACKED with SVC_ACK asserted; otherwise there is none. The entry posts an STS
(R195) where no post is in the table, and asks for START scans of the UNVERIFIED carriers, lowest first, while the
task list has room (R170), here for a station with no task and no rescan want. -/
def Obligations.JoinEndsStart : Prop :=
  ∀ (occ : Bool) (x : Station) (q : List Instr),
    x.power = .on → x.stc.start = .joining → x.stc.mode = .starting → x.stc.hold = .none → x.clu.records = [] →
    x.cnu.groups = [] → x.pins.svcAck = false →
    let mode : Mode := if x.stc.homed then (if x.pins.svcReq then .service else .running) else .halted
    ∃ y, exec (.join occ) ⟨x, q⟩ = .next ⟨y, q⟩
      ∧ y.view = Station.view { x with
          bus := { x.bus with joined := true, ready := true }
          stc := { x.stc with start := .done, mode := mode }
          fct := { x.fct with infeed := if occ then .surplus else x.fct.infeed }
          pins := { x.pins with infeedOcc := occ, fault := x.pins.fault || !x.stc.homed } }
      ∧ (x.pins.svcReq = true → y.stc.hold = .waiting ∨ y.stc.hold = .acked)
      ∧ (x.pins.svcReq = false → y.stc.hold = .none)
      ∧ (y.pins.svcAck = true ↔ y.stc.hold = .acked)
      ∧ y.stc.lastFault = (if x.stc.homed then x.stc.lastFault else some .motionTimeout)
      ∧ (x.bus.posts = [] → x.bus.owed = [] → x.bus.standing ≠ .withdrawn → x.stc.statusOwed = false →
          ∃ p ∈ y.bus.posts, p.kind = .sts ∧ p.onBus = false)
      ∧ (x.mpl.tasks = [] → x.fct.task = none →
          (∀ k ∈ x.smap.carriers, k.locks.unverified = true ∧ k.locks.audit = false ∧ k.rescan = none) →
          y.mpl.tasks.map (fun t => t.job) =
            (List.range (min 24 x.smap.carriers.length)).map (fun c => .scan c .start))

/-! ### The frame on the bus -/

/-- R56, R57, R58: what a receiver reads from the stuffed bits of a frame is that frame, for every kind, key and
payload of 0..12 bytes. -/
def Obligations.WireRoundTrip : Prop :=
  ∀ f : Frame, f.ok = true → receiveWire f.wire = some f

/-- R57 and the frame lengths of chapter 4: no 7 equal bits stand together in the stuffed part of a frame, and it is
45..169 bits long. What a transmitter drives (R56, R62) is that part, then 10 recessive bits: the acknowledge slot,
which it leaves to the receivers, the acknowledge delimiter and the 8 bits of the end field. -/
def Obligations.StuffedPartShape : Prop :=
  ∀ f : Frame, f.ok = true →
    (∀ (pre post : List Bool) (b : Bool), f.wire ≠ pre ++ List.replicate 7 b ++ post)
      ∧ 45 ≤ f.wire.length ∧ f.wire.length ≤ 169 ∧ f.bits = f.wire ++ List.replicate 10 true

/-- R68: the standing that the counters give. New values of the counters (R67, R68, R112): they are taken, the
standing follows from them, and on entering QUIET every TENTATIVE record is removed and every other stays; where the
standing stays, nothing else changes. -/
def Obligations.StandingFollowsCounters : Prop :=
  (∀ t r : Nat,
    (standingOf t r = .active ↔ t < 80 ∧ r < 80)
      ∧ (standingOf t r = .caution ↔ (80 ≤ t ∨ 80 ≤ r) ∧ t < 128 ∧ r < 128)
      ∧ (standingOf t r = .quiet ↔ (128 ≤ t ∨ 128 ≤ r) ∧ t ≤ 255)
      ∧ (standingOf t r = .withdrawn ↔ 255 < t))
    ∧ (∀ (x : Station) (t r : Nat), t ≤ 255 →
    let y := x.setCounters t r
    (y.bus.tec = t ∧ y.bus.recCtr = r ∧ y.bus.standing = standingOf t r)
      ∧ (standingOf t r = .quiet → x.bus.standing ≠ .quiet → (∀ k ∈ y.clu.records, k.tentative = false)
          ∧ (x.NamesFresh → y.clu.records.map LineRec.core =
              (x.clu.records.filter (fun k => !k.tentative)).map LineRec.core))
      ∧ (standingOf t r = x.bus.standing → y = { x with bus := { x.bus with tec := t, recCtr := r } }))

/-- R85: take-out chooses a PENDING slot, no CLM while the mode or the standing forbids it, with the lowest
arbitration field of all candidates and among equal fields the oldest post; none exactly when there is no candidate.
TAKE_OUT at a start opportunity the station may use (R59, R85, R86): the chosen slot becomes ON_BUS with the payload
filled, and its frame is driven to the end of its end field; a QUIET station that still lets opportunities pass counts
one, and without a candidate no frame begins. Either way the gap has ended, the wait after an error signal of the
station too, and nothing else is driven (R55). -/
def Obligations.TakeOutChoosesAndBegins : Prop :=
  (∀ x : Station,
    let candidate := fun p : Post => p.onBus = false ∧ (p.kind = .clm → x.stc.mode = .running ∧ x.bus.standing.bids = true)
    (x.takeOutChoice = none ↔ ∀ p ∈ x.bus.posts, ¬ candidate p)
      ∧ ∀ p, x.takeOutChoice = some p →
          ∃ before after : List Post, x.bus.posts = before ++ p :: after ∧ candidate p
            ∧ (∀ o ∈ before, candidate o → p.frame.arbitration < o.frame.arbitration)
            ∧ ∀ o ∈ after, candidate o → p.frame.arbitration ≤ o.frame.arbitration)
    ∧ (∀ (x : Station) (q : List Instr),
    x.live → x.bus.ready = true → x.bus.standing ≠ .withdrawn → x.bus.sending = none →
    (∀ p, x.bus.skip = 0 → (∀ o ∈ x.bus.posts, o.onBus = false) → x.takeOutChoice = some p →
        let sent : Post := { p with payload := x.filledPayload p, onBus := true }
        let u := { x with bus := { x.bus with
          posts := x.bus.posts.map (fun (o : Post) => if o.handle = p.handle then sent else o)
          sending := some p.handle, errorWait := none, delayCount := 0, gap := .none, acked := false
          drive := sent.frame.bits } }
        exec .takeOut ⟨x, q⟩ = .next ⟨u.settle x, q⟩ ∧ (u.settle x).view = u.view)
      ∧ (x.bus.skip ≠ 0 →
        let u := { x with bus := { x.bus with
          skip := x.bus.skip - 1, errorWait := none, gap := .none, acked := false, drive := [] } }
        exec .takeOut ⟨x, q⟩ = .next ⟨u.settle x, q⟩ ∧ (u.settle x).view = u.view)
      ∧ (x.bus.skip = 0 → x.takeOutChoice = none →
        let u := { x with bus := { x.bus with errorWait := none, gap := .none, acked := false, drive := [] } }
        exec .takeOut ⟨x, q⟩ = .next ⟨u.settle x, q⟩ ∧ (u.settle x).view = u.view))

/-- FRAME_RESEND (R61, R66): the ON_BUS slot is sent again whole and unchanged; a CLM that the mode or the standing
forbids is not sent again: its slot becomes FREE, the claim counts as not sent and its record goes; every other
record, every order entry and every count of tyres stays. The resend comes before any take-out (R66, R85): TAKE_OUT
begins no frame while the slot awaits its resend. -/
def Obligations.FrameResendRepeats : Prop :=
  ∀ (x : Station) (q : List Instr) (before after : List Post) (p : Post),
    x.live → x.bus.ready = true → x.bus.standing ≠ .withdrawn → x.bus.sending = none → x.bus.skip = 0 →
    x.bus.posts = before ++ p :: after → (∀ o ∈ before, o.onBus = false) → p.onBus = true →
    (∀ o ∈ before ++ after, o.handle ≠ p.handle) →
    (p.kind ≠ .clm ∨ (x.stc.mode = .running ∧ x.bus.standing.bids = true) →
        let u := { x with bus := { x.bus with
          sending := some p.handle, errorWait := none, delayCount := 0, gap := .none, acked := false
          drive := p.frame.bits } }
        exec .frameResend ⟨x, q⟩ = .next ⟨u.settle x, q⟩ ∧ (u.settle x).view = u.view)
      ∧ (p.kind = .clm → (∀ r ∈ x.clu.records, r.bid.claim ≠ some p.handle) →
          ¬ (x.stc.mode = .running ∧ x.bus.standing.bids = true) → x.bus.owed = [] →
        let u := { x with bus := { x.bus with
          posts := before ++ after, errorWait := none, gap := .none, acked := false, drive := [] } }
        exec .frameResend ⟨x, q⟩ = .next ⟨u.settle x, q⟩ ∧ (u.settle x).view = u.view)
      ∧ (p.kind = .clm → ¬ (x.stc.mode = .running ∧ x.bus.standing.bids = true) →
          ∀ r, x.claimHolder p.handle = some r →
            ∃ y, exec .frameResend ⟨x, q⟩ = .next ⟨y, q⟩
              ∧ y.view = { x.view.dropping y.view with bus := { x.view.bus with
                  errorWait := none, gap := .none, acked := false, drive := [] } }
              ∧ (∀ r' ∈ y.clu.records, r'.serial ≠ r.serial)
              ∧ y.smap.carriers.map Carrier.holdings = x.smap.carriers.map Carrier.holdings
              ∧ (x.NamesFresh → y.bus.slotFree p.handle
                ∧ y.cnu.orders.map OrderEntry.kept = x.cnu.orders.map OrderEntry.kept
                ∧ y.clu.records.map LineRec.core =
                  (x.clu.records.filter (fun r' => r'.serial ≠ r.serial)).map LineRec.core))
      ∧ (let u := { x with bus := { x.bus with errorWait := none, gap := .none, acked := false, drive := [] } }
        exec .takeOut ⟨x, q⟩ = .next ⟨u.settle x, q⟩ ∧ (u.settle x).view = u.view)

/-- ARBITRATION_LOST (R60): the slot returns from ON_BUS to PENDING, nothing further is sent, and neither counter
changes. DELAY_SIGNAL (R75): one of another station is taken in any gap, and with 14 or more frames waiting the
station drives one of its own (6 dominant bits and the delay delimiter) in a gap after a completed frame or after a
delay delimiter, that of a signal heard after an error too (DEDUCED, log entry 34); each is counted, at most two in
one gap, and a gap follows it; a third is not sent, nor one outside a gap. ELEVEN_RECESSIVE_BITS_AFTER_REJOIN (R59,
R72): the station may begin a frame, unless it is WITHDRAWN. -/
def Obligations.ArbitrationDelayAndReady : Prop :=
  (∀ (x : Station) (q : List Instr) (h : Nat),
    x.live → x.bus.sending = some h →
    let u := { x with bus := { x.bus with
      posts := x.bus.posts.map (fun (o : Post) => if o.handle = h then { o with onBus := false } else o)
      sending := none, drive := [] } }
    exec .arbitrationLost ⟨x, q⟩ = .next ⟨u.settle x, q⟩ ∧ (u.settle x).view = u.view)
    ∧ (∀ (heard : Bool) (x : Station) (q : List Instr),
    x.live → x.bus.ready = true → x.bus.standing ≠ .withdrawn →
    let own := 14 ≤ x.bus.rxq.length ∧ (x.bus.gap = .afterFrame ∨ x.bus.gap = .afterDelay)
    (x.bus.gap ≠ .none → x.bus.delayCount < 2 → (own ∨ heard = true) →
        let u := { x with bus := { x.bus with
          delayCount := x.bus.delayCount + 1, errorWait := none, gap := .afterDelay, acked := false
          drive := if own then List.replicate 6 false ++ List.replicate 14 true else [] } }
        exec (.delaySignal heard) ⟨x, q⟩ = .next ⟨u.settle x, q⟩ ∧ (u.settle x).view = u.view)
      ∧ (x.bus.gap = .none ∨ 2 ≤ x.bus.delayCount ∨ (¬ own ∧ heard = false) →
        exec (.delaySignal heard) ⟨x, q⟩ = .next ⟨x.settle x, q⟩ ∧ (x.settle x).view = x.view))
    ∧ (∀ (x : Station) (q : List Instr), x.live → x.bus.standing ≠ .withdrawn →
    let u := { x with bus := { x.bus with ready := true } }
    exec .elevenRecessiveBitsAfterRejoin ⟨x, q⟩ = .next ⟨u.settle x, q⟩ ∧ (u.settle x).view = u.view)

/-- FRAME_COMPLETED at a receiver (R63, R67, R73): the frame joins the end of the receive queue, REC falls by 1, to no
less than 0, the standing follows, and the gap begins; the station has driven the acknowledge slot dominant (R62, R69,
R77), in QUIET as well, and after a lost arbitration (R60). -/
def Obligations.FrameReceived : Prop :=
  ∀ (bits : List Bool) (x : Station) (q : List Instr) (f : Frame),
    x.live → x.bus.ready = true → x.bus.standing ≠ .withdrawn → x.bus.Sound → x.bus.sending = none →
    x.bus.rxq.length < 16 → receiveWire bits = some f →
    ∃ y, exec (.frameCompleted bits) ⟨x, q⟩ = .next ⟨y, q⟩
      ∧ y.view = Station.view { x with bus := { x.bus with
          recCtr := x.bus.recCtr - 1, standing := standingOf x.bus.tec (x.bus.recCtr - 1), rxq := x.bus.rxq ++ [f]
          errorWait := none, skip := 0, delayCount := 0, gap := .afterFrame
          acked := true, drive := [] } }

/-- FRAME_COMPLETED at the transmitter (R63, R67, R59, R69, R76, R62): the frame joins the station's own receive queue,
TEC falls by 1, to no less than 0, the standing follows, and a station then in QUIET lets 8 start opportunities pass;
the post's handle is SENT, its slot no longer ON_BUS. A CLM sets the claim sent flag of its record, and where that has
expired its CLS is posted, or owed where the post is refused (R103). A SAN leaves one fewer in the table, and the next
unposted entry is posted while SAN is not owed and fewer than 4 are in it, or becomes owed; the one with the last flag
ends the answer, and a pending query becomes current: its capture is made and its SANs begin (R183, R184). The freed
slot is offered (R90): with ABN owed first, the ABN of the oldest OPEN entry with an owed mark takes it. An offer goes
to the owed set in order: the first kind that is not of a full claim class and whose owner owes a notice fills the slot
with its oldest one, with the station's own key, each kind before it that was offered leaves the set, each kind after
it stays; a slot that none takes stays FREE. That an owed STS fills it beside an STS PENDING again is the model's
choice, log entry 36; the orders of these posts are those of log entries 21 (DEDUCED) and 42 (DESIGN CHOICE). -/
def Obligations.FrameSent : Prop :=
  (∀ (bits : List Bool) (x : Station) (q : List Instr) (p : Post),
    x.live → x.bus.ready = true → x.bus.standing ≠ .withdrawn → x.bus.Sound → x.bus.rxq.length < 16 →
    x.bus.sending = some p.handle → x.bus.post? p.handle = some p →
    let standing := standingOf (x.bus.tec - 1) x.bus.recCtr
    let last := payloadField p.payload 1 1 % 2 = 1
    let left := if p.kind = .san then x.adu.snapshot.map (fun (sn : Snapshot) => { sn with inTable := sn.inTable - 1 })
      else x.adu.snapshot
    ∃ y, exec (.frameCompleted bits) ⟨x, q⟩ = .next ⟨y, q⟩
      ∧ y.view = { x.view with
          bus := { x.view.bus with
            tec := x.bus.tec - 1, standing := standing, rxq := x.bus.rxq ++ [p.frame], sending := none, errorWait := none
            skip := if standing = .quiet then 8 else 0, delayCount := 0, gap := .afterFrame
            acked := false, drive := [] }
          records := y.view.records, notes := y.view.notes, orders := y.view.orders, owedReports := y.view.owedReports
          snapshot := y.view.snapshot, pendingQuery := y.view.pendingQuery }
      ∧ (p.kind = .clm → ∀ r, x.claimHolder p.handle = some r →
          (∃ r' ∈ y.clu.records, r'.serial = r.serial ∧ r'.bid.sent = true)
            ∧ (r.bid.expired = true → x.NamesFresh →
              let close := fun (r' : LineRec) => ∃ h, r'.bid.close = some h
                ∧ y.bus.holdsPost h .cls (clsPayload r.round (r.winningKey % 64) r.winningKey)
              ∃ r', y.record? r.serial = some r' ∧ (close r' ∨ (r'.bid.closeOwed = true ∧ Kind.cls ∈ y.bus.owed))
                ∧ (x.bus.owed = [] → x.bus.posts.length ≤ 11 → close r')))
      ∧ y.clu.records.map LineRec.core = x.clu.records.map LineRec.core
      ∧ y.cnu.orders.map OrderEntry.kept = x.cnu.orders.map OrderEntry.kept
      ∧ (¬ (p.kind = .san ∧ last) →
          y.adu.pendingQuery = x.adu.pendingQuery ∧ (left = none → y.adu.snapshot = none)
            ∧ ∀ sn, left = some sn →
              (y.adu.snapshot = some sn ∧ (p.kind = .san →
                  sn.entries.length ≤ sn.nextToPost ∨ 4 ≤ sn.inTable ∨ Kind.san ∈ y.bus.owed))
                ∨ ((p.kind = .san ∨ Kind.san ∈ x.bus.owed) ∧ sn.inTable < 4 ∧ ∃ e h, sn.entries[sn.nextToPost]? = some e
                  ∧ y.adu.snapshot = some { sn with nextToPost := sn.nextToPost + 1, inTable := sn.inTable + 1 }
                  ∧ y.bus.holdsPost h .san
                      (sanPayload sn.nextToPost (decide (sn.nextToPost + 1 = sn.entries.length)) e)))
      ∧ (p.kind = .san → last → y.adu.pendingQuery = none
          ∧ (x.adu.pendingQuery = none → y.adu.snapshot = none)
          ∧ ∀ article, x.adu.pendingQuery = some article →
            ∃ sn, y.adu.snapshot = some sn ∧ sn.entries = x.capture article ∧ sn.inTable = sn.nextToPost
              ∧ sn.nextToPost ≤ min 4 sn.entries.length
              ∧ (∀ i e, i < sn.nextToPost → sn.entries[i]? = some e →
                ∃ h, y.bus.holdsPost h .san (sanPayload i (decide (i + 1 = sn.entries.length)) e))
              ∧ (sn.nextToPost = min 4 sn.entries.length ∨ Kind.san ∈ y.bus.owed)
              ∧ (x.bus.owed = [] → x.bus.posts.length ≤ 8 → x.bus.claimSlots ≤ 4 →
                sn.nextToPost = min 4 sn.entries.length))
      ∧ (x.NamesFresh → y.bus.slotFree p.handle)
      ∧ (x.bus.posts.length ≤ 12 → x.bus.owed.head? = some .abn →
          ∀ e cause, x.cnu.orders.find? (fun e => e.abandonOwed.isSome && e.state = .opened) = some e →
            e.abandonOwed = some cause → ∃ h, y.bus.holdsPost h .abn (abnPayload e.order cause)))
    ∧ ∀ x : Station, x.bus.posts.length < 12 → x.bus.owed.Nodup →
    let y := x.offerSlot
    let full := fun k : Kind => k.claimClass = true ∧ 8 ≤ x.bus.claimSlots
    let qualifies := fun (n : Nat) => (x.pick? n).any (fun b => decide (b.state = .staged ∧ b.readySent = false
      ∧ x.orderIn b.order .opened = true) && x.cnu.groups.head?.any (fun g => decide (g.order = b.order ∧ g.returning = false)))
    let owes := fun k : Kind => (k = .abn ∧ ∃ e ∈ x.cnu.orders, e.state = .opened ∧ e.abandonOwed ≠ none)
      ∨ (k = .cls ∧ ∃ r ∈ x.clu.records, r.tentative = true ∧ r.bid.closeOwed = true)
      ∨ (k = .rdy ∧ ∃ n ∈ x.cnu.owedReadies, qualifies n = true)
      ∨ (k = .san ∧ ∃ sn, x.adu.snapshot = some sn ∧ sn.nextToPost < sn.entries.length ∧ sn.inTable < 4)
      ∨ (k = .arp ∧ x.adu.owedReports ≠ []) ∨ (k = .sts ∧ x.stc.statusOwed = true)
    let notice := fun p : Post =>
      (p.kind = .abn ∧ ∃ e cause, x.cnu.orders.find? (fun e => e.abandonOwed.isSome && e.state = .opened) = some e
          ∧ e.abandonOwed = some cause ∧ p.payload = abnPayload e.order cause)
        ∨ (p.kind = .cls ∧ ∃ r, x.clu.records.find? (fun r => r.bid.closeOwed && r.tentative) = some r
          ∧ p.payload = clsPayload r.round (r.winningKey % 64) r.winningKey)
        ∨ (p.kind = .rdy ∧ ∃ n b, x.cnu.owedReadies.find? qualifies = some n ∧ x.pick? n = some b
          ∧ p.payload = rdyPayload b.order b.line)
        ∨ (p.kind = .san ∧ ∃ sn e, x.adu.snapshot = some sn ∧ sn.entries[sn.nextToPost]? = some e
          ∧ p.payload = sanPayload sn.nextToPost (decide (sn.nextToPost + 1 = sn.entries.length)) e)
        ∨ (p.kind = .arp ∧ ∃ r, x.adu.owedReports.head? = some r ∧ p.payload = arpPayload r)
        ∨ (p.kind = .sts ∧ p.payload = stsPayload x.statusFields)
    (y.bus.posts = x.bus.posts ∧ ∀ k ∈ x.bus.owed, (full k ∧ k ∈ y.bus.owed) ∨ (¬ owes k ∧ k ∉ y.bus.owed))
      ∨ ∃ p before after, x.bus.owed = before ++ p.kind :: after ∧ y.bus.posts = x.bus.posts ++ [p]
        ∧ p.handle = x.bus.nextHandle ∧ p.onBus = false ∧ p.key = BitVec.ofNat 20 x.cfg.station
        ∧ ¬ full p.kind ∧ owes p.kind ∧ notice p
        ∧ (∀ k ∈ after, k ∈ y.bus.owed)
        ∧ ∀ k ∈ before, (full k ∧ k ∈ y.bus.owed) ∨ (¬ owes k ∧ k ∉ y.bus.owed)

/-- FRAME_ERROR (R64, R65, R66, R67): at its first error in a frame it transmits a station adds 8 to TEC, but for its
own failed room test, 1 to REC; a receiver adds 1 to REC; a dominant bit in the end field of a good frame, and a
missing acknowledge in QUIET, add nothing. The standing follows (R68), and the signal with it: 6 dominant bits, in
QUIET 6 recessive, then recessive with the 8 bits of the error delimiter; the slot waits ON_BUS, and a transmitter
then in QUIET lets 8 start opportunities pass (R59, R69). A receiver that meets the error after the acknowledge slot
has acknowledged. A dominant bit in the station's own error delimiter is no further error: after an active signal a
new active one, after a passive one nothing. DOMINANT_RUN_16 while the station waits after its own signal (R67): TEC
rises by 8 where it was the transmitter, REC by 1 otherwise, the standing follows. That it waits, and so counts, in
QUIET too is DEDUCED, log entry 20. Where the standing stays, nothing else changes; where it becomes WITHDRAWN, the
driving ends. -/
def Obligations.ErrorsAreCounted : Prop :=
  let counted := fun (c : Instr) (x : Station) (q : List Instr) (b : Bus) =>
    let u := { x with bus := { b with standing := standingOf b.tec b.recCtr } }
    (u.bus.standing = x.bus.standing → exec c ⟨x, q⟩ = .next ⟨u.settle x, q⟩ ∧ (u.settle x).view = u.view)
      ∧ (u.bus.standing ≠ .withdrawn →
        ∃ y, exec c ⟨x, q⟩ = .next ⟨y, q⟩ ∧ y.view = { x.view.dropping y.view with bus := u.view.bus })
      ∧ (u.bus.standing = .withdrawn →
        ∃ y, exec c ⟨x, q⟩ = .next ⟨y, q⟩ ∧ y.bus.standing = .withdrawn ∧ y.bus.drive = [])
  (∀ (e : BusError) (x : Station) (q : List Instr),
    x.live → x.bus.ready = true → x.bus.standing ≠ .withdrawn → x.bus.Sound → e ≠ .delimiter →
    (e = .roomTest → x.bus.rxq.length = 16) →
    (x.bus.sending = none → e ≠ .echo ∧ e ≠ .acknowledgeMissing) → (x.bus.sending ≠ none → e ≠ .check) →
    let tx := x.bus.sending ≠ none
    let t := if tx ∧ e ≠ .roomTest ∧ e ≠ .shapeEnd ∧ ¬ (e = .acknowledgeMissing ∧ x.bus.standing = .quiet)
      then x.bus.tec + 8 else x.bus.tec
    let r := if e = .roomTest ∨ (¬ tx ∧ e ≠ .shapeEnd) then min 255 (x.bus.recCtr + 1) else x.bus.recCtr
    let quiet := standingOf t r = .quiet
    counted (.frameError e) x q { x.bus with
      tec := t, recCtr := r, sending := none
      errorWait := some { role := if tx then .transmitter else .receiver, active := decide (¬ quiet) }
      delayCount := 0, gap := .afterError
      acked := decide (¬ tx ∧ (e = BusError.shapeDelimiter ∨ e = BusError.shapeEnd ∨ e = BusError.roomTest))
      drive := List.replicate 6 (decide quiet) ++ List.replicate 8 true
      skip := if tx ∧ quiet then 8 else 0 })
    ∧ (∀ (x : Station) (q : List Instr) (w : OwnSignal),
    x.live → x.bus.ready = true → x.bus.standing ≠ .withdrawn → x.bus.errorWait = some w → x.bus.gap = .afterError →
    (w.active = true →
        let u := { x with bus := { x.bus with drive := List.replicate 6 false ++ List.replicate 8 true } }
        exec (.frameError .delimiter) ⟨x, q⟩ = .next ⟨u.settle x, q⟩ ∧ (u.settle x).view = u.view)
      ∧ (w.active = false →
        exec (.frameError .delimiter) ⟨x, q⟩ = .next ⟨x.settle x, q⟩ ∧ (x.settle x).view = x.view))
    ∧ (∀ (x : Station) (q : List Instr) (w : OwnSignal),
    x.live → x.bus.errorWait = some w → x.bus.standing ≠ .withdrawn →
    let tx := w.role = .transmitter
    let t := if tx then x.bus.tec + 8 else x.bus.tec
    let r := min 255 (if tx then x.bus.recCtr else x.bus.recCtr + 1)
    counted .dominantRun16 x q { x.bus with
      tec := t, recCtr := r
      skip := if tx then (if standingOf t r = .quiet then 8 else 0) else x.bus.skip })

/-- A TEC that rises above 255 withdraws the station (R68, R70, R91, R112, R167, R169): it drives nothing, every slot
is FREE, the receive queue, the owed set and every owed mark are empty, the delay and run counts are 0, TEC and REC
keep their values; every order entry stays, CLOSED, and every group, RETURNING; TENTATIVE and WON records go, PICKING
and STAGED ones turn RETURNING, or go where none of their tyres stands on the lane, every other record stays; and the
close notes, the answer and the pending query are gone. The putback of the head group, its release flag clear, starts
with the destination that the stock gives before those records go (R167 steps 3 and 4, R163, R164), the PUTBACK in the
list, or wanted where that is full. -/
def Obligations.WithdrawalEmptiesBus : Prop :=
  ∀ (x : Station) (t r : Nat), 255 < t →
    let y := x.setCounters t r
    (y.bus.standing = .withdrawn ∧ y.bus.tec = t ∧ y.bus.recCtr = r ∧ y.bus.posts = [] ∧ y.bus.owed = []
        ∧ y.bus.rxq = [] ∧ y.bus.delayCount = 0 ∧ y.bus.rejoinRuns = 0 ∧ y.bus.drive = [] ∧ y.bus.sending = none
        ∧ y.bus.gap = .none ∧ y.bus.acked = false ∧ y.bus.ready = false)
      ∧ (∀ e ∈ y.cnu.orders, e.state = .closed ∧ e.holdStart = none ∧ e.abandon = none ∧ e.abandonOwed = none)
      ∧ (∀ g ∈ y.cnu.groups, g.returning = true ∧ g.readyHandles = []) ∧ y.cnu.owedReadies = []
      ∧ y.cnu.orders.map (fun e => (e.order, e.lineCount, e.ready)) = x.cnu.orders.map (fun e => (e.order, e.lineCount, e.ready))
      ∧ y.cnu.groups.map Group.kept = x.cnu.groups.map (fun g => (g.order, true, g.tyres, g.release))
      ∧ (x.NamesFresh → y.clu.records.map (fun k => k.serial) = (x.clu.records.filter (fun k =>
          match k.body with
          | .pick b => b.state = .returning || ((b.state = .picking || b.state = .staged) && x.onLane k.serial)
          | .putaway b => b.state = .loading)).map (fun k => k.serial))
      ∧ (∀ k ∈ y.clu.records, k.tentative = false ∧ k.won = false
          ∧ ∀ b, k.body = .pick b → b.state = .returning ∧ b.readyOwed = false)
      ∧ (y.clu.notes = [] ∧ y.adu.owedReports = [] ∧ y.adu.snapshot = none ∧ y.adu.pendingQuery = none
        ∧ y.stc.statusOwed = false ∧ y.stc.mode = x.stc.mode ∧ y.pins.fault = x.pins.fault)
      ∧ ∀ g gs tyre ts dest u, x.cnu.groups = g :: gs → g.tyres = tyre :: ts → g.release = .clear →
        g.putbackMark = false → g.putbackWanted = false → (∀ h ∈ gs, h.order ≠ g.order) →
        (∀ o ∈ x.mpl.tasks, ∀ n a, o.job ≠ .putback n a) → x.expectDest tyre = (dest, u) →
        let room := x.mpl.tasks.length < 24
        (∃ h hs, y.cnu.groups = h :: hs ∧ h.order = g.order ∧ h.stuck = dest.isNone ∧ h.putbackMark = decide room
            ∧ h.putbackWanted = decide (¬ room))
          ∧ (room → ∃ o ∈ y.mpl.tasks, o.job = .putback g.order dest)

/-- REJOIN (R72): a WITHDRAWN station counts one run for each 12 bits of a recessive stretch, a dominant bit between two
stretches clearing the partial run alone, as a count bit by bit gives; at 96 runs the standing is ACTIVE, the counters
and the run count are 0, and the station waits for its 11 recessive bits. The records and the order entries stay as
they are, the closed entries too (R112, R168), but that every owed mark is cleared; an STS is posted, with the post
table empty as R70 leaves it (R195). -/
def Obligations.RejoinCountsRuns : Prop :=
  (∀ (stretches : List Nat) (x : Station) (q : List Instr),
    x.live → x.bus.standing = .withdrawn →
    let read := recessiveRuns x.bus.rejoinPartial stretches
    (x.bus.rejoinRuns + read.1 < 96 →
        let u := { x with bus := { x.bus with rejoinRuns := x.bus.rejoinRuns + read.1, rejoinPartial := read.2 } }
        exec (.rejoin stretches) ⟨x, q⟩ = .next ⟨u.settle x, q⟩ ∧ (u.settle x).view = u.view)
      ∧ (96 ≤ x.bus.rejoinRuns + read.1 →
        ∃ y, exec (.rejoin stretches) ⟨x, q⟩ = .next ⟨y, q⟩
          ∧ y.view = { x.view with
              bus := { x.view.bus with
                standing := .active, tec := 0, recCtr := 0, rejoinRuns := 0, rejoinPartial := 0, ready := false }
              records := (x.clu.records.map (fun (r : LineRec) => { r with bid := { r.bid with closeOwed := false } })).map
                LineRec.kept
              orders := x.cnu.orders.map (fun (e : OrderEntry) => { e with abandonOwed := none }), owedReports := [] }
          ∧ (∀ e ∈ y.cnu.orders, e.abandonOwed = none) ∧ (∀ r ∈ y.clu.records, r.bid.closeOwed = false)
          ∧ y.clu.records.map LineRec.core = x.clu.records.map LineRec.core
          ∧ y.cnu.orders.map OrderEntry.kept = x.cnu.orders.map OrderEntry.kept
          ∧ (x.bus.posts = [] → ∃ p ∈ y.bus.posts, p.kind = .sts ∧ p.onBus = false)))
    ∧ (∀ rest n m : Nat, recessiveRuns rest [n] = ((rest + n) / 12, (rest + n) % 12)
        ∧ recessiveRuns rest [n, m] = ((rest + n) / 12 + m / 12, m % 12))
    ∧ ∀ (rest : Nat) (stretches : List Nat), rest < 12 →
    let bits : List Bool := [false].intercalate (stretches.map (fun n => List.replicate n true))
    recessiveRuns rest stretches = bits.foldl (fun (c : Nat × Nat) bit =>
      if bit = false then (c.1, 0) else if c.2 = 11 then (c.1 + 1, 0) else (c.1, c.2 + 1)) (0, rest)

/-! ### Notices -/

/-- A notice leaves the receive queue without other effect of its own: one that fails the checks of R81 or that no
command of the table takes, by NOTICE_REJECTED; an ARP, SAN or STS (R78), by STATUS_FRAME_DISCARDED; and a CCT, SCT,
ARQ or SQY whose target is another station (R33, R172, R181, R193), by the command that takes it. Which command of the
table takes such a frame is a DESIGN CHOICE, log entry 19. -/
def Obligations.NoticesWithoutEffect : Prop :=
  ∀ (x : Station) (q : List Instr) (f : Frame) (rest : List Frame),
    x.live → x.bus.rxq = f :: rest →
    let u := { x with bus := { x.bus with rxq := rest } }
    (f.unusable = true →
        exec .noticeRejected ⟨x, q⟩ = .next ⟨u.settle x, q⟩ ∧ (u.settle x).view = u.view)
      ∧ (f.accepted = some .arp ∨ f.accepted = some .san ∨ f.accepted = some .sts →
        exec .statusFrameDiscarded ⟨x, q⟩ = .next ⟨u.settle x, q⟩ ∧ (u.settle x).view = u.view)
      ∧ (payloadField f.payload 0 1 ≠ x.cfg.station → payloadField f.payload 0 1 ≠ 0 →
        ∀ w : Instr × Kind × Option Nat,
          w ∈ [(.cctHold, .cct, some 1), (.cctUnhold, .cct, some 2), (.cctHoldAll, .cct, some 3),
            (.cctUnholdAll, .cct, some 4), (.cctRetire, .cct, some 5), (.cctUnretire, .cct, some 6),
            (.cctClearQuarantine, .cct, some 7), (.cctSetCount, .cct, some 8), (.sctResume, .sct, none),
            (.arqByRange, .arq, some 1), (.arqByArticle, .arq, some 2), (.sqyTaken, .sqy, none)] →
          f.accepted = some w.2.1 → (∀ n, w.2.2 = some n → payloadField f.payload 1 1 = n) →
          exec w.1 ⟨x, q⟩ = .next ⟨u.settle x, q⟩ ∧ (u.settle x).view = u.view)

/-- R81, with the kinds of R78 and the lengths of R79: a frame is accepted as a kind exactly when its code is that
kind's, its sender is not 0 and may send the kind, its length fits, and an OPN or a POF carries a week of 0..4095. -/
def Obligations.AcceptanceChecks : Prop :=
  ∀ (f : Frame) (k : Kind),
    f.accepted = some k ↔
      f.kind.toNat = k.code ∧ f.key.toNat % 64 ≠ 0
        ∧ (match k with
          | .abn | .rdy => f.payload.length = 3
          | .cls => f.payload.length = 8
          | .clm | .sqy => f.payload.length = 4
          | .opn => f.payload.length = 5
          | .lof | .cct | .arq => f.payload.length = 7
          | .pof => f.payload.length = 12
          | .sct => f.payload.length = 2
          | .arp => f.payload.length = 3 ∨ f.payload.length = 5 ∨ f.payload.length = 7 ∨ f.payload.length = 9
          | .san => f.payload.length = 11
          | .sts => f.payload.length = 6)
        ∧ (match k with
          | .abn => True
          | .opn | .lof | .pof | .cct | .sct | .arq | .sqy => 49 ≤ f.key.toNat % 64
          | .rdy | .cls | .clm | .arp | .san | .sts => f.key.toNat % 64 ≤ 48)
        ∧ (k = .opn → payloadField f.payload 3 2 ≤ 4095) ∧ (k = .pof → payloadField f.payload 10 2 ≤ 4095)

/-- R33, R34, R35, R36: HOLD and UNHOLD, RETIRE, CLEAR_QUARANTINE act on the carriers first..last, or on those outside
that range, and HOLD_ALL and UNHOLD_ALL on every carrier: the one reason is set or cleared, every other retained
reason, the fault count, the counts and the reservations stay, and every other carrier stays. -/
def Obligations.CarrierControlReasons : Prop :=
  ∀ (w : Instr × Nat × Reason × Bool) (x : Station) (q : List Instr) (f : Frame) (rest : List Frame),
    w ∈ [(.cctHold, 1, .held, true), (.cctUnhold, 2, .held, false), (.cctHoldAll, 3, .held, true),
      (.cctUnholdAll, 4, .held, false), (.cctRetire, 5, .retired, true),
      (.cctClearQuarantine, 7, .quarantine, false)] →
    x.live → x.bus.rxq = f :: rest → f.accepted = some .cct → payloadField f.payload 1 1 = w.2.1 →
    (payloadField f.payload 0 1 = x.cfg.station ∨ payloadField f.payload 0 1 = 0) →
    let first := payloadField f.payload 2 1
    let last := payloadField f.payload 3 1
    let acted := fun c : Nat => c < x.cfg.n ∧ (w.2.1 = 3 ∨ w.2.1 = 4 ∨ (first < x.cfg.n ∧ first ≤ last
      ∧ if payloadField f.payload 4 1 = 0 then first ≤ c ∧ c ≤ last else c < first ∨ last < c))
    ∃ y, exec w.1 ⟨x, q⟩ = .next ⟨y, q⟩
      ∧ y.view = { x.view with bus := { x.view.bus with rxq := rest }, stock := y.view.stock }
      ∧ y.smap.carriers.length = x.smap.carriers.length
      ∧ ∀ (c : Nat) (k : Carrier), x.smap.carriers[c]? = some k → ∃ k', y.smap.carriers[c]? = some k'
          ∧ (∀ r : Reason, r ≠ .audit → r ≠ .touched →
              k'.locks.has r = if r = w.2.2.1 ∧ acted c then w.2.2.2 else k.locks.has r)
          ∧ k'.faults = k.faults
          ∧ k'.bays.map (fun b => (b.count, b.reserved)) = k.bays.map (fun b => (b.count, b.reserved))

/-- UNRETIRE (R33, R35): a carrier acted on that carries RETIRED loses it, and its fault count becomes 0, as one
change; any other carrier keeps both; QUARANTINE and HELD stay. SET_COUNT (R36, R17, R16): QUARANTINE goes from the
carrier; the count of a bound bay becomes the value, clamped to capB, where no more is reserved, lowered to capB −
incoming; an unbound bay keeps its count; every other carrier stays. Where more is reserved the cut comes first (R113;
what it takes: GradeEffects), and then the count is set. -/
def Obligations.UnretireAndSetCount : Prop :=
  (∀ (x : Station) (q : List Instr) (f : Frame) (rest : List Frame),
    x.live → x.bus.rxq = f :: rest → f.accepted = some .cct → payloadField f.payload 1 1 = 6 →
    (payloadField f.payload 0 1 = x.cfg.station ∨ payloadField f.payload 0 1 = 0) →
    let first := payloadField f.payload 2 1
    let last := payloadField f.payload 3 1
    let acted := fun c : Nat => c < x.cfg.n ∧ first < x.cfg.n ∧ first ≤ last
      ∧ if payloadField f.payload 4 1 = 0 then first ≤ c ∧ c ≤ last else c < first ∨ last < c
    ∃ y, exec .cctUnretire ⟨x, q⟩ = .next ⟨y, q⟩
      ∧ y.view = { x.view with bus := { x.view.bus with rxq := rest }, stock := y.view.stock }
      ∧ ∀ (c : Nat) (k : Carrier), x.smap.carriers[c]? = some k → ∃ k', y.smap.carriers[c]? = some k'
          ∧ k'.locks.retired = (if acted c then false else k.locks.retired)
          ∧ k'.faults = (if acted c ∧ k.locks.retired = true then 0 else k.faults)
          ∧ k'.locks.quarantine = k.locks.quarantine ∧ k'.locks.held = k.locks.held
          ∧ k'.locks.unverified = k.locks.unverified
          ∧ k'.bays.map (fun b => (b.count, b.reserved)) = k.bays.map (fun b => (b.count, b.reserved)))
    ∧ (∀ (x : Station) (q : List Instr) (f : Frame) (rest : List Frame) (k : Carrier) (b : Bay),
    x.live → x.bus.rxq = f :: rest → f.accepted = some .cct → payloadField f.payload 1 1 = 8 →
    (payloadField f.payload 0 1 = x.cfg.station ∨ payloadField f.payload 0 1 = 0) →
    let c := payloadField f.payload 2 1
    let i := payloadField f.payload 5 1
    c < x.cfg.n → i < x.cfg.b → x.smap.carriers[c]? = some k → k.bays[i]? = some b →
    let value := min (payloadField f.payload 6 1) ((x.bayCap b).getD 15)
    (b.binding ≠ none → b.reserved ≤ value) →
    ∃ y, exec .cctSetCount ⟨x, q⟩ = .next ⟨y, q⟩
      ∧ y.view = { x.view with bus := { x.view.bus with rxq := rest }, stock := y.view.stock }
      ∧ (∃ k' b', y.smap.carriers[c]? = some k' ∧ k'.locks.quarantine = false ∧ k'.locks.held = k.locks.held
          ∧ k'.locks.retired = k.locks.retired ∧ k'.locks.unverified = k.locks.unverified ∧ k'.faults = k.faults
          ∧ k'.bays[i]? = some b' ∧ b'.reserved = b.reserved
          ∧ b'.count = match x.bayCap b with
            | none => b.count
            | some cap => min value (cap - b.incoming))
      ∧ ∀ d, d ≠ c → (y.smap.carriers[d]?).map Carrier.stock = (x.smap.carriers[d]?).map Carrier.stock)
    ∧ (∀ (x : Station) (q : List Instr) (f : Frame) (rest : List Frame) (b : Bay) (cap : Nat),
    x.live → x.bus.rxq = f :: rest → f.accepted = some .cct → payloadField f.payload 1 1 = 8 →
    (payloadField f.payload 0 1 = x.cfg.station ∨ payloadField f.payload 0 1 = 0) →
    let a : BayAddr := { carrier := payloadField f.payload 2 1, bay := payloadField f.payload 5 1 }
    a.carrier < x.cfg.n → a.bay < x.cfg.b → x.bay? a = some b → x.bayCap b = some cap →
    let value := min (payloadField f.payload 6 1) cap
    let u := ({ x with bus := { x.bus with rxq := rest } }).putReason a.carrier .quarantine false
    exec .cctSetCount ⟨x, q⟩ =
      .next ⟨((u.cutTo a value).setCountAfterCut a value (decide (value = 0))).settle x, q⟩)

/-- SCT RESUME (R193): taken in HALTED alone, with the service hold NONE and no resume in progress: resume in progress
is set, the mode stays HALTED and FAULT driven; in every other case it leaves no trace. The home check move it orders
is MOVE forward for N steps (R125), its limit N × pitch time + motion margin, given within the event where no move,
cycle, reading or task is in flight or held. After every command no accepted RESUME is left waiting with all of these
free and no service hold: that it waits for them, and for the end of a hold, is DEDUCED, log entry 16. -/
def Obligations.ResumeAccepted : Prop :=
  (∀ (x : Station) (q : List Instr) (f : Frame) (rest : List Frame),
    x.live → x.bus.rxq = f :: rest → f.accepted = some .sct →
    (payloadField f.payload 0 1 = x.cfg.station ∨ payloadField f.payload 0 1 = 0) →
    let taken := payloadField f.payload 1 1 = 1 ∧ x.stc.mode = .halted ∧ x.stc.hold = .none ∧ x.stc.resume = false
    (taken →
        let u := { x with bus := { x.bus with rxq := rest }, stc := { x.stc with resume := true } }
        exec .sctResume ⟨x, q⟩ = .next ⟨u.settle x, q⟩ ∧ (u.settle x).view = u.view
          ∧ (x.mpl.move = none → x.mpl.held = none → x.fct.task = none → x.fct.cycle = none → x.fct.gauge = none →
            (u.settle x).mpl.move = some {
              dir := .forward, steps := x.cfg.n, target := 0, task := none, started := x.tick
              limit := x.cfg.n * x.cfg.pitchTime + x.cfg.motionMargin, homeSeen := false }
            ∧ (u.settle x).pins.drive = .move .forward x.cfg.n))
      ∧ (¬ taken →
        let u := { x with bus := { x.bus with rxq := rest } }
        exec .sctResume ⟨x, q⟩ = .next ⟨u.settle x, q⟩ ∧ (u.settle x).view = u.view))
    ∧ ∀ (c : Instr) (x y : Station) (q : List Instr), exec c ⟨x, q⟩ = .next ⟨y, q⟩ → y.live →
    y.stc.mode = .halted → y.stc.resume = true → y.stc.hold = .none → y.mpl.held = none → y.fct.task = none →
    y.fct.cycle = none → y.fct.gauge = none → y.mpl.move ≠ none

/-- ARQ (R171, R172): the carriers of the range, or those with a bay bound to the article, get the due reason REQUEST,
which replaces CYCLIC; every other carrier is left as it was. SQY (R181, R182): with no answer being sent, the
snapshot is captured at once: the bays bound to the article, or with article 0 every bound bay, in carrier order and
then bay order, the first 32 of them, or the one empty entry where there is none; the first of them are posted as
SANs, in sequence, at most 4, and 4 or all of them where the table has room and SAN is not owed (R183); otherwise the
query's article waits in the pending slot, in place of an older one. -/
def Obligations.AuditRequestAndQuery : Prop :=
  (∀ (x : Station) (q : List Instr) (f : Frame) (rest : List Frame),
    x.live → x.bus.rxq = f :: rest → f.accepted = some .arq →
    (payloadField f.payload 0 1 = x.cfg.station ∨ payloadField f.payload 0 1 = 0) →
    let first := payloadField f.payload 2 1
    let last := payloadField f.payload 3 1
    let article := payloadField f.payload 4 3
    let marked := fun acted : Nat → Carrier → Prop => fun u : Station =>
      u = { x with bus := { x.bus with rxq := rest }, smap := { x.smap with carriers := u.smap.carriers } }
        ∧ u.smap.carriers.length = x.smap.carriers.length
        ∧ ∀ (c : Nat) (k : Carrier), x.smap.carriers[c]? = some k →
          (acted c k → u.smap.carriers[c]? = some { k with due := .request })
            ∧ (¬ acted c k → u.smap.carriers[c]? = some k)
    (payloadField f.payload 1 1 = 1 →
        ∃ u, exec .arqByRange ⟨x, q⟩ = .next ⟨u.settle x, q⟩ ∧ (u.settle x).view = u.view
          ∧ marked (fun c _ => c < x.cfg.n ∧ first < x.cfg.n ∧ first ≤ c ∧ c ≤ last) u)
      ∧ (payloadField f.payload 1 1 = 2 →
        ∃ u, exec .arqByArticle ⟨x, q⟩ = .next ⟨u.settle x, q⟩ ∧ (u.settle x).view = u.view
          ∧ marked (fun _ k => article ≠ 0 ∧ ∃ b ∈ k.bays, ∃ w, b.binding = some { article := article, week := w }) u))
    ∧ (∀ (x : Station) (q : List Instr) (f : Frame) (rest : List Frame),
    x.live → x.bus.rxq = f :: rest → f.accepted = some .sqy →
    (payloadField f.payload 0 1 = x.cfg.station ∨ payloadField f.payload 0 1 = 0) →
    let article := payloadField f.payload 1 3
    let found : List SnapEntry := x.smap.carriers.zipIdx.flatMap (fun k => k.1.bays.zipIdx.filterMap (fun b =>
      b.1.binding.bind (fun w =>
        if article = 0 ∨ w.article = article then some {
          carrier := k.2, bay := b.2, article := w.article, week := w.week, count := b.1.count
          available := b.1.count - b.1.reserved, locked := k.1.locks.locked }
        else none)))
    (x.adu.snapshot ≠ none →
        let u := { x with bus := { x.bus with rxq := rest }, adu := { x.adu with pendingQuery := some article } }
        exec .sqyTaken ⟨x, q⟩ = .next ⟨u.settle x, q⟩ ∧ (u.settle x).view = u.view)
      ∧ (x.adu.snapshot = none →
        ∃ y sn, exec .sqyTaken ⟨x, q⟩ = .next ⟨y, q⟩
          ∧ y.view = { x.view with bus := { x.view.bus with rxq := rest }, snapshot := some sn }
          ∧ sn.entries = (if found = [] then
              [{ carrier := 0, bay := 0, article := 0, week := 0, count := 0, available := 0, locked := false }]
            else found.take 32)
          ∧ sn.inTable = sn.nextToPost ∧ sn.nextToPost ≤ min 4 sn.entries.length
          ∧ (∀ i e, i < sn.nextToPost → sn.entries[i]? = some e →
            ∃ h, y.bus.holdsPost h .san (sanPayload i (decide (i + 1 = sn.entries.length)) e))
          ∧ (x.bus.standing ≠ .withdrawn → x.bus.posts.length ≤ 8 → x.bus.claimSlots ≤ 4 → Kind.san ∉ x.bus.owed →
            sn.nextToPost = min 4 sn.entries.length)))

/-- OPN (R83, R151, R152): the store week rises to the week carried, the notice recorded or not; a new order is
appended as an OPEN entry with nothing ready, for 32 entries after the oldest CLOSED one is evicted, or with none
CLOSED the oldest OPEN one that has no own lines and no abandon in hand, whose TENTATIVE records go; an order number
of 0, a line count of 0 or above 16, an order already held or with a group on the lane, and a full table with nothing
to evict leave the table as it is. ABN (R161, R114): an OPEN entry becomes CLOSED, its hold timer cleared, and its
group RETURNING; its TENTATIVE and WON records go, a close that is PENDING and the unsent claim of a TENTATIVE one
withdrawn; its PICKING and STAGED ones turn RETURNING, or go where none of their tyres is on the lane; every other
entry, group and record stays; for any other order it is ignored. Putback (R163, R164): after every command a
RETURNING head group with tyres and its release flag clear has its PUTBACK in the list, or wanted. It starts with the
original bay where that takes the tyre, else the bay of R52, else none, which sets the stuck mark with STAGING_STUCK;
the tyre is expected there. -/
def Obligations.OrderOpenedAndAbandoned : Prop :=
  (∀ (x : Station) (q : List Instr) (f : Frame) (rest : List Frame),
    x.live → x.bus.rxq = f :: rest → f.accepted = some .opn →
    let order := payloadField f.payload 0 2
    let lines := payloadField f.payload 2 1
    let week := payloadField f.payload 3 2
    let heard := { x with
      bus := { x.bus with rxq := rest }, stc := { x.stc with storeWeek := max x.stc.storeWeek week } }
    let entry : OrderEntry := {
      order := order, lineCount := lines, ready := [], own := [], holdStart := none, holdExpired := false
      state := .opened, abandon := none, abandonOwed := none }
    let fresh := order ≠ 0 ∧ 1 ≤ lines ∧ lines ≤ 16 ∧ (∀ e ∈ x.cnu.orders, e.order ≠ order)
      ∧ ∀ g ∈ x.cnu.groups, g.order ≠ order
    (fresh → x.cnu.orders.length < 32 →
        let u := { heard with cnu := { x.cnu with orders := x.cnu.orders ++ [entry] } }
        exec .opnTaken ⟨x, q⟩ = .next ⟨u.settle x, q⟩ ∧ (u.settle x).view = u.view)
      ∧ (fresh → x.cnu.orders.length = 32 → ∀ old, x.cnu.orders.find? (fun e => e.state = .closed) = some old →
        let u := { heard with cnu := { x.cnu with
          orders := x.cnu.orders.filter (fun (e : OrderEntry) => e.order ≠ old.order) ++ [entry] } }
        exec .opnTaken ⟨x, q⟩ = .next ⟨u.settle x, q⟩ ∧ (u.settle x).view = u.view)
      ∧ (fresh → x.cnu.orders.length = 32 → (∀ e ∈ x.cnu.orders, e.state ≠ .closed) →
        ∀ old, x.cnu.orders.find? (fun e => decide (e.state = .opened ∧ e.own = [] ∧ e.abandon = none
          ∧ e.abandonOwed = none)) = some old →
        ∃ y, exec .opnTaken ⟨x, q⟩ = .next ⟨y, q⟩
          ∧ y.view = { x.view.dropping y.view with bus := heard.view.bus, stc := heard.view.stc }
          ∧ y.smap.carriers.map Carrier.holdings = x.smap.carriers.map Carrier.holdings
          ∧ y.cnu.orders.map (fun e => e.order) =
              (x.cnu.orders.filter (fun e => e.order ≠ old.order)).map (fun e => e.order) ++ [order]
          ∧ y.order? order = some entry
          ∧ (x.NamesFresh → y.view.infeed = x.view.infeed
            ∧ y.cnu.orders.map OrderEntry.kept =
              (x.cnu.orders.filter (fun e => e.order ≠ old.order)).map OrderEntry.kept ++ [entry]
            ∧ y.clu.records.map LineRec.core =
              (x.clu.records.filter (fun r => !r.pickOf old.order [.tentative])).map LineRec.core))
      ∧ (¬ fresh ∨ (32 ≤ x.cnu.orders.length ∧ ∀ e ∈ x.cnu.orders, e.state = .releasing ∨ (e.state = .opened
            ∧ (e.own ≠ [] ∨ e.abandon ≠ none ∨ e.abandonOwed ≠ none))) →
        exec .opnTaken ⟨x, q⟩ = .next ⟨heard.settle x, q⟩ ∧ (heard.settle x).view = heard.view))
    ∧ (∀ (x : Station) (q : List Instr) (f : Frame) (rest : List Frame),
    x.live → x.bus.rxq = f :: rest → f.accepted = some .abn →
    let order := payloadField f.payload 0 2
    (x.orderIn order .opened = true →
        ∃ y, exec .abnTaken ⟨x, q⟩ = .next ⟨y, q⟩
          ∧ y.view = { x.view.dropping y.view with
              bus := { x.view.bus with rxq := rest }
              groups := x.cnu.groups.map (fun g => (g.order, g.returning || decide (g.order = order), g.tyres, g.release)) }
          ∧ y.smap.carriers.map Carrier.holdings = x.smap.carriers.map Carrier.holdings
          ∧ y.cnu.orders.map (fun o => o.order) = x.cnu.orders.map (fun o => o.order)
          ∧ (∀ o ∈ y.cnu.orders, o.order = order → o.state = .closed ∧ o.holdStart = none)
          ∧ (x.NamesFresh → (∀ r ∈ x.clu.records, r.pickOf order [.tentative, .won] = true → r.bid.closeOwed = false →
              ∀ h, r.bid.close = some h ∨ (r.tentative = true ∧ r.bid.sent = false ∧ r.bid.claim = some h) →
                x.bus.canWithdraw h = true → y.bus.slotFree h)
            ∧ y.view.infeed = x.view.infeed
            ∧ (y.cnu.orders.filter (fun o => o.order ≠ order)).map OrderEntry.kept =
              (x.cnu.orders.filter (fun o => o.order ≠ order)).map OrderEntry.kept
            ∧ y.clu.records.map LineRec.core =
              ((x.clu.records.filter (fun r => !r.pickOf order [.tentative, .won]
                && (!r.pickOf order [.picking, .staged] || x.onLane r.serial))).map (fun r =>
                  (r.serial, r.round, r.article, r.qty,
                    if r.pickOf order [.picking, .staged] then (r.serial, 4, 0) else r.reported)))))
      ∧ (x.orderIn order .opened = false →
        let u := { x with bus := { x.bus with rxq := rest } }
        exec .abnTaken ⟨x, q⟩ = .next ⟨u.settle x, q⟩ ∧ (u.settle x).view = u.view))
    ∧ (∀ (c : Instr) (x y : Station) (q : List Instr), exec c ⟨x, q⟩ = .next ⟨y, q⟩ → y.live →
    ∀ g, y.cnu.groups.head? = some g → g.returning = true → g.release = .clear → g.tyres ≠ [] →
      g.putbackMark = true ∨ g.putbackWanted = true)
    ∧ (∀ (x : Station) (g : Group) (gs : List Group) (t : Tyre) (ts : List Tyre) (u : Station) (dest : Option BayAddr),
    x.cnu.groups = g :: gs → g.tyres = t :: ts → g.returning = true → g.release = .clear → g.putbackMark = false →
    g.putbackWanted = false → (∀ h ∈ gs, h.order ≠ g.order) → x.expectDest t = (dest, u) →
    let y := x.startPutback
    let room := u.mpl.tasks.length < 24
    (∃ h hs, y.cnu.groups = h :: hs ∧ hs = u.cnu.groups.tail ∧ h.stuck = dest.isNone ∧ h.kept = g.kept
        ∧ h.putbackMark = decide room ∧ h.putbackWanted = decide (¬ room) ∧ h.wantedDest = if room then none else dest)
      ∧ y.mpl.tasks = u.mpl.tasks ++ (if room then
          [{ id := u.mpl.nextTask, passed := 0, removed := false, job := .putback g.order dest }] else [])
      ∧ y.stc.lastFault = (if dest = none ∧ g.stuck = false then some .stagingStuck else u.stc.lastFault))
    ∧ (∀ (x : Station) (t : Tyre),
    let a := x.tyreArticle t
    let origin := x.mayStore t.origin.carrier = true ∧ ∃ b, x.bay? t.origin = some b
      ∧ b.binding = some { article := t.article, week := t.week } ∧ b.count + b.incoming + 1 ≤ capB x.cfg.h a.pitch
    (a = (x.smap.article? t.article).getD { code := t.article, unitMass := t.unitMass, pitch := t.pitch })
      ∧ (¬ origin → x.chosenBay a t.week 1 = none → x.expectDest t = (none, x))
      ∧ ∀ d, (origin ∧ d = t.origin) ∨ (¬ origin ∧ ∃ c, x.chosenBay a t.week 1 = some c ∧ c.addr = d) →
          (x.expect d t.week 1 a).1 = .accepted → x.expectDest t = (some d, (x.expect d t.week 1 a).2))

/-- RDY (R155): a line of an OPEN entry joins its ready set; the station's own first ready starts the hold timer; a
ready of an order not held, not OPEN, or for a line out of range or already ready, is ignored. The RDY that completes
an order's ready set (R159): with a group of the order on the lane the entry becomes RELEASING and, with no release
pending, its release is pending with the group's tyre count; with none the entry becomes CLOSED; the hold timer is
cleared, its TENTATIVE and WON records go, and every other entry, group and record stays, but that with no group its
PICKING and STAGED ones are ended as by an abandon. RDY posted (R156): for a STAGED record whose group is the head and
STAGING, its order OPEN, its ready flags clear: posted with its handle kept, or owed; after every command no record is
left that meets the conditions and is not owed. -/
def Obligations.ReadyHeard : Prop :=
  (∀ (x : Station) (q : List Instr) (f : Frame) (rest : List Frame),
    x.live → x.bus.rxq = f :: rest → f.accepted = some .rdy →
    let order := payloadField f.payload 0 2
    let line := payloadField f.payload 2 1
    let own := f.key.toNat % 64 = x.cfg.station
    let heard := { x with bus := { x.bus with rxq := rest } }
    (∀ e, x.order? order = some e → e.state = .opened → 1 ≤ line → line ≤ e.lineCount → line ∉ e.ready →
        e.ready.length + 1 ≠ e.lineCount →
        let u := { heard with cnu := { x.cnu with orders := x.cnu.orders.map (fun (o : OrderEntry) =>
          if o.order = order then { o with
            ready := o.ready ++ [line]
            holdStart := if own ∧ e.holdStart = none then some x.tick else o.holdStart }
          else o) } }
        exec .rdyTaken ⟨x, q⟩ = .next ⟨u.settle x, q⟩ ∧ (u.settle x).view = u.view)
      ∧ ((∀ e, x.order? order = some e → e.state ≠ .opened ∨ line = 0 ∨ e.lineCount < line ∨ line ∈ e.ready) →
        exec .rdyTaken ⟨x, q⟩ = .next ⟨heard.settle x, q⟩ ∧ (heard.settle x).view = heard.view))
    ∧ (∀ (x : Station) (q : List Instr) (f : Frame) (rest : List Frame) (e : OrderEntry),
    x.live → x.bus.rxq = f :: rest → f.accepted = some .rdy →
    let order := payloadField f.payload 0 2
    let line := payloadField f.payload 2 1
    x.order? order = some e → e.state = .opened → 1 ≤ line → line ≤ e.lineCount → line ∉ e.ready →
    e.ready.length + 1 = e.lineCount →
    ∃ y, exec .rdyTaken ⟨x, q⟩ = .next ⟨y, q⟩
      ∧ y.view = { x.view.dropping y.view with
          bus := { x.view.bus with rxq := rest }, pendingRelease := y.fct.pendingRelease
          groups := x.cnu.groups.map (fun g => (g.order, g.returning, g.tyres,
            if g.order = order then (if x.fct.pendingRelease = none then .requested else .held) else g.release)) }
      ∧ y.smap.carriers.map Carrier.holdings = x.smap.carriers.map Carrier.holdings
      ∧ y.cnu.orders.map (fun o => o.order) = x.cnu.orders.map (fun o => o.order)
      ∧ (∃ o, y.order? order = some o ∧ o.holdStart = none ∧ o.ready = e.ready ++ [line]
          ∧ o.state = if (x.group? order).isSome then .releasing else .closed)
      ∧ y.fct.pendingRelease = (match x.group? order, x.fct.pendingRelease with
          | some g, none => some { order := order, count := g.tyres.length }
          | _, p => p)
      ∧ (x.NamesFresh → y.view.infeed = x.view.infeed
        ∧ (y.cnu.orders.filter (fun o => o.order ≠ order)).map OrderEntry.kept =
          (x.cnu.orders.filter (fun o => o.order ≠ order)).map OrderEntry.kept
        ∧ y.clu.records.map LineRec.core =
          ((x.clu.records.filter (fun r => !r.pickOf order [.tentative, .won]
            && ((x.group? order).isSome || !r.pickOf order [.picking, .staged] || x.onLane r.serial))).map (fun r =>
              (r.serial, r.round, r.article, r.qty,
                if (x.group? order).isNone ∧ r.pickOf order [.picking, .staged] then (r.serial, 4, 0) else r.reported)))))
    ∧ (∀ (x : Station) (serial : Nat) (b : PickBody), x.pick? serial = some b →
    let meets := b.state = .staged ∧ b.readySent = false ∧ b.readyOwed = false ∧ x.orderIn b.order .opened = true
      ∧ ∃ g, x.cnu.groups.head? = some g ∧ g.order = b.order ∧ g.returning = false
    let posts := x.bus.accepts .rdy = true ∧ Kind.rdy ∉ x.bus.owed
    let y := x.postReady serial
    let flagged := fun (owed sent : Bool) => x.clu.records.map (fun r =>
      if r.serial = serial then r.mapPick (fun b => { b with readyOwed := owed, readySent := sent }) else r)
    (¬ meets → y = x)
      ∧ (meets → posts → y = { x with
          bus := { x.bus with
            posts := x.bus.posts ++ [{ handle := x.bus.nextHandle, kind := .rdy, key := BitVec.ofNat 20 x.cfg.station
                                       payload := rdyPayload b.order b.line, onBus := false }]
            nextHandle := x.bus.nextHandle + 1 }
          clu := { x.clu with records := flagged false true }
          cnu := { x.cnu with groups := x.cnu.groups.map (fun (g : Group) =>
            if g.order = b.order then { g with readyHandles := g.readyHandles ++ [x.bus.nextHandle] } else g) } })
      ∧ (meets → ¬ posts → y.cnu = { x.cnu with owedReadies := x.cnu.owedReadies ++ [serial] }
          ∧ y.bus.posts = x.bus.posts ∧ ∃ b', y.pick? serial = some b' ∧ b' = { b with readyOwed := true }))
    ∧ (∀ (c : Instr) (x y : Station) (q : List Instr), x.NamesFresh → exec c ⟨x, q⟩ = .next ⟨y, q⟩ → y.live →
    ∀ r ∈ y.clu.records, ∀ b, r.body = .pick b → b.state = .staged → b.readySent = false →
      y.orderIn b.order .opened = true → (∃ g, y.cnu.groups.head? = some g ∧ g.order = b.order ∧ g.returning = false) →
      b.readyOwed = true)

/-- CLM (R102): a claim of a TENTATIVE record's round that is lower than the best key heard becomes the best key
heard; lower than the record's own key, it ends the record; any other claim changes nothing. CLS (R106, R107): a
TENTATIVE record whose best key heard is its own wins its round: it is WON, and a pick's line is one of its order's
own lines; any other TENTATIVE record is lost and removed: a pick's reservations go from its bays, and a putaway's
expectation from its target, here with no group on the lane that could expect more there; a close of no record or of a
decided one changes nothing. Every other record and every order entry stays. -/
def Obligations.ClaimAndCloseHeard : Prop :=
  let lost := fun (x y : Station) (r : LineRec) =>
    (∀ r' ∈ y.clu.records, r'.serial ≠ r.serial)
      ∧ (x.NamesFresh → y.cnu.orders.map OrderEntry.kept = x.cnu.orders.map OrderEntry.kept
        ∧ y.clu.records.map LineRec.core =
          (x.clu.records.filter (fun r' => r'.serial ≠ r.serial)).map LineRec.core)
      ∧ y.smap.carriers.map Carrier.holdings = x.smap.carriers.map Carrier.holdings
      ∧ (∀ b, r.body = .pick b → x.NamesFresh → x.fct.cycle = none → (∀ e ∈ b.sel, (x.bay? e.addr).isSome = true) →
          ∀ a z, x.bay? a = some z → ∃ z', y.bay? a = some z' ∧ z'.reserved = z.reserved - askedOf b.sel a)
      ∧ ∀ b, r.body = .putaway b → x.NamesFresh → x.fct.cycle = none → x.cnu.groups = [] →
          ∀ z, x.bay? b.target = some z →
            ∃ z', y.bay? b.target = some z' ∧ z'.incoming = z.incoming - (r.qty - b.stored)
  (∀ (x : Station) (q : List Instr) (f : Frame) (rest : List Frame),
    x.live → x.bus.rxq = f :: rest → f.accepted = some .clm →
    let u := { x with bus := { x.bus with rxq := rest } }
    (∀ r, x.recordOfRound (roundField f.payload) = some r → r.tentative = true →
        (∀ k, r.bid.best = some k → f.key.toNat < k) →
        (f.key.toNat < r.bid.key → ∃ y, exec .clmTaken ⟨x, q⟩ = .next ⟨y, q⟩
            ∧ y.view = { x.view.dropping y.view with bus := { x.view.bus with rxq := rest } } ∧ lost x y r)
          ∧ (r.bid.key ≤ f.key.toNat →
            let v := { u with clu := { x.clu with records := x.clu.records.map (fun (r' : LineRec) =>
              if r'.serial = r.serial then { r' with bid := { r'.bid with best := some f.key.toNat } } else r') } }
            exec .clmTaken ⟨x, q⟩ = .next ⟨v.settle x, q⟩ ∧ (v.settle x).view = v.view))
      ∧ ((∀ r, x.recordOfRound (roundField f.payload) = some r →
            r.tentative = false ∨ ∃ k, r.bid.best = some k ∧ k ≤ f.key.toNat) →
        exec .clmTaken ⟨x, q⟩ = .next ⟨u.settle x, q⟩ ∧ (u.settle x).view = u.view))
    ∧ (∀ (x : Station) (q : List Instr) (f : Frame) (rest : List Frame),
    x.live → x.bus.rxq = f :: rest → f.accepted = some .cls →
    (∀ r, x.recordOfRound (roundField f.payload) = some r → r.tentative = true →
        (r.bid.best = some r.bid.key → ∃ y, exec .clsTaken ⟨x, q⟩ = .next ⟨y, q⟩
            ∧ y.view = { x.view.dropping y.view with
                bus := { x.view.bus with rxq := rest }, notes := x.view.notes, stock := x.view.stock, infeed := x.view.infeed }
            ∧ (∃ r' ∈ y.clu.records, r'.serial = r.serial ∧ r'.round = r.round ∧ r'.won = true)
            ∧ (x.NamesFresh → y.clu.records.map LineRec.core = x.clu.records.map (fun o => (o.serial, o.round, o.article, o.qty,
                if o.serial = r.serial then (o.serial, 1, o.reported.2.2) else o.reported)))
            ∧ (∀ b, r.body = .pick b → y.cnu.orders.map OrderEntry.kept = x.cnu.orders.map (fun e =>
                if e.order = b.order then { e.kept with own := if b.line ∈ e.own then e.own else e.own ++ [b.line] }
                else e.kept))
            ∧ ∀ b, r.body = .putaway b → y.cnu.orders.map OrderEntry.kept = x.cnu.orders.map OrderEntry.kept)
          ∧ (r.bid.best ≠ some r.bid.key → ∃ y, exec .clsTaken ⟨x, q⟩ = .next ⟨y, q⟩
            ∧ y.view = { x.view.dropping y.view with bus := { x.view.bus with rxq := rest } } ∧ lost x y r))
      ∧ ((∀ r, x.recordOfRound (roundField f.payload) = some r → r.tentative = false) →
        let u := { x with bus := { x.bus with rxq := rest } }
        exec .clsTaken ⟨x, q⟩ = .next ⟨u.settle x, q⟩ ∧ (u.settle x).view = u.view))

/-- LOF (R98, R100, R101, R95): an offer that passes the tests and has a selection is bid within the event: a
TENTATIVE record with the pick key, its window started, and a CLM with that key posted; where the CLM is refused (R101
step 4) the record and its reservations go again and nothing of the bid remains; an offer that fails a test changes
nothing. The tests of R98 and R100 are given one by one. RESERVE (R10): every entry's bay must exist, be bound to the
article and have the quantity asked of it available, else the first failing entry's code and no change; accepted, each
bay's reserved rises by what is asked of it. UNRESERVE (R11): each bay's reserved falls by its quantities, to no less
than 0; with a bay that does not exist nothing changes. -/
def Obligations.LineOfferBid : Prop :=
  (∀ (x : Station) (q : List Instr) (f : Frame) (rest : List Frame),
    x.live → x.bus.rxq = f :: rest → f.accepted = some .lof →
    let order := payloadField f.payload 0 2
    let line := payloadField f.payload 2 1
    let article := payloadField f.payload 3 3
    let qty := payloadField f.payload 6 1
    let y := { x with bus := { x.bus with rxq := rest } }
    (∀ sel t, y.lofTests order line article qty = true → y.pickSelection article qty = some sel →
        y.reserve article sel = (.accepted, t) → x.bus.accepts .clm = true →
        (∀ r ∈ x.clu.records, r.serial < x.clu.nextSerial) →
        let record : LineRec := {
          serial := x.clu.nextSerial, article := article, qty := qty
          bid := { key := y.pickKey sel, best := none, windowStart := x.tick, sent := false
                   claim := some x.bus.nextHandle, close := none, expired := false, closeOwed := false }
          body := .pick { order := order, line := line, state := .tentative, sel := sel, staged := 0
                          readyOwed := false, readySent := false } }
        let claim : Post := {
          handle := x.bus.nextHandle, kind := .clm, key := BitVec.ofNat 20 (y.pickKey sel)
          payload := (RoundId.pick order line).bytes, onBus := false }
        let u := { t with
          bus := { t.bus with
            posts := x.bus.posts ++ [claim]
            nextHandle := x.bus.nextHandle + 1 }
          clu := { t.clu with records := x.clu.records ++ [record], nextSerial := x.clu.nextSerial + 1 } }
        exec .lofTaken ⟨x, q⟩ = .next ⟨u.settle x, q⟩ ∧ (u.settle x).view = u.view)
      ∧ (∀ sel t, y.lofTests order line article qty = true → y.pickSelection article qty = some sel →
        y.reserve article sel = (.accepted, t) → x.bus.accepts .clm = false → x.NamesFresh → x.fct.cycle = none →
        x.fct.infeed ≠ .ofRecord x.clu.nextSerial →
        ∃ z, exec .lofTaken ⟨x, q⟩ = .next ⟨z, q⟩ ∧ z.view = y.view
          ∧ ∀ p ∈ z.bus.posts, p.kind = .clm → p ∈ x.bus.posts)
      ∧ (y.lofTests order line article qty = false ∨ y.pickSelection article qty = none →
        exec .lofTaken ⟨x, q⟩ = .next ⟨y.settle x, q⟩ ∧ (y.settle x).view = y.view))
    ∧ (∀ (x : Station) (order line article qty : Nat),
    x.lofTests order line article qty = true ↔
      (1 ≤ qty ∧ qty ≤ 8) ∧ article ≠ 0 ∧ (1 ≤ line ∧ line ≤ 16)
        ∧ (∃ e, x.order? order = some e ∧ line ≤ e.lineCount ∧ e.state = .opened ∧ line ∉ e.ready ∧ line ∉ e.own)
        ∧ (∀ r ∈ x.clu.records, r.round ≠ .pick order line)
        ∧ x.stc.mode = .running ∧ (x.bus.standing = .active ∨ x.bus.standing = .caution)
        ∧ x.clu.records.length < 24 ∧ (x.bus.posts.filter (fun p => p.kind.claimClass)).length < 8
        ∧ (∀ g, x.group? order = some g → ∃ l, x.cnu.groups.getLast? = some l ∧ l.order = order)
        ∧ ∀ g ∈ x.cnu.groups, g.stuck = false)
    ∧ (∀ (x : Station) (article : Nat) (entries : List SelEntry),
    let fits := fun e : SelEntry => ∃ b w, x.bay? e.addr = some b ∧ b.binding = some { article := article, week := w }
      ∧ askedOf entries e.addr ≤ b.count - b.reserved
    (∀ before e after, entries = before ++ e :: after → (∀ d ∈ before, fits d) →
        (x.bay? e.addr = none → x.reserve article entries = (.noSuchBay, x))
          ∧ ∀ b, x.bay? e.addr = some b →
            ((∀ w, b.binding ≠ some { article := article, week := w }) → x.reserve article entries = (.wrongBinding, x))
              ∧ ((∃ w, b.binding = some { article := article, week := w }) → b.count - b.reserved < askedOf entries e.addr →
                x.reserve article entries = (.short, x)))
      ∧ ((∀ e ∈ entries, fits e ∧ 1 ≤ e.qty) →
        let y := (x.reserve article entries).2
        (x.reserve article entries).1 = .accepted ∧ y = { x with smap := y.smap }
          ∧ ∀ a, y.bay? a = (x.bay? a).map (fun b => { b with reserved := b.reserved + askedOf entries a })))
    ∧ (∀ (x : Station) (entries : List (BayAddr × Nat)),
    let y := x.unreserve entries
    (∀ e ∈ entries, x.bay? e.1 = none → y = x)
      ∧ ((∀ e ∈ entries, x.bay? e.1 ≠ none) → y = { x with smap := y.smap } ∧ ∀ a b, x.bay? a = some b →
        ∃ b', y.bay? a = some b' ∧ b'.count = b.count ∧ b'.incoming = b.incoming
          ∧ b'.reserved = b.reserved - ((entries.filter (fun e => e.1 = a)).map (fun e => e.2)).sum))

/-- POF (R83, R99, R100, R101, R96): the store week rises to the week carried; an offer that passes the tests and has
a chosen bay is bid within the event, with the stored unit mass and pitch where the article has an entry: the quantity
is expected there, and a TENTATIVE record with the putaway key and its CLM are made, its last arrival tick 0 until the
win (the model's choice, log entry 31); where the CLM is refused (R101 step 4) the record and its expectation go
again, here with no group on the lane; an offer that fails a test leaves but the week. The tests of R99 and R100 are
given one by one. EXPECT (R12, R6): the bay exists, its binding allows the article and week, the article has an entry
or a slot is free, the quantity fits, else the code of the first that fails and no change; accepted, the entry is
made, the bay bound, its incoming raised. UNEXPECT (R13): incoming falls, to no less than 0; where every bay of the
carrier is then empty, all its bindings go (R6), with the last grades and unsure-once marks, those of a bay that had
no binding too (the model's choice, log entry 38). -/
def Obligations.PutawayOfferBid : Prop :=
  (∀ (x : Station) (q : List Instr) (f : Frame) (rest : List Frame),
    x.live → x.bus.rxq = f :: rest → f.accepted = some .pof →
    let number := payloadField f.payload 0 2
    let offered : Article := {
      code := payloadField f.payload 2 3, unitMass := payloadField f.payload 6 2, pitch := payloadField f.payload 8 2 }
    let qty := payloadField f.payload 5 1
    let week := payloadField f.payload 10 2
    let y := { x with
      bus := { x.bus with rxq := rest }, stc := { x.stc with storeWeek := max x.stc.storeWeek week } }
    let a := (x.smap.article? offered.code).getD offered
    (∀ c t, y.pofTests number qty offered = true → y.chosenBay a week qty = some c →
        y.expect c.addr week qty a = (.accepted, t) → x.bus.accepts .clm = true →
        (∀ r ∈ x.clu.records, r.serial < x.clu.nextSerial) →
        let key := claimKey c.cost x.cfg.station
        let record : LineRec := {
          serial := x.clu.nextSerial, article := a.code, qty := qty
          bid := { key := key, best := none, windowStart := x.tick, sent := false
                   claim := some x.bus.nextHandle, close := none, expired := false, closeOwed := false }
          body := .putaway { number := number, week := week, target := c.addr, state := .tentative, arrived := 0
                             stored := 0, lastArrival := 0, loadMark := false } }
        let claim : Post := {
          handle := x.bus.nextHandle, kind := .clm, key := BitVec.ofNat 20 key
          payload := (RoundId.putaway number).bytes, onBus := false }
        let u := { t with
          bus := { t.bus with
            posts := x.bus.posts ++ [claim]
            nextHandle := x.bus.nextHandle + 1 }
          clu := { t.clu with records := x.clu.records ++ [record], nextSerial := x.clu.nextSerial + 1 } }
        exec .pofTaken ⟨x, q⟩ = .next ⟨u.settle x, q⟩ ∧ (u.settle x).view = u.view)
      ∧ (∀ c t, y.pofTests number qty offered = true → y.chosenBay a week qty = some c →
        y.expect c.addr week qty a = (.accepted, t) → x.bus.accepts .clm = false → x.NamesFresh → x.fct.cycle = none →
        x.fct.infeed ≠ .ofRecord x.clu.nextSerial → x.cnu.groups = [] →
        ∃ z, exec .pofTaken ⟨x, q⟩ = .next ⟨z, q⟩ ∧ z.view = y.view
          ∧ (∀ d b, x.bay? d = some b → ∃ b', z.bay? d = some b' ∧ b'.incoming = b.incoming)
          ∧ ∀ p ∈ z.bus.posts, p.kind = .clm → p ∈ x.bus.posts)
      ∧ (y.pofTests number qty offered = false ∨ y.chosenBay a week qty = none →
        exec .pofTaken ⟨x, q⟩ = .next ⟨y.settle x, q⟩ ∧ (y.settle x).view = y.view))
    ∧ (∀ (x : Station) (number qty : Nat) (a : Article),
    x.pofTests number qty a = true ↔
      (1 ≤ qty ∧ qty ≤ 8) ∧ a.code ≠ 0 ∧ (20 ≤ a.unitMass ∧ a.unitMass ≤ 600) ∧ (150 ≤ a.pitch ∧ a.pitch ≤ 400)
        ∧ (∀ r ∈ x.clu.records, r.round ≠ .putaway number)
        ∧ x.stc.mode = .running ∧ (x.bus.standing = .active ∨ x.bus.standing = .caution)
        ∧ x.clu.records.length < 24 ∧ (x.bus.posts.filter (fun p => p.kind.claimClass)).length < 8
        ∧ x.fct.infeed ≠ .surplus ∧ (x.smap.article? a.code ≠ none ∨ none ∈ x.smap.articles))
    ∧ (∀ (x : Station) (addr : BayAddr) (week qty : Nat) (a : Article), 1 ≤ qty →
    let y := (x.expect addr week qty a).2
    let entry := x.smap.article? a.code
    (x.bay? addr = none → x.expect addr week qty a = (.noSuchBay, x))
      ∧ ∀ b, x.bay? addr = some b →
        let allowed := b.binding = none ∨ b.binding = some { article := a.code, week := week }
          ∨ ((∃ w, b.binding = some { article := a.code, week := w }) ∧ b.count = 0 ∧ b.reserved = 0 ∧ b.incoming = 0)
        let room := entry ≠ none ∨ none ∈ x.smap.articles
        let fits := b.count + b.incoming + qty ≤ capB x.cfg.h (entry.getD a).pitch
        (¬ allowed → x.expect addr week qty a = (.wrongBinding, x))
          ∧ (allowed → ¬ room → x.expect addr week qty a = (.tableFull, x))
          ∧ (allowed → room → ¬ fits → x.expect addr week qty a = (.noRoom, x))
          ∧ (allowed → room → fits → (x.expect addr week qty a).1 = .accepted ∧ y = { x with smap := y.smap }
            ∧ y.smap.article? a.code = some (entry.getD a)
            ∧ y.bay? addr = some { b with
                binding := some { article := a.code, week := week }, incoming := b.incoming + qty }
            ∧ ∀ d, d ≠ addr → y.bay? d = x.bay? d))
    ∧ (∀ (x : Station) (addr : BayAddr) (qty : Nat),
    let y := x.unexpect addr qty
    (x.bay? addr = none → y = x)
      ∧ ∀ k b, x.smap.carriers[addr.carrier]? = some k → k.bays[addr.bay]? = some b →
        let bays := k.bays.set addr.bay { b with incoming := b.incoming - qty }
        let left := if ∀ z ∈ bays, z.count = 0 ∧ z.reserved = 0 ∧ z.incoming = 0
          then bays.map (fun z => { z with binding := none, grade := .none, unsureOnce := false }) else bays
        (y.smap.carriers[addr.carrier]?).map (fun k => k.bays) = some left
          ∧ y = { x with smap := y.smap } ∧ ∀ d, d.carrier ≠ addr.carrier → y.bay? d = x.bay? d)

/-! ### Timers and retained writes -/

/-- CLAIM_WINDOW_EXPIRY of a TENTATIVE record whose window has run out (R104, R105): with the claim sent a CLS is
posted, its handle the close handle; an unsent claim that is PENDING is withdrawn, its slot FREE, and the record goes;
one on the bus gives the record the expired mark. INFEED_TIMEOUT (R110, R142): the record in WON or LOADING whose
timeout has run out is removed, and a tyre of it at the infeed becomes SURPLUS; every other record stays. Before its
time has run out neither timer expires (log entry 7). -/
def Obligations.RecordTimersExpire : Prop :=
  let gone := fun (x y : Station) (r : LineRec) =>
    (∀ o ∈ y.clu.records, o.serial ≠ r.serial)
      ∧ (x.NamesFresh → y.cnu.orders.map OrderEntry.kept = x.cnu.orders.map OrderEntry.kept
        ∧ y.clu.records.map LineRec.core =
          (x.clu.records.filter (fun o => o.serial ≠ r.serial)).map LineRec.core)
      ∧ y.smap.carriers.map Carrier.holdings = x.smap.carriers.map Carrier.holdings
  (∀ (round : RoundId) (x : Station) (q : List Instr) (r : LineRec),
    x.live → x.roundRecord round = some r → r.tentative = true → r.bid.expired = false → r.bid.close = none →
    r.bid.closeOwed = false →
    let due := x.cfg.claimWindow ≤ (x.tick - r.bid.windowStart).toNat
    (due → r.bid.sent = true → x.bus.accepts .cls = true → Kind.cls ∉ x.bus.owed →
        let close : Post := {
          handle := x.bus.nextHandle, kind := .cls, key := BitVec.ofNat 20 x.cfg.station
          payload := clsPayload r.round (r.winningKey % 64) r.winningKey, onBus := false }
        let u := { x with
          bus := { x.bus with posts := x.bus.posts ++ [close], nextHandle := x.bus.nextHandle + 1 }
          clu := { x.clu with records := x.clu.records.map (fun (o : LineRec) =>
            if o.serial = r.serial then { o with bid := { o.bid with close := some x.bus.nextHandle } } else o) } }
        exec (.claimWindowExpiry round) ⟨x, q⟩ = .next ⟨u.settle x, q⟩ ∧ (u.settle x).view = u.view)
      ∧ (due → r.bid.sent = false → (∃ h, r.bid.claim = some h ∧ x.bus.canWithdraw h = true) →
        ∃ y, exec (.claimWindowExpiry round) ⟨x, q⟩ = .next ⟨y, q⟩ ∧ y.view = x.view.dropping y.view ∧ gone x y r
          ∧ (x.NamesFresh → ∀ h, r.bid.claim = some h → y.bus.slotFree h))
      ∧ (due → r.bid.sent = false → (∀ h, r.bid.claim = some h → x.bus.canWithdraw h = false) →
        let u := { x with clu := { x.clu with records := x.clu.records.map (fun (o : LineRec) =>
          if o.serial = r.serial then { o with bid := { o.bid with expired := true } } else o) } }
        exec (.claimWindowExpiry round) ⟨x, q⟩ = .next ⟨u.settle x, q⟩ ∧ (u.settle x).view = u.view)
      ∧ (¬ due → exec (.claimWindowExpiry round) ⟨x, q⟩ = .next ⟨x.settle x, q⟩ ∧ (x.settle x).view = x.view))
    ∧ (∀ (number : Nat) (x : Station) (q : List Instr) (r : LineRec) (b : PutBody),
    x.live → x.roundRecord (.putaway number) = some r → x.put? r.serial = some b → b.state ≠ .tentative →
    let due := x.cfg.infeedTimeout * 1000 ≤ (x.tick - b.lastArrival).toNat
    (due → ∃ y, exec (.infeedTimeout number) ⟨x, q⟩ = .next ⟨y, q⟩
        ∧ y.view = x.view.dropping y.view ∧ gone x y r
        ∧ y.fct.infeed = if x.fct.infeed = .ofRecord r.serial then .surplus else x.fct.infeed)
      ∧ (¬ due → exec (.infeedTimeout number) ⟨x, q⟩ = .next ⟨x.settle x, q⟩ ∧ (x.settle x).view = x.view))

/-- RETAINED_WRITE_COMPLETE (R19): the record holds the values the write carried; in WRITING its state becomes IDLE;
with newer values waiting a write of the record's present values begins; in IDLE nothing changes (log entry 3). A
power loss or a RESET while a record is being written leaves it failing its check (R20), one too whose follow-on write
was in flight after an earlier write completed (the model's choice, log entry 35), and any other record as last
written; the header too, which is written within an event (the model's choice, log entry 10). -/
def Obligations.RetainedWritesCompleteOrFail : Prop :=
  (∀ (x : Station) (q : List Instr), x.power = .on →
    (∀ (c : Nat) (k : Carrier) (v : CarrierImage), x.smap.carriers[c]? = some k →
        (k.write = .writing v ∨ k.write = .writingNewerWaiting v) →
        let next : WriteState CarrierImage := if k.write = .writing v then .idle else .writing k.image
        let u := { x with
          retained := { x.retained with carriers := x.retained.carriers.set c (Stored.good v) }
          smap := { x.smap with carriers := x.smap.carriers.set c { k with write := next } } }
        exec (.retainedWriteComplete (.carrier c)) ⟨x, q⟩ = .next ⟨u.settle x, q⟩ ∧ (u.settle x).view = u.view)
      ∧ (∀ (i : Nat) (w : WriteState (Option Article)) (v e : Option Article),
        x.smap.articleWrites[i]? = some w → x.smap.articles[i]? = some e →
        (w = .writing v ∨ w = .writingNewerWaiting v) →
        let next : WriteState (Option Article) := if w = .writing v then .idle else .writing e
        let u := { x with
          retained := { x.retained with articles := x.retained.articles.set i (Stored.good v) }
          smap := { x.smap with articleWrites := x.smap.articleWrites.set i next } }
        exec (.retainedWriteComplete (.article i)) ⟨x, q⟩ = .next ⟨u.settle x, q⟩ ∧ (u.settle x).view = u.view)
      ∧ (∀ (c : Nat) (k : Carrier), x.smap.carriers[c]? = some k → k.write = .idle →
        exec (.retainedWriteComplete (.carrier c)) ⟨x, q⟩ = .next ⟨x.settle x, q⟩ ∧ (x.settle x).view = x.view))
    ∧ (∀ x : Station,
    x.abandonWrites.header = x.retained.header
      ∧ (∀ (c : Nat) (r : Stored CarrierImage), x.retained.carriers[c]? = some r →
          x.abandonWrites.carriers[c]? =
            some (if ∃ k, x.smap.carriers[c]? = some k ∧ k.write ≠ .idle then .failed else r))
      ∧ ∀ (i : Nat) (r : Stored (Option Article)), x.retained.articles[i]? = some r →
          x.abandonWrites.articles[i]? =
            some (if ∃ w, x.smap.articleWrites[i]? = some w ∧ w ≠ .idle then .failed else r))

/-- HOLD_TIMER_EXPIRY (R157, R161): the hold timer of an OPEN entry expires once, and an ABN with the cause
HOLD_EXPIRED is posted, its handle kept, or owed where the post is refused. With an abandon in hand the timer expires
with no further ABN; an entry whose timer has expired or not run out, or that is not OPEN, has no expiry and gets no
ABN, nor has an unknown order. IDLE_TIMER_EXPIRY (R173, R171): the
carrier of the round-robin pointer gets the due reason CYCLIC, unless it has REQUEST; the pointer advances modulo N,
and the timer starts again from the present tick. -/
def Obligations.HoldAndIdleTimersExpire : Prop :=
  (∀ (order : Nat) (x : Station) (q : List Instr) (e : OrderEntry) (t : Tick),
    x.live → x.order? order = some e → e.state = .opened → e.holdExpired = false → e.holdStart = some t →
    x.cfg.holdLimit * 1000 ≤ (x.tick - t).toNat → e.abandon = none → e.abandonOwed = none →
    let posts := x.bus.accepts .abn = true ∧ Kind.abn ∉ x.bus.owed
    ∃ y, exec (.holdTimerExpiry order) ⟨x, q⟩ = .next ⟨y, q⟩
      ∧ y.view = { x.view with orders := y.view.orders }
      ∧ y.cnu.orders = x.cnu.orders.map (fun (o : OrderEntry) =>
          if o.order = order then { o with
            holdExpired := true
            abandon := if posts then some x.bus.nextHandle else o.abandon
            abandonOwed := if posts then o.abandonOwed else some .holdExpired }
          else o)
      ∧ (posts → { handle := x.bus.nextHandle, kind := .abn, key := BitVec.ofNat 20 x.cfg.station
                   payload := abnPayload order .holdExpired, onBus := false } ∈ y.bus.posts)
      ∧ (¬ posts → x.bus.standing ≠ .withdrawn → Kind.abn ∈ y.bus.owed))
    ∧ (∀ (order : Nat) (x : Station) (q : List Instr), x.live →
    let due := fun e : OrderEntry => e.state = .opened ∧ e.holdExpired = false
      ∧ ∃ t, e.holdStart = some t ∧ x.cfg.holdLimit * 1000 ≤ (x.tick - t).toNat
    ((∀ e, x.order? order = some e → ¬ due e) →
        exec (.holdTimerExpiry order) ⟨x, q⟩ = .next ⟨x.settle x, q⟩ ∧ (x.settle x).view = x.view)
      ∧ ∀ e, x.order? order = some e → due e → (e.abandon ≠ none ∨ e.abandonOwed ≠ none) →
        let u := { x with cnu := { x.cnu with orders := x.cnu.orders.map (fun (o : OrderEntry) =>
          if o.order = order then { o with holdExpired := true } else o) } }
        exec (.holdTimerExpiry order) ⟨x, q⟩ = .next ⟨u.settle x, q⟩ ∧ (u.settle x).view = u.view)
    ∧ (∀ (x : Station) (q : List Instr) (t : Tick),
    x.live → x.adu.idleStart = some t → x.cfg.idleDelay * 1000 ≤ (x.tick - t).toNat →
    let u := { x with
      smap := { x.smap with carriers := x.smap.carriers.modify x.adu.pointer (fun (k : Carrier) =>
        { k with due := if k.due = Due.request then Due.request else Due.cyclic }) }
      adu := { x.adu with pointer := (x.adu.pointer + 1) % x.cfg.n, idleStart := some x.tick } }
    exec .idleTimerExpiry ⟨x, q⟩ = .next ⟨u.settle x, q⟩ ∧ (u.settle x).view = u.view)

/-! ### Motion -/

/-- REVERSAL_DWELL_EXPIRY (R121, R122): once the dwell has run out since the IN_POS that ended the last move, the held
task's move begins: MOVE in its direction for its steps, the direction recorded, and the motion timer with the limit
steps × pitch time + motion margin. MOTION_TIMER_EXPIRY (R122, R125, R188): the planner gives STOP, the move ends, its
task stays in the list, and MOTION_TIMEOUT is reported; during the homing of start, homing has failed and the join
follows. Before its time has run out neither timer expires (log entry 7). -/
def Obligations.DwellAndMotionTimersExpire : Prop :=
  (∀ (x : Station) (q : List Instr) (h : HeldMove),
    x.live → x.mpl.held = some h →
    let elapsed := ∀ t, x.mpl.lastInPos = some t → x.cfg.dwell ≤ (x.tick - t).toNat
    (elapsed →
        let u := { x with
          mpl := { x.mpl with
            held := none, lastDir := h.dir
            move := some {
              dir := h.dir, steps := h.steps, target := h.target, task := some h.task, started := x.tick
              limit := h.steps * x.cfg.pitchTime + x.cfg.motionMargin, homeSeen := false } }
          pins := { x.pins with drive := .move h.dir h.steps } }
        exec .reversalDwellExpiry ⟨x, q⟩ = .next ⟨u.settle x, q⟩ ∧ (u.settle x).view = u.view)
      ∧ (¬ elapsed → exec .reversalDwellExpiry ⟨x, q⟩ = .next ⟨x.settle x, q⟩ ∧ (x.settle x).view = x.view))
    ∧ (∀ (x : Station) (q : List Instr) (m : Move),
    x.power = .on → x.mpl.move = some m → (∀ id t, m.task = some id → x.task? id = some t → t.removed = false) →
    let stopped := { x with mpl := { x.mpl with move := none }, pins := { x.pins with drive := .stop } }
    (m.limit ≤ (x.tick - m.started).toNat → x.stc.start = .homing → x.bus.joined = false →
        exec .motionTimerExpiry ⟨x, q⟩ =
          .next ⟨{ stopped with stc := { x.stc with start := .joining, homed := false } }, q⟩)
      ∧ (m.limit ≤ (x.tick - m.started).toNat → x.stc.start ≠ .homing →
        exec .motionTimerExpiry ⟨x, q⟩ = .next ⟨(stopped.haltFault .motionTimeout).settle x, q⟩)
      ∧ ((x.tick - m.started).toNat < m.limit → exec .motionTimerExpiry ⟨x, q⟩ = .next ⟨x.settle x, q⟩))

/-- A halting fault in RUNNING or SERVICE (R192, R112, R129, R162): its code recorded, the mode HALTED, FAULT driven,
the home mismatch mark set by a HOME_MISMATCH alone, resume in progress clear, the drive stopped with no move and no
task held, no TENTATIVE record left, every other record and every order entry kept, and the position kept; an OPEN
order with WON or PICKING records and no abandon in hand has its ABN(STATION_HALTED) posted or owed. In HALTED the
code is recorded, the mode, FAULT, the move and the records stand; a MOTION_TIMEOUT clears resume in progress. In each
of these modes a HOME_MISMATCH sets the home mismatch mark and removes the SCAN tasks but for that at the face, with
AUDIT of their carriers; in HALTED any other fault leaves the planner as it is. -/
def Obligations.HaltingFaultEffects : Prop :=
  ∀ (f : StationFault) (x : Station),
    (∀ r ∈ x.clu.records, r.tentative = true → x.fct.infeed ≠ .ofRecord r.serial) →
    let y := x.haltFault f
    (x.stc.mode = .running ∨ x.stc.mode = .service →
        y.stc.lastFault = some f ∧ y.stc.mode = .halted ∧ y.pins.fault = true ∧ y.stc.resume = false
          ∧ y.mpl.move = none ∧ y.mpl.held = none ∧ (x.mpl.move ≠ none → y.pins.drive = .stop)
          ∧ (∀ r ∈ y.clu.records, r.tentative = false)
          ∧ (x.NamesFresh → y.cnu.orders.map OrderEntry.kept = x.cnu.orders.map OrderEntry.kept
            ∧ y.clu.records.map LineRec.core = (x.clu.records.filter (fun r => !r.tentative)).map LineRec.core
            ∧ ∀ e ∈ x.cnu.orders, e.state = .opened → e.abandon = none → e.abandonOwed = none →
              (∃ r ∈ x.clu.records, r.pickOf e.order [.won, .picking] = true) → y.abnRaised e.order .stationHalted)
          ∧ y.smap.carriers.map Carrier.holdings = x.smap.carriers.map Carrier.holdings ∧ y.mpl.p = x.mpl.p ∧ y.stc.hold = x.stc.hold
          ∧ y.view = { x.view.dropping y.view with stc := y.view.stc, pins := { x.view.pins with fault := true } })
      ∧ (x.stc.mode = .halted →
        y.stc.lastFault = some f ∧ y.stc.mode = .halted ∧ y.pins = x.pins ∧ y.mpl.move = x.mpl.move
          ∧ y.stc.resume = (x.stc.resume && decide (f ≠ .motionTimeout)) ∧ y.clu = x.clu ∧ y.cnu = x.cnu
          ∧ (f ≠ .homeMismatch → y.mpl = x.mpl ∧ y.smap = x.smap ∧ y.fct = x.fct))
      ∧ (x.stc.mode ≠ .starting →
        y.stc.homeMismatch = (x.stc.homeMismatch || decide (f = .homeMismatch))
          ∧ (f = .homeMismatch → (∀ t ∈ y.mpl.tasks, ∀ c p, t.job = .scan c p → x.fct.task = some t.id)
            ∧ (x.NamesFresh → ∀ t ∈ x.mpl.tasks, ∀ c p, t.job = .scan c p → t.removed = false →
              x.fct.task ≠ some t.id → ∀ k, y.smap.carriers[c]? = some k → k.locks.audit = false)))

/-- INDEX (R123): p steps by one carrier modulo N, in the direction of the move or, with none in flight, in the last
direction; with the hold ACKED the carrier that comes to the face gains TOUCHED; without a position the pulse is not
counted. HOME (R124): with p at 0 it confirms the position; with p elsewhere p becomes 0, a move in flight is stopped,
and HOME_MISMATCH is reported; without a position it tests nothing. The first HOME of a home check move gives STOP and
sets p to 0 (R125), where p has a value: that it has none until the homing of start ends (R188) is DEDUCED, log entry
23. -/
def Obligations.PositionPulses : Prop :=
  (∀ (x : Station) (q : List Instr), x.power = .on →
    (x.mpl.p = none → exec .index ⟨x, q⟩ = .next ⟨x.settle x, q⟩ ∧ (x.settle x).view = x.view)
      ∧ ∀ p, x.mpl.p = some p →
        let dir := match x.mpl.move with
          | some m => m.dir
          | none => x.mpl.lastDir
        let p' := match dir with
          | .forward => (p + 1) % x.cfg.n
          | .backward => (p + x.cfg.n - 1) % x.cfg.n
        let u := { x with mpl := { x.mpl with p := some p' } }
        let v := if x.stc.hold = .acked then u.touch p' else u
        exec .index ⟨x, q⟩ = .next ⟨v.settle x, q⟩ ∧ (v.settle x).view = u.view
          ∧ (x.stc.hold = .acked → ∀ k, x.smap.carriers[p']? = some k →
              v.smap.carriers[p']? = some { k with locks := { k.locks with touched := true } }))
    ∧ (∀ (x : Station) (q : List Instr), x.power = .on →
    (x.mpl.move = none → (x.mpl.p = none ∨ x.mpl.p = some 0) → exec .home ⟨x, q⟩ = .next ⟨x.settle x, q⟩ ∧ (x.settle x).view = x.view)
      ∧ (∀ p, x.mpl.move = none → x.mpl.p = some p → p ≠ 0 →
        let u := { x with mpl := { x.mpl with p := some 0 } }
        exec .home ⟨x, q⟩ = .next ⟨(u.haltFault .homeMismatch).settle x, q⟩)
      ∧ (∀ p m id, x.mpl.move = some m → m.task = some id → x.mpl.p = some p → p ≠ 0 →
        let u := { x with mpl := { x.mpl with p := some 0, move := none }, pins := { x.pins with drive := .stop } }
        exec .home ⟨x, q⟩ = .next ⟨((u.dropIfRemoved id).haltFault .homeMismatch).settle x, q⟩)
      ∧ (∀ m id, x.mpl.move = some m → m.task = some id → (x.mpl.p = none ∨ x.mpl.p = some 0) →
        exec .home ⟨x, q⟩ = .next ⟨x.settle x, q⟩ ∧ (x.settle x).view = x.view)
      ∧ (∀ m, x.mpl.move = some m → m.task = none → m.homeSeen = true →
        exec .home ⟨x, q⟩ = .next ⟨x.settle x, q⟩ ∧ (x.settle x).view = x.view)
      ∧ (∀ m, x.mpl.move = some m → m.task = none → m.homeSeen = false →
        let u := { x with
          mpl := { x.mpl with p := x.mpl.p.map (fun _ => 0), move := some { m with homeSeen := true } }
          pins := { x.pins with drive := .stop } }
        exec .home ⟨x, q⟩ = .next ⟨u.settle x, q⟩ ∧ (u.settle x).view = u.view))

/-- IN_POS (R122, R125, R126, R188): it ends a move; a task that has reached its carrier goes to the face where it is
still ready in RUNNING, stays in the list where it is not, and leaves it where its owner has removed it (R131); past
the target the move has failed with MOTION_TIMEOUT; the home check move of start ends with p at 0 and the last
direction forward; without a move, and before the HOME of a home check move, it does nothing. At the end of a resume's
home check move (R193): resume in progress is cleared, FAULT released, the mode RUNNING, p as the first HOME has left
it, 0 where it had no value (log entry 23); TOUCHED on every carrier where the home mismatch mark is set and on
carrier 0 otherwise, the mark then clear; the lane fault mark is cleared (R149), and the releases that have failed are
asked for again (R160), the first with its tyre count, others held back. -/
def Obligations.InPosEndsMove : Prop :=
  (∀ (x : Station) (q : List Instr), x.power = .on →
    (x.mpl.move = none ∨ (∃ m, x.mpl.move = some m ∧ m.task = none ∧ m.homeSeen = false) →
        exec .inPos ⟨x, q⟩ = .next ⟨x.settle x, q⟩ ∧ (x.settle x).view = x.view)
      ∧ (∀ m, x.mpl.move = some m → m.task = none → m.homeSeen = true → x.stc.start = .homing →
          x.bus.joined = false → x.mpl.p = none →
        exec .inPos ⟨x, q⟩ = .next ⟨{ x with
          stc := { x.stc with start := .joining, homed := true }
          mpl := { x.mpl with p := some 0, lastDir := .forward, move := none, lastInPos := some x.tick } }, q⟩)
      ∧ (∀ m id t, x.mpl.move = some m → m.task = some id → x.task? id = some t → t.removed = false →
        let ended := { x with mpl := { x.mpl with move := none, lastInPos := some x.tick } }
        (x.mpl.p = some m.target → x.stc.mode = .running → ended.ready t.job = true →
            let u := { ended with fct := { x.fct with task := some id, stage := .check } }
            exec .inPos ⟨x, q⟩ = .next ⟨u.settle x, q⟩ ∧ (u.settle x).view = u.view)
          ∧ (x.mpl.p = some m.target → x.stc.mode = .running → ended.ready t.job = false →
            exec .inPos ⟨x, q⟩ = .next ⟨ended.settle x, q⟩ ∧ (ended.settle x).view = ended.view)
          ∧ (x.mpl.p = some m.target → x.stc.mode ≠ .running →
            exec .inPos ⟨x, q⟩ = .next ⟨ended.settle x, q⟩ ∧ (ended.settle x).view = ended.view)
          ∧ (x.mpl.p ≠ some m.target →
            exec .inPos ⟨x, q⟩ = .next ⟨(ended.haltFault .motionTimeout).settle x, q⟩))
      ∧ (∀ m id t, x.mpl.move = some m → m.task = some id → x.task? id = some t → t.removed = true →
          x.mpl.p = some m.target →
        let u := { x with mpl := { x.mpl with
          move := none, lastInPos := some x.tick, tasks := x.mpl.tasks.filter (fun o => o.id ≠ id) } }
        exec .inPos ⟨x, q⟩ = .next ⟨u.settle x, q⟩ ∧ (u.settle x).view = u.view))
    ∧ (∀ (x : Station) (q : List Instr) (m : Move),
    x.live → x.stc.start = .done → x.stc.mode = .halted → x.stc.resume = true → x.mpl.move = some m →
    m.task = none → m.homeSeen = true → (∀ g ∈ x.cnu.groups, g.release ≠ .failed) →
    ∃ u : Station, exec .inPos ⟨x, q⟩ = .next ⟨u.settle x, q⟩
      ∧ (u.settle x).view = Station.view { x with
          stc := { x.stc with mode := .running, resume := false, homeMismatch := false }
          mpl := { x.mpl with p := some (x.mpl.p.getD 0), lastInPos := some x.tick }
          fct := { x.fct with laneFault := false }
          pins := { x.pins with fault := false } }
      ∧ ∀ (c : Nat) (k : Carrier), x.smap.carriers[c]? = some k → c < x.cfg.n →
          ∃ k', u.smap.carriers[c]? = some k'
            ∧ k'.locks.touched = (k.locks.touched || x.stc.homeMismatch || decide (c = 0)))
    ∧ (∀ (x : Station) (q : List Instr) (m : Move) (g : Group),
    x.live → x.stc.start = .done → x.stc.mode = .halted → x.stc.resume = true → x.mpl.move = some m →
    m.task = none → m.homeSeen = true → x.cnu.groups.find? (fun h => h.release = .failed) = some g →
    x.fct.pendingRelease = none → x.NamesFresh →
    ∃ y : Station, exec .inPos ⟨x, q⟩ = .next ⟨y, q⟩ ∧ y.stc.mode = .running
      ∧ y.fct.pendingRelease = some { order := g.order, count := g.tyres.length }
      ∧ y.cnu.groups.map Group.kept = x.cnu.groups.map (fun h => (h.order, h.returning, h.tyres,
          if h.order = g.order then .requested else if h.release = .failed then .held else h.release)))

/-! ### The face -/

/-- The extractor's phases (R133): APPROACH ends after the approach time; at the end of the engage minimum ENGAGE ends
with EXT_BUSY clear, is extended with it asserted, or meets EXTRACTOR_TIMEOUT where the extension maximum is 0; an
extended ENGAGE ends as EXT_BUSY clears, or in EXTRACTOR_TIMEOUT at the extension maximum, counted from the end of the
minimum; WITHDRAW follows in every case. A phase keeps its start tick (R132) to its end. Before its time no phase
ends: APPROACH, the minimum of ENGAGE, its extension and WITHDRAW go on, and an end of a phase that is not in flight
changes no phase (log entry 7). A cycle begins in APPROACH and in RUNNING alone, outside an acknowledged service hold
(section 11.4), for the task at the face at the carrier there (R134): before each cycle a TAKE needs the lane drive
IDLE, no release pending, HEAD_OCC clear, and May TAKE (R25); a STORE a tyre of its record at the infeed and May
STORE; a RETURN the lane drive IDLE, no release pending, HEAD_OCC asserted, and May STORE. A tyre at the head is
stowed before a TAKE, and presented before a RETURN where there is none; in every other case the task is handed back.
-/
def Obligations.ExtractorPhases : Prop :=
  (∀ (x : Station) (q : List Instr) (c : Cycle), x.live → x.fct.cycle = some c →
    let run := (x.tick - c.started).toNat
    let goes := fun (i : Instr) (busy : Bool) (d : Cycle) =>
      let u := { x with fct := { x.fct with cycle := some d }, pins := { x.pins with extBusy := busy } }
      exec i ⟨x, q⟩ = .next ⟨u.settle x, q⟩ ∧ (u.settle x).view = u.view
    (c.phase = .approach → x.cfg.approach ≤ run →
        goes .approachEnd x.pins.extBusy { c with phase := .engage, started := x.tick })
      ∧ (c.phase ≠ .approach ∨ run < x.cfg.approach → goes .approachEnd x.pins.extBusy c)
      ∧ (c.phase = .engage → c.extended = false → x.cfg.engageMin ≤ run →
        goes (.engageMinimumEnd false) false { c with phase := .withdraw, started := x.tick }
          ∧ (x.cfg.extensionMax ≠ 0 → goes (.engageMinimumEnd true) true { c with extended := true })
          ∧ (x.cfg.extensionMax = 0 →
            goes (.engageMinimumEnd true) true { c with phase := .withdraw, timedOut := true, started := x.tick }))
      ∧ (c.phase ≠ .engage ∨ c.extended = true ∨ run < x.cfg.engageMin →
        ∀ busy, goes (.engageMinimumEnd busy) busy c)
      ∧ (c.phase = .engage → c.extended = true →
        goes .extBusyClear false { c with phase := .withdraw, started := x.tick }
          ∧ (x.cfg.engageMin + x.cfg.extensionMax ≤ run →
            goes .extensionMaximumExpiry x.pins.extBusy { c with phase := .withdraw, timedOut := true, started := x.tick }))
      ∧ (c.phase ≠ .engage ∨ c.extended = false ∨ run < x.cfg.engageMin + x.cfg.extensionMax →
        goes .extensionMaximumExpiry x.pins.extBusy c)
      ∧ (c.phase ≠ .engage ∨ c.extended = false → goes .extBusyClear false c)
      ∧ (c.phase ≠ .withdraw ∨ run < x.cfg.withdrawTime → ∀ occ,
        let u := { x with pins := { x.pins with infeedOcc := occ } }
        exec (.cycleEnd occ) ⟨x, q⟩ = .next ⟨u.settle x, q⟩ ∧ (u.settle x).view = u.view))
    ∧ (∀ (c : Instr) (x y : Station) (q : List Instr) (d : Cycle), exec c ⟨x, q⟩ = .next ⟨y, q⟩ →
    y.fct.cycle = some d → x.fct.cycle ≠ some d → (d.phase = .approach ∨ x.fct.cycle = none) →
    let free := y.fct.lane = .idle ∧ y.fct.pendingRelease = none
    d.phase = .approach ∧ d.started = y.tick ∧ d.extended = false ∧ d.timedOut = false ∧ y.stc.mode = .running
      ∧ y.pins.svcAck = false
      ∧ ∃ t k, y.faceTask? = some t ∧ t.removed = false ∧ y.smap.carriers[d.carrier]? = some k
        ∧ k.locks.unverified = false ∧ k.locks.quarantine = false ∧ k.locks.held = false
        ∧ match t.job with
          | .pickStop stop => d.kind = .take ∧ d.bay = stop.bay ∧ d.carrier = y.mpl.p.getD stop.carrier ∧ stop.qty ≠ 0
            ∧ free ∧ y.pins.headOcc = false
          | .load serial a => d.kind = .store ∧ d.bay = a.bay ∧ d.carrier = y.mpl.p.getD a.carrier
            ∧ y.fct.infeed = .ofRecord serial ∧ k.locks.retired = false
          | .putback _ _ => d.kind = .ret ∧ free ∧ y.pins.headOcc = true ∧ k.locks.retired = false
          | .scan _ _ => False)
    ∧ ∀ (x : Station) (t : Task), t.removed = false →
    let may := x.stc.mode = .running ∧ x.pins.svcAck = false
    let free := x.fct.lane = .idle ∧ x.fct.pendingRelease = none
    let gives := fun (kind : CycleKind) (a : BayAddr) (unitMass pitch : Nat) => { x with
      fct := { x.fct with
        stage := .cycle
        cycle := some {
          kind := kind, carrier := x.mpl.p.getD a.carrier, bay := a.bay, phase := .approach, started := x.tick
          extended := false, timedOut := false, unitMass := unitMass, pitch := pitch } }
      pins := { x.pins with extractor := some (kind, a.bay) } }
    let back := { x with fct := { x.fct with task := none, stage := .check } }
    let lane := fun (l : Lane) (stage : Stage) (forward : Bool) => { x with
      fct := { x.fct with lane := l, laneStarted := x.tick, stage := stage }
      pins := { x.pins with laneForward := forward, laneReverse := !forward, laneGate := false } }
    (∀ stop, t.job = .pickStop stop → stop.qty ≠ 0 →
        let mayTake := x.mayTake (x.mpl.p.getD stop.carrier)
        (may → free → x.pins.headOcc = false → mayTake = true → ∃ m p,
            x.faceCheck t = gives .take { carrier := stop.carrier, bay := stop.bay } m p
              ∧ ∀ b w a, x.bay? { carrier := stop.carrier, bay := stop.bay } = some b → b.binding = some w →
                x.smap.article? w.article = some a → m = a.unitMass ∧ p = a.pitch)
          ∧ (¬ may ∨ ¬ free ∨ (x.pins.headOcc = false ∧ mayTake = false)
              ∨ (x.pins.headOcc = true ∧ x.fct.laneFault = true) → x.faceCheck t = back)
          ∧ (may → free → x.pins.headOcc = true → x.fct.laneFault = false → x.faceCheck t = lane .stowing .stray false))
      ∧ (∀ serial a, t.job = .load serial a →
        let go := may ∧ x.fct.infeed = .ofRecord serial ∧ x.mayStore (x.mpl.p.getD a.carrier) = true
        (go → x.faceCheck t = gives .store a 0 0) ∧ (¬ go → x.faceCheck t = back))
      ∧ (∀ order a, t.job = .putback order (some a) →
        let mayStore := x.mayStore (x.mpl.p.getD a.carrier)
        (may → free → x.pins.headOcc = true → mayStore = true → x.faceCheck t = gives .ret a 0 0)
          ∧ (¬ may ∨ ¬ free ∨ (x.pins.headOcc = true ∧ mayStore = false)
              ∨ (x.pins.headOcc = false ∧ x.fct.laneFault = true) → x.faceCheck t = back)
          ∧ (may → free → x.pins.headOcc = false → x.fct.laneFault = false →
            x.faceCheck t = lane .presenting .presenting true))
      ∧ ∀ c, (x.mayTake c = true ↔ ∃ k, x.smap.carriers[c]? = some k ∧ k.locks.unverified = false
            ∧ k.locks.audit = false ∧ k.locks.touched = false ∧ k.locks.quarantine = false ∧ k.locks.held = false)
          ∧ (x.mayStore c = true ↔ ∃ k, x.smap.carriers[c]? = some k ∧ k.locks = LockSet.empty)

/-- CYCLE_END of a successful TAKE (R136, R14, R108, R154, R144): the bay's count and reserved fall by 1, each to no
less than 0; the tyre is the last of its order's group, which is made at the tail if the order has none, RETURNING
where the order is not OPEN or the record has been turned RETURNING; it names its record if the Claim Unit still holds
it, and has the unit mass and pitch of the article table or those that the cycle holds. The entry's quantity falls by 1
and tyres staged rises by 1; a WON or PICKING record becomes STAGED with the tyre that completes its quantity and
PICKING otherwise; a release of the group that is pending and has not begun counts one tyre more; every other record
and group stays; the timeout mark is cleared. -/
def Obligations.TakeCycleEnds : Prop :=
  ∀ (occ : Bool) (x : Station) (q : List Instr) (c : Cycle) (t : Task) (stop : PickStop),
    x.live → x.fct.cycle = some c → c.phase = .withdraw → x.cfg.withdrawTime ≤ (x.tick - c.started).toNat →
    c.timedOut = false → x.faceTask? = some t → t.job = .pickStop stop →
    ∃ y, exec (.cycleEnd occ) ⟨x, q⟩ = .next ⟨y, q⟩
      ∧ y.view = { x.view with
          pins := { x.view.pins with infeedOcc := occ }, timeoutMark := false, stock := y.view.stock
          groups := y.view.groups, records := y.view.records
          pendingRelease := x.fct.pendingRelease.map (fun (r : Release) =>
            if r.order = stop.order ∧ (x.group? stop.order).isSome = true ∧ x.fct.lane ≠ .releasing then
              { r with count := r.count + 1 }
            else r) }
      ∧ (∀ k b, x.smap.carriers[stop.carrier]? = some k → k.bays[stop.bay]? = some b →
          ∃ k' b', y.smap.carriers[stop.carrier]? = some k' ∧ k'.bays[stop.bay]? = some b'
            ∧ b'.count = b.count - 1 ∧ b'.reserved = b.reserved - 1)
      ∧ (∀ d, d ≠ stop.carrier → (y.smap.carriers[d]?).map Carrier.stock = (x.smap.carriers[d]?).map Carrier.stock)
      ∧ (∃ g ∈ y.cnu.groups, ∃ tyre, g.order = stop.order
          ∧ g.tyres = ((x.group? stop.order).map (fun g => g.tyres)).getD [] ++ [tyre]
          ∧ tyre.article = stop.article ∧ tyre.week = stop.week
          ∧ tyre.origin = { carrier := stop.carrier, bay := stop.bay }
          ∧ tyre.serial = (if (x.record? stop.serial).isSome then some stop.serial else none)
          ∧ ((∃ e, x.smap.article? stop.article = some e ∧ tyre.unitMass = e.unitMass ∧ tyre.pitch = e.pitch)
            ∨ (tyre.unitMass = c.unitMass ∧ tyre.pitch = c.pitch))
          ∧ (x.NamesFresh → y.cnu.groups.map Group.kept =
              if (x.group? stop.order).isSome then
                x.cnu.groups.map (fun h => if h.order = stop.order then (h.order, h.returning, h.tyres ++ [tyre], h.release)
                  else h.kept)
              else x.cnu.groups.map Group.kept ++ [(stop.order,
                !x.orderIn stop.order .opened || (x.pick? stop.serial).any (fun b => b.state = .returning), [tyre], .clear)]))
      ∧ (x.NamesFresh → y.clu.records.map LineRec.core = x.clu.records.map (fun r => (r.serial, r.round, r.article, r.qty,
          match r.body with
          | .pick b =>
            if r.serial = stop.serial ∧ (b.state = .won ∨ b.state = .picking) then
              (r.serial, if b.staged + 1 = r.qty then 3 else 2, 0)
            else r.reported
          | .putaway _ => r.reported)))
      ∧ ∀ r b, x.record? stop.serial = some r → r.body = .pick b →
          (∃ b', y.pick? stop.serial = some b' ∧ b'.staged = b.staged + 1
            ∧ b'.sel.map (fun e => (e.addr, e.week, e.qty)) = b.sel.map (fun e =>
              (e.addr, e.week, if e.carrier = stop.carrier ∧ e.bay = stop.bay then e.qty - 1 else e.qty)))
          ∧ (b.state = .won ∨ b.state = .picking →
            ∃ r' ∈ y.clu.records, r'.serial = r.serial
              ∧ r'.pickOf b.order [if b.staged + 1 = r.qty then .staged else .picking] = true)

/-- CYCLE_END of a successful STORE (R141, R15, R110) and of a successful RETURN (R146, R15, R166): the bay's count
rises by 1 where incoming was 1 or more; a stored tyre leaves the infeed, where an occupancy sensor still asserted
makes the next tyre SURPLUS, and a record whose last tyre it was is removed; a returned tyre is no longer the front of
its group, which goes with its last tyre, as its record does with the last tyre of its own; every other record, order
entry and group stays; the timeout mark is cleared. -/
def Obligations.StoreAndReturnCyclesEnd : Prop :=
  ∀ (occ : Bool) (x : Station) (q : List Instr) (c : Cycle) (t : Task) (a : BayAddr) (k : Carrier) (b : Bay),
    x.live → x.fct.cycle = some c → c.phase = .withdraw → x.cfg.withdrawTime ≤ (x.tick - c.started).toNat →
    c.timedOut = false → x.faceTask? = some t →
    x.smap.carriers[a.carrier]? = some k → k.bays[a.bay]? = some b → 1 ≤ b.incoming →
    let counted := fun y : Station =>
      y.view = { x.view.dropping y.view with
          pins := { x.view.pins with infeedOcc := occ }, timeoutMark := false, groups := y.view.groups }
      ∧ (∃ k' b', y.smap.carriers[a.carrier]? = some k' ∧ k'.bays[a.bay]? = some b' ∧ b'.count = b.count + 1)
      ∧ (∀ d, d ≠ a.carrier → (y.smap.carriers[d]?).map Carrier.holdings = (x.smap.carriers[d]?).map Carrier.holdings)
    (∀ serial, t.job = .load serial a →
        ∃ y, exec (.cycleEnd occ) ⟨x, q⟩ = .next ⟨y, q⟩ ∧ counted y
          ∧ (∀ d, d ≠ a.carrier → (y.smap.carriers[d]?).map Carrier.stock = (x.smap.carriers[d]?).map Carrier.stock)
          ∧ y.fct.infeed = (if occ then .surplus else .none)
          ∧ y.view.groups = x.view.groups ∧ y.cnu.orders.map OrderEntry.kept = x.cnu.orders.map OrderEntry.kept
          ∧ ∀ r p, x.record? serial = some r → r.body = .putaway p →
              (r.qty ≤ p.stored + 1 → ∀ o ∈ y.clu.records, o.serial ≠ serial)
                ∧ (x.NamesFresh → y.clu.records.map LineRec.core = (x.clu.records.filter (fun o =>
                    !(o.serial = serial && decide (r.qty ≤ p.stored + 1)))).map LineRec.core))
      ∧ ∀ order, t.job = .putback order (some a) →
        ∃ y, exec (.cycleEnd occ) ⟨x, q⟩ = .next ⟨y, q⟩ ∧ counted y
          ∧ ∀ g rest tyre, x.group? order = some g → g.tyres = tyre :: rest → x.NamesFresh →
              (∀ n r p, tyre.serial = some n → x.record? n = some r → r.body = .pick p → p.state ≠ .won) →
              (∀ n r, tyre.serial = some n → x.record? n = some r → ∃ p, r.body = .pick p) →
              y.fct.infeed = x.fct.infeed
              ∧ y.cnu.groups.map Group.kept = (x.cnu.groups.filter (fun h => h.order ≠ order || !rest.isEmpty)).map (fun h =>
                (h.order, h.returning, if h.order = order then rest else h.tyres, h.release))
              ∧ y.cnu.orders.map OrderEntry.kept = x.cnu.orders.map OrderEntry.kept
              ∧ y.clu.records.map LineRec.core = (x.clu.records.filter (fun o =>
                  tyre.serial ≠ some o.serial || rest.any (fun z => z.serial = some o.serial))).map LineRec.core

/-- CYCLE_END of a cycle that met EXTRACTOR_TIMEOUT (R135, R32): the carrier at the face gets QUARANTINE, its fault
count rises by 1 if it is below 3, and RETIRED is set at 3; no carrier's counts change, and every order entry, group
and record stays, but for the TENTATIVE ones where the fault halts the station; the first timeout sets the timeout
mark, and the second in a row clears it and halts a station in RUNNING or SERVICE, with FAULT driven. The task leaves
the list. An aborted PICK_STOP is settled (R138): the quantity of its record's entry is 0, its reservation released,
and its order is reported as stock lost: an OPEN entry with no abandon in hand has its ABN(STOCK_LOST) posted or owed,
or, where the fault halts the station, an abandon in hand. After a STORE (R141, R142) a sensor still asserted keeps the
infeed tyre; a clear one makes it none and withdraws its record's arrival; one tyre is unexpected where the record has
ended. After a RETURN (R146, R166) one tyre is unexpected for the destination, the putback mark is cleared with the
group as it was, and the putback of a RETURNING head group starts again. -/
def Obligations.TimedOutCycleEnds : Prop :=
  ∀ (occ : Bool) (x : Station) (q : List Instr) (c : Cycle) (t : Task) (k : Carrier),
    x.live → x.fct.cycle = some c → c.phase = .withdraw → x.cfg.withdrawTime ≤ (x.tick - c.started).toNat →
    c.timedOut = true → x.faceTask? = some t →
    ((∃ stop, t.job = .pickStop stop) ∨ (∃ serial a, t.job = .load serial a) ∨ ∃ order a, t.job = .putback order (some a)) →
    x.smap.carriers[c.carrier]? = some k →
    let halts := x.fct.timeoutMark && decide (x.stc.mode = .running ∨ x.stc.mode = .service)
    let emptied := !occ && (match t.job with
      | .load _ _ => true
      | .pickStop _ | .putback _ _ | .scan _ _ => false)
    let u := ({ x with pins := { x.pins with infeedOcc := occ } } : Station).withdrawEnded
    let y := u.settle x
    exec (.cycleEnd occ) ⟨x, q⟩ = .next ⟨y, q⟩
      ∧ y.view = { x.view.dropping y.view with
          stc := y.view.stc, pins := { x.view.pins with infeedOcc := occ, fault := y.pins.fault }
          timeoutMark := !x.fct.timeoutMark }
      ∧ (∃ k', y.smap.carriers[c.carrier]? = some k' ∧ k'.locks.quarantine = true
          ∧ k'.faults = (if k.faults < 3 then k.faults + 1 else k.faults)
          ∧ k'.locks.retired = (k.locks.retired || decide (k.faults = 2 ∨ k.faults = 3)) ∧ k'.locks.held = k.locks.held
          ∧ k'.bays.map (fun b => b.count) = k.bays.map (fun b => b.count))
      ∧ (∀ d, d ≠ c.carrier → (y.smap.carriers[d]?).map Carrier.holdings = (x.smap.carriers[d]?).map Carrier.holdings)
      ∧ (halts = false → ∀ d, d ≠ c.carrier → (∀ stop, t.job = .pickStop stop → d ≠ stop.carrier) →
          (y.smap.carriers[d]?).map Carrier.stock = (x.smap.carriers[d]?).map Carrier.stock)
      ∧ y.fct.timeoutMark = !x.fct.timeoutMark
      ∧ (halts = true → y.stc.mode = .halted ∧ y.pins.fault = true)
      ∧ (halts = false → y.stc.mode = x.stc.mode ∧ y.pins.fault = x.pins.fault)
      ∧ ((∀ r ∈ x.clu.records, r.tentative = true → x.fct.infeed ≠ .ofRecord r.serial) →
          y.fct.infeed = if emptied then .none else x.fct.infeed)
      ∧ (x.NamesFresh → y.cnu.orders.map OrderEntry.kept = x.cnu.orders.map OrderEntry.kept
        ∧ y.clu.records.map LineRec.core = (x.clu.records.filter (fun r => !(halts && r.tentative))).map (fun r =>
            (r.serial, r.round, r.article, r.qty,
              if emptied = true ∧ x.fct.infeed = .ofRecord r.serial then
                (r.reported.1, r.reported.2.1, r.reported.2.2 - 1)
              else r.reported)))
      ∧ (halts = false ∨ (∀ r ∈ x.clu.records, r.tentative = false) →
          (∀ serial a z, t.job = .load serial a → x.bay? a = some z →
            ∃ z', u.bay? a = some z' ∧ z'.count = z.count ∧ z'.reserved = z.reserved
              ∧ z'.incoming = z.incoming - if (x.put? serial).isSome then 0 else 1)
          ∧ ∀ order a, t.job = .putback order (some a) →
            (∀ z, x.bay? a = some z → ∃ z', u.bay? a = some z' ∧ z'.count = z.count ∧ z'.reserved = z.reserved
              ∧ z'.incoming = z.incoming - 1)
            ∧ ∀ g, x.group? order = some g → (∃ g', u.group? order = some g' ∧ g'.kept = g.kept ∧ g'.putbackMark = false)
              ∧ (x.cnu.groups.head? = some g → g.returning = true → g.release = .clear → g.tyres ≠ [] →
                ∃ h, y.cnu.groups.head? = some h ∧ h.kept = g.kept ∧ (h.putbackMark = true ∨ h.putbackWanted = true)))
      ∧ (x.NamesFresh → (∀ o ∈ y.mpl.tasks, o.id ≠ t.id) ∧ ∀ stop r b, t.job = .pickStop stop →
          x.record? stop.serial = some r → r.body = .pick b → b.state ≠ .tentative →
          (∃ b', y.pick? stop.serial = some b' ∧ b'.state = b.state
            ∧ b'.sel.map (fun e => (e.addr, e.week, e.qty)) = b.sel.map (fun e =>
              (e.addr, e.week, if e.carrier = stop.carrier ∧ e.bay = stop.bay then 0 else e.qty)))
          ∧ (x.fct.timeoutMark = false → ∀ z, x.bay? { carrier := stop.carrier, bay := stop.bay } = some z →
            ∃ z', y.bay? { carrier := stop.carrier, bay := stop.bay } = some z'
              ∧ z'.reserved = z.reserved - askedOf b.sel { carrier := stop.carrier, bay := stop.bay })
          ∧ ∀ e, x.order? b.order = some e → e.state = .opened → e.abandon = none → e.abandonOwed = none →
            (x.fct.timeoutMark = false → y.abnRaised b.order .stockLost)
              ∧ ∃ e', y.order? b.order = some e' ∧ (e'.abandon ≠ none ∨ e'.abandonOwed ≠ none))

/-- HEAD_OCC_CLEAR ends a STOW and HEAD_OCC_ASSERTED a PRESENT (R143): the lane drive returns to IDLE with the rollers
stopped and the gate shut; in any other lane drive state they give the level alone. LANE_EXIT_PULSE (R144, R160):
during a release the exit count rises by 1; when it reaches the group's tyre count the release is complete: the group
and the order's pick records are gone, an entry in RELEASING is CLOSED, no release is pending, every other group,
record and entry stays; outside a release the pulse has no effect. -/
def Obligations.LaneSensorsEndCommands : Prop :=
  (∀ (x : Station) (q : List Instr), x.live →
    ∀ w : Instr × Bool × Lane, w ∈ [(.headOccClear, false, .stowing), (.headOccAsserted, true, .presenting)] →
      (x.fct.lane = w.2.2 →
          let u := { x with
            fct := { x.fct with lane := .idle }
            pins := { x.pins with headOcc := w.2.1, laneForward := false, laneReverse := false, laneGate := false } }
          exec w.1 ⟨x, q⟩ = .next ⟨u.settle x, q⟩ ∧ (u.settle x).view = u.view)
        ∧ (x.fct.lane ≠ w.2.2 →
          let u := { x with pins := { x.pins with headOcc := w.2.1 } }
          exec w.1 ⟨x, q⟩ = .next ⟨u.settle x, q⟩ ∧ (u.settle x).view = u.view))
    ∧ (∀ (x : Station) (q : List Instr), x.live →
    (x.fct.lane ≠ .releasing → exec .laneExitPulse ⟨x, q⟩ = .next ⟨x.settle x, q⟩ ∧ (x.settle x).view = x.view)
      ∧ ∀ r, x.fct.lane = .releasing → x.fct.pendingRelease = some r →
        (x.fct.exitCount + 1 < r.count →
            let u := { x with fct := { x.fct with exitCount := x.fct.exitCount + 1 } }
            exec .laneExitPulse ⟨x, q⟩ = .next ⟨u.settle x, q⟩ ∧ (u.settle x).view = u.view)
          ∧ (r.count ≤ x.fct.exitCount + 1 → (∀ g ∈ x.cnu.groups, g.release ≠ .held) →
            ∃ y, exec .laneExitPulse ⟨x, q⟩ = .next ⟨y, q⟩
              ∧ y.view = { x.view.dropping y.view with
                  groups := (x.cnu.groups.filter (fun g => g.order ≠ r.order)).map Group.kept
                  pendingRelease := none }
              ∧ y.smap.carriers.map Carrier.holdings = x.smap.carriers.map Carrier.holdings
              ∧ y.cnu.orders.map (fun o => (o.order, o.state, o.ready)) = x.cnu.orders.map (fun o =>
                  (o.order, if o.order = r.order ∧ o.state = .releasing then .closed else o.state, o.ready))
              ∧ (x.NamesFresh → y.view.infeed = x.view.infeed
                ∧ y.clu.records.map LineRec.core = (x.clu.records.filter (fun k =>
                  !k.pickOf r.order [.tentative, .won, .picking, .staged, .returning])).map LineRec.core
                ∧ (y.cnu.orders.filter (fun o => o.order ≠ r.order)).map OrderEntry.kept =
                  (x.cnu.orders.filter (fun o => o.order ≠ r.order)).map OrderEntry.kept)))

/-- LANE_TIMER_EXPIRY (R143, R144, R160): the lane drive is IDLE, the rollers stopped and the gate shut, the lane
fault mark set and RELEASE_TIMEOUT recorded; a station in RUNNING or SERVICE is HALTED with FAULT driven, in HALTED
the fault is recorded alone. A release that was running has failed: the tyres that left are gone from its group, which
keeps its release flag, and no release is pending. That an IDLE lane drive has no expiry, nor one whose time has not
run out, is the model's choice, log entries 3 and 7. -/
def Obligations.LaneTimerHalts : Prop :=
  ∀ (x : Station) (q : List Instr), x.live →
    let due := x.cfg.releaseTimeout * 1000 ≤ (x.tick - x.fct.laneStarted).toNat
    (x.fct.lane ≠ .idle → due → x.stc.mode ≠ .starting → x.stc.start = .done →
        (∀ r ∈ x.clu.records, r.tentative = true → x.fct.infeed ≠ .ofRecord r.serial) →
        ∃ u : Station, exec .laneTimerExpiry ⟨x, q⟩ = .next ⟨u.settle x, q⟩ ∧ u.stc.lastFault = some .releaseTimeout
          ∧ let y := u.settle x
          y.stc.mode = .halted ∧ y.fct.lane = .idle
          ∧ y.pins.laneForward = false ∧ y.pins.laneReverse = false ∧ y.pins.laneGate = false
          ∧ y.view = { x.view.dropping y.view with
              stc := y.view.stc, pins := { x.view.pins with fault := if x.stc.mode = .halted then x.pins.fault else true }
              laneFault := true, groups := y.view.groups, pendingRelease := y.view.pendingRelease }
          ∧ (x.stc.mode = .halted → y.view.stc = x.view.stc
              ∧ y.clu.records.map LineRec.core = x.clu.records.map LineRec.core)
          ∧ (x.fct.lane ≠ .releasing →
              y.view.groups = x.view.groups ∧ y.fct.pendingRelease = x.fct.pendingRelease)
          ∧ ∀ r, x.fct.lane = .releasing → x.fct.pendingRelease = some r → (∀ h ∈ x.cnu.groups, h.release ≠ .held) →
              y.fct.pendingRelease = none
                ∧ y.cnu.groups.map Group.kept = x.cnu.groups.map (fun h =>
                  if h.order = r.order then (h.order, h.returning, h.tyres.drop x.fct.exitCount, .failed) else h.kept))
      ∧ (x.fct.lane = .idle ∨ ¬ due →
        exec .laneTimerExpiry ⟨x, q⟩ = .next ⟨x.settle x, q⟩ ∧ (x.settle x).view = x.view)

/-- INFEED_ARRIVAL (R139, R109) and INFEED_OCC_FALL (R140): with no tyre at the infeed an arrival is a tyre of the
oldest putaway record in WON or LOADING with arrivals outstanding, whose arrived rises by 1, with the tick as its last
arrival, and which is LOADING, or SURPLUS where there is none; with one already there it is SURPLUS, with
INFEED_SURPLUS reported; a fall while no STORE cycle is in flight leaves no tyre, and takes an arrival of a record
back; during a STORE cycle it takes the level alone (R141 decides at its end). That an arrival asserts the occupancy
level is the model's choice, log entry 4. -/
def Obligations.InfeedCounts : Prop :=
  ∀ (x : Station) (q : List Instr), x.live →
    (∀ r b, x.fct.infeed = .none → x.arrivalRecord = some (r, b) →
        ∃ y, exec .infeedArrival ⟨x, q⟩ = .next ⟨y, q⟩
          ∧ y.view = { x.view with
              infeed := .ofRecord r.serial, pins := { x.view.pins with infeedOcc := true }, records := y.view.records }
          ∧ (b.state = .won ∨ b.state = .loading) ∧ b.arrived < r.qty
          ∧ (∃ before after, x.clu.records = before ++ r :: after ∧ r.body = .putaway b ∧ ∀ o ∈ before, ∀ p,
              o.body = .putaway p → (p.state = .won ∨ p.state = .loading) → o.qty ≤ p.arrived)
          ∧ (∃ r' ∈ y.clu.records, r'.serial = r.serial
              ∧ ∃ b', r'.body = .putaway b' ∧ b'.arrived = b.arrived + 1 ∧ b'.state = .loading ∧ b'.lastArrival = x.tick)
          ∧ (x.NamesFresh → y.view.records = x.clu.records.map (fun o =>
              if o.serial = r.serial then { o.kept with reported := (o.serial, 2, b.arrived + 1) } else o.kept)))
      ∧ (x.fct.infeed ≠ .none ∨ x.arrivalRecord = none →
        let u := { x with fct := { x.fct with infeed := .surplus }, pins := { x.pins with infeedOcc := true } }
        exec .infeedArrival ⟨x, q⟩ = .next ⟨(u.nonHaltingFault .infeedSurplus).settle x, q⟩
          ∧ ((u.nonHaltingFault .infeedSurplus).settle x).view = u.view
          ∧ (u.nonHaltingFault .infeedSurplus).stc.lastFault = some .infeedSurplus)
      ∧ (x.fct.storing = false →
        ∃ y, exec .infeedOccFall ⟨x, q⟩ = .next ⟨y, q⟩
          ∧ y.view = { x.view with
              infeed := .none, pins := { x.view.pins with infeedOcc := false }, records := y.view.records }
          ∧ (∀ n b, x.fct.infeed = .ofRecord n → x.put? n = some b →
              ∃ b', y.put? n = some b' ∧ b'.arrived = b.arrived - 1)
          ∧ (x.fct.infeed = .none ∨ x.fct.infeed = .surplus → y.view.records = x.view.records))
      ∧ (x.fct.storing = true →
        let u := { x with pins := { x.pins with infeedOcc := false } }
        exec .infeedOccFall ⟨x, q⟩ = .next ⟨u.settle x, q⟩ ∧ (u.settle x).view = u.view)

/-- GAUGE_ANSWER and GAUGE_READ_TIMEOUT (R147, R148): a reading that has waited 1000 ms ends with the height 4095,
before that it goes on (the model's choice, log entry 7). A scan's answer is graded, its grade applied and its result
kept; the READ of the next bay follows, or after the last the completion (R178, R30) and the end of the task: the ARP
of its results posted or owed (R180); with no first UNSURE UNVERIFIED and AUDIT go, TOUCHED too unless it was set in
the scan, else they stay and a rescan is wanted. After a HOME_MISMATCH halt the answer is discarded. A touch audit
(R179) reports nothing for CLEAN and ADJUSTED, and otherwise the read bay, every other bay with grade none; a first
UNSURE wants a rescan as TOUCHED. -/
def Obligations.GaugeReadings : Prop :=
  (∀ (x : Station) (q : List Instr) (g : Reading), x.live → x.fct.gauge = some g →
    let a : BayAddr := { carrier := g.carrier, bay := g.bay }
    let idle := { x with fct := { x.fct with gauge := none } }
    (1000 ≤ (x.tick - g.started).toNat →
        exec .gaugeReadTimeout ⟨x, q⟩ = exec (.gaugeAnswer 4095) ⟨x, q⟩)
      ∧ ((x.tick - g.started).toNat < 1000 →
        exec .gaugeReadTimeout ⟨x, q⟩ = .next ⟨x.settle x, q⟩ ∧ (x.settle x).view = x.view)
      ∧ ∀ h : BitVec 12,
        (∀ p, g.purpose = some p → g.discard = false → g.bay + 1 < x.cfg.b →
            let u := idle.scanReading a h.toNat
            let v := { u with
              fct := { u.fct with
                stage := .reading
                gauge := some {
                  carrier := g.carrier, bay := g.bay + 1, purpose := some p, started := x.tick, discard := false } }
              pins := { u.pins with gauge := some (g.bay + 1) } }
            exec (.gaugeAnswer h) ⟨x, q⟩ = .next ⟨v.settle x, q⟩ ∧ (v.settle x).view = v.view)
          ∧ (∀ p id, g.purpose = some p → g.discard = false → x.cfg.b ≤ g.bay + 1 → x.fct.task = some id →
            let u := (idle.scanReading a h.toNat).scanComplete g.carrier p
            let v := { u with
              fct := { u.fct with task := none, stage := .check }
              mpl := { u.mpl with tasks := u.mpl.tasks.filter (fun t => t.id ≠ id) } }
            exec (.gaugeAnswer h) ⟨x, q⟩ = .next ⟨v.settle x, q⟩ ∧ (v.settle x).view = v.view)
          ∧ (g.purpose = none →
            exec (.gaugeAnswer h) ⟨x, q⟩ = .next ⟨(idle.touchAudit a h.toNat).settle x, q⟩)
          ∧ (∀ p, g.purpose = some p → g.discard = true →
            ∃ y, exec (.gaugeAnswer h) ⟨x, q⟩ = .next ⟨y, q⟩ ∧ y.view = x.view))
    ∧ (∀ (s : Station) (a : BayAddr) (h : Nat) (b : Bay), s.bay? a = some b →
      let g := s.grade b h
      let y := s.scanReading a h
      y.smap = (s.applyGrade a g).smap ∧ y.adu.results = (s.applyGrade a g).adu.results ++ [g.result]
        ∧ y.adu.note = ((s.applyGrade a g).adu.note || g.firstUnsure))
    ∧ (∀ (s : Station) (r : Report), (s.adu.owedReports.map (fun o => o.carrier)).Nodup →
      let posts := s.bus.accepts .arp = true ∧ Kind.arp ∉ s.bus.owed
      let y := s.postReport r
      (posts → y = { s with bus := { s.bus with
          posts := s.bus.posts ++ [{ handle := s.bus.nextHandle, kind := .arp, key := BitVec.ofNat 20 s.cfg.station
                                     payload := arpPayload r, onBus := false }]
          nextHandle := s.bus.nextHandle + 1 } })
        ∧ (¬ posts → y = { s with
          bus := { s.bus with owed := y.bus.owed }
          adu := { s.adu with owedReports :=
            if ∃ o ∈ s.adu.owedReports, o.carrier = r.carrier
            then s.adu.owedReports.map (fun o => if o.carrier = r.carrier then r else o)
            else s.adu.owedReports ++ [r] } }))
    ∧ (∀ (s : Station) (c : Nat) (p : Purpose) (k : Carrier), s.smap.carriers[c]? = some k →
      let y := s.scanComplete c p
      let t := s.postReport { carrier := c, results := s.adu.results }
      y.bus = t.bus ∧ y.adu = { t.adu with note := false, touchedInScan := false, results := [] }
        ∧ y = { s with bus := t.bus, adu := y.adu, smap := y.smap }
        ∧ (∀ d, d ≠ c → y.smap.carriers[d]? = s.smap.carriers[d]?)
        ∧ ∃ k', y.smap.carriers[c]? = some k' ∧ k'.bays = k.bays ∧ k'.due = k.due
          ∧ (s.adu.note = true → k'.locks = k.locks ∧ k'.rescan = some p)
          ∧ (s.adu.note = false → k'.rescan = k.rescan ∧ k'.locks =
            { k.locks with unverified := false, audit := false, touched := k.locks.touched && s.adu.touchedInScan }))
    ∧ ∀ (s : Station) (a : BayAddr) (h : Nat) (k : Carrier) (b : Bay),
      s.smap.carriers[a.carrier]? = some k → k.bays[a.bay]? = some b →
      let g := s.grade b h
      let y := s.touchAudit a h
      let t := s.applyGrade a g
      let report : Report := {
        carrier := a.carrier
        results := k.bays.zipIdx.map (fun z =>
          if z.2 = a.bay then g.result else { grade := .none, recorded := z.1.count, measured := 0 }) }
      (g.result.grade = .clean ∨ g.result.grade = .adjusted → y = t)
        ∧ (g.result.grade = .discrepant ∨ (g.result.grade = .unsure ∧ b.unsureOnce = true) → y = t.postReport report)
        ∧ (g.result.grade = .unsure → b.unsureOnce = false →
          y = (t.updCarrier a.carrier (fun k => { k with rescan := some .touched })).postReport report)

/-- What a grade does (R176): a DISCREPANT reading, and an UNSURE one of a bay whose mark is set, set QUARANTINE on
the carrier and leave the count; a CLEAN one, and a first UNSURE, leave the locks and the count; an ADJUSTED one sets
the count to the measured count, where no more is reserved and it fits with the incoming; the last grade and the
unsure-once mark follow the grade. The cut of an ADJUST (R16, R113, R177), here with no cycle in flight: the TENTATIVE
and WON pick records that hold reservation on the bay go, newest first, until what they held there covers the excess
of reserved over the count, and no more of them; all they held on any bay is released; an OPEN order that loses a WON
one has an ABN in hand. Then the count is set: to the measured count, raised to the reserved that remains, lowered to
capB − incoming. -/
def Obligations.GradeEffects : Prop :=
  (∀ (x : Station) (a : BayAddr) (k : Carrier) (b : Bay) (h : Nat),
    x.smap.carriers[a.carrier]? = some k → k.bays[a.bay]? = some b →
    let g := x.grade b h
    let y := x.applyGrade a g
    (g.result.grade = .adjusted → b.reserved ≤ g.result.measured ∧ g.result.measured ≠ 0
        ∧ g.result.measured + b.incoming ≤ (x.bayCap b).getD 0) →
    y = { x with smap := y.smap } ∧ (∀ d, d ≠ a.carrier → y.smap.carriers[d]? = x.smap.carriers[d]?)
      ∧ ∃ k' b', y.smap.carriers[a.carrier]? = some k' ∧ k'.bays[a.bay]? = some b'
      ∧ b'.grade = g.result.grade ∧ b'.unsureOnce = decide (g.result.grade = .unsure)
      ∧ b'.count = (if g.result.grade = .adjusted then g.result.measured else b.count)
      ∧ b'.reserved = b.reserved ∧ b'.incoming = b.incoming ∧ b'.binding = b.binding
      ∧ k'.locks = (if g.result.grade = .discrepant ∨ (g.result.grade = .unsure ∧ b.unsureOnce = true)
          then { k.locks with quarantine := true } else k.locks))
    ∧ (∀ (x : Station) (a : BayAddr) (z : Bay) (target : Nat),
    x.NamesFresh → x.fct.cycle = none → x.bay? a = some z →
    (∀ r ∈ x.clu.records, ∀ b, r.body = .pick b → ∀ e ∈ b.sel, (x.bay? e.addr).isSome = true) →
    let y := x.cutTo a target
    let holds := fun (d : BayAddr) (r : LineRec) =>
      match r.body with
      | .pick b => askedOf b.sel d
      | .putaway _ => 0
    let cuttable := x.clu.records.reverse.filter (fun r =>
      match r.body with
      | .pick b => (b.state = .tentative || b.state = .won) && decide (0 < askedOf b.sel a)
      | .putaway _ => false)
    ∃ taken left, cuttable = taken ++ left
      ∧ (left = [] ∨ z.reserved - target ≤ (taken.map (holds a)).sum)
      ∧ (∀ pre r, taken = pre ++ [r] → (pre.map (holds a)).sum < z.reserved - target)
      ∧ y.clu.records.map LineRec.core =
          (x.clu.records.filter (fun r => !taken.any (fun t => t.serial = r.serial))).map LineRec.core
      ∧ (∀ d w, x.bay? d = some w → ∃ w', y.bay? d = some w' ∧ w'.count = w.count ∧ w'.incoming = w.incoming
          ∧ w'.reserved = w.reserved - (taken.map (holds d)).sum)
      ∧ ∀ r ∈ taken, ∀ b, r.body = .pick b → b.state = .won → ∀ e, x.order? b.order = some e → e.state = .opened →
          ∃ e', y.order? b.order = some e' ∧ (e'.abandon ≠ none ∨ e'.abandonOwed ≠ none) ∧ b.line ∉ e'.own)
    ∧ (∀ (x : Station) (a : BayAddr) (z : Bay) (target cap : Nat) (drop : Bool),
    x.bay? a = some z → x.bayCap z = some cap →
    let y := x.setCountAfterCut a target drop
    let raised := max target z.reserved
    y = { x with smap := y.smap } ∧ (∀ d, d.carrier ≠ a.carrier → y.bay? d = x.bay? d)
      ∧ ∃ z', y.bay? a = some z' ∧ z'.reserved = z.reserved ∧ z'.incoming = z.incoming
        ∧ z'.count = if raised + z.incoming ≤ cap then raised else cap - z.incoming)
    ∧ ∀ (x : Station) (a : BayAddr) (target : Nat),
    x.adjust a target = (x.cutTo a target).setCountAfterCut a target false

/-- SVC_REQ_RISE (R189, R112): in RUNNING the mode becomes SERVICE and the hold WAITING, or within the event ACKED
with SVC_ACK asserted, and every unsent claim that is still PENDING is withdrawn, its slot FREE, with its record,
unless expired; every other record and every order entry stays. In HALTED the mode stays and the hold begins alike;
with a hold already the level alone is taken. After every command a hold still WAITING has a face that is not free;
with the face free it is ACKED, SVC_ACK asserted, and the carrier at the face TOUCHED. SVC_REQ_FALL (R191): the hold
is NONE and SVC_ACK released, and a station in SERVICE is in RUNNING, where the planner decides at once (R130), before
the Audit Unit asks for its scans; a hold in RUNNING is cleared alike (the model's choice, log entry 37). -/
def Obligations.ServiceRequest : Prop :=
  let withdrawn := fun (x : Station) (r : LineRec) =>
    r.tentative && !r.bid.sent && !r.bid.expired && r.bid.claim.any x.bus.canWithdraw
  (∀ (x : Station) (q : List Instr), x.live →
    (x.stc.mode = .running → x.stc.hold = .none → x.pins.svcAck = false →
        ∃ y, exec .svcReqRise ⟨x, q⟩ = .next ⟨y, q⟩
          ∧ y.view = { x.view.dropping y.view with
              stc := { x.view.stc with mode := .service }, pins := { x.view.pins with svcReq := true } }
          ∧ (y.stc.hold = .waiting ∨ y.stc.hold = .acked) ∧ (y.pins.svcAck = true ↔ y.stc.hold = .acked)
          ∧ (x.NamesFresh → y.cnu.orders.map OrderEntry.kept = x.cnu.orders.map OrderEntry.kept
            ∧ (y.clu.records.map LineRec.core = (x.clu.records.filter (fun r => !withdrawn x r)).map LineRec.core)
            ∧ ∀ r ∈ x.clu.records, withdrawn x r = true → ∀ h, r.bid.claim = some h → y.bus.slotFree h)
          ∧ y.smap.carriers.map Carrier.holdings = x.smap.carriers.map Carrier.holdings)
      ∧ (x.stc.mode = .halted → x.stc.hold = .none → x.pins.svcAck = false →
        let u := { x with stc := { x.stc with hold := .waiting }, pins := { x.pins with svcReq := true } }
        let y := u.settle x
        exec .svcReqRise ⟨x, q⟩ = .next ⟨y, q⟩ ∧ y.view = u.view
          ∧ (y.stc.hold = .waiting ∨ y.stc.hold = .acked) ∧ (y.pins.svcAck = true ↔ y.stc.hold = .acked))
      ∧ (x.stc.hold ≠ .none →
        let u := { x with pins := { x.pins with svcReq := true } }
        exec .svcReqRise ⟨x, q⟩ = .next ⟨u.settle x, q⟩ ∧ (u.settle x).view = u.view)
      ∧ (x.stc.hold = .waiting → x.faceFree = true →
        x.acknowledge.stc.hold = .acked ∧ x.acknowledge.pins.svcAck = true
          ∧ ∀ p k, x.mpl.p = some p → x.smap.carriers[p]? = some k →
              x.acknowledge.smap.carriers[p]? = some { k with locks := { k.locks with touched := true } })
      ∧ (x.stc.hold ≠ .none →
        ∃ y, exec .svcReqFall ⟨x, q⟩ = .next ⟨y, q⟩ ∧ y.stc.hold = .none ∧ y.pins.svcAck = false
          ∧ y.view = Station.view { x with
              stc := { x.stc with mode := if x.stc.mode = .service then .running else x.stc.mode }
              pins := { x.pins with svcReq := false } })
      ∧ (x.stc.hold ≠ .none → x.stc.mode = .service →
        let u := { x with
          stc := { x.stc with mode := .running, hold := .none }
          pins := { x.pins with svcReq := false, svcAck := false } }
        exec .svcReqFall ⟨x, q⟩ = .next ⟨u.statusTrigger.decision.settle x, q⟩)
      ∧ (x.stc.hold = .none →
        let u := { x with pins := { x.pins with svcReq := false } }
        exec .svcReqFall ⟨x, q⟩ = .next ⟨u.settle x, q⟩ ∧ (u.settle x).view = u.view ∧ (u.settle x).stc.hold = .none))
    ∧ ∀ (c : Instr) (x y : Station) (q : List Instr), exec c ⟨x, q⟩ = .next ⟨y, q⟩ → y.live →
    y.stc.hold = .waiting → y.mpl.move ≠ none ∨ y.fct.cycle ≠ none ∨ y.fct.gauge ≠ none

/-! ### Arithmetic and choices -/

/-- R1, R42, R50, R3: the distances between the position and a carrier, the legality of a proposed imbalance, the
balance fraction and the stack capacity, with their ranges. -/
def Obligations.ClaimFigures : Prop :=
  (∀ n p c, 0 < n → p < n → c < n →
      (p + forwardDistance n p c) % n = c ∧ (c + backwardDistance n p c) % n = p
        ∧ travelDistance n p c = min (forwardDistance n p c) (backwardDistance n p c)
        ∧ 2 * travelDistance n p c ≤ n ∧ (travelDistance n p c = 0 ↔ c = p))
    ∧ (∀ (x : Station) (i : Nat), x.legal i = true ↔ i ≤ x.cfg.limit ∨ i ≤ x.smap.imbalance)
    ∧ (∀ i l, 0 < l → balanceFraction i l ≤ 255 ∧ (l ≤ i → balanceFraction i l = 255)
        ∧ (i < l → balanceFraction i l = i * 255 / l))
    ∧ ∀ h pitch, 0 < pitch → capB h pitch ≤ 15 ∧ capB h pitch * pitch ≤ h
        ∧ (capB h pitch < 15 → h < (capB h pitch + 1) * pitch)

/-- R40: the imbalance is the largest distance of twice a window sum from the total, over the windows of N/2 carriers,
the index taken modulo N; it is at most the total. -/
def Obligations.ImbalanceIsLargest : Prop :=
  ∀ ws : List Nat, ws ≠ [] → ws.length % 2 = 0 →
    let window := fun k : Nat => ((List.range (ws.length / 2)).map (fun j => ws.getD ((k + j) % ws.length) 0)).sum
    (∀ k, k < ws.length → ((2 * window k : Int) - ws.sum).natAbs ≤ imbalanceOf ws)
      ∧ (∃ k, k < ws.length ∧ ((2 * window k : Int) - ws.sum).natAbs = imbalanceOf ws)
      ∧ imbalanceOf ws ≤ ws.sum

/-- R43, R44, R45, R10: the pick selection is the one that the walk of R44 gives, and there is one exactly when it
gives one that is legal. Its entries are of bays bound to the article, with tyres available, on carriers that answer
yes to May TAKE; they stand in the order of week, travel distance, carrier and bay; no candidate that stands before
one of them is passed over; each but the last takes all that its bay has available, and the last no more; there are at
most 4, and their quantities sum to the offered quantity; the projection of the change is legal. Its RESERVE is
accepted. -/
def Obligations.PickSelectionCovers : Prop :=
  ∀ (x : Station) (article qty : Nat) (sel : List SelEntry), 1 ≤ qty →
    let candidate := fun (d : BayAddr) (week available : Nat) => ∃ k b, x.smap.carriers[d.carrier]? = some k
      ∧ k.bays[d.bay]? = some b ∧ b.binding = some { article := article, week := week } ∧ k.locks.mayTake = true
      ∧ available = b.count - b.reserved ∧ 1 ≤ available
    let before := fun (w v : Nat) (d e : BayAddr) =>
      w < v ∨ (w = v ∧ (x.travel d.carrier < x.travel e.carrier ∨ (x.travel d.carrier = x.travel e.carrier
        ∧ (d.carrier < e.carrier ∨ (d.carrier = e.carrier ∧ d.bay < e.bay)))))
    (x.pickSelection article qty = some sel ↔
      (∀ pre e post, sel = pre ++ e :: post → ∃ available, candidate e.addr e.week available
          ∧ 1 ≤ e.qty ∧ e.qty ≤ available ∧ (post ≠ [] → e.qty = available) ∧ e.taskMark = false)
        ∧ sel.Pairwise (fun d e => before d.week e.week d.addr e.addr)
        ∧ (∀ d week available, candidate d week available → (∀ e ∈ sel, e.addr ≠ d) →
            ∀ e ∈ sel, before e.week week e.addr d)
        ∧ (sel.map (fun e => e.qty)).sum = qty ∧ sel.length ≤ 4
        ∧ (x.projectPick sel (((x.smap.article? article).map (fun e => e.unitMass)).getD 0) ≤ x.cfg.limit
          ∨ x.projectPick sel (((x.smap.article? article).map (fun e => e.unitMass)).getD 0) ≤ x.smap.imbalance))
      ∧ (x.pickSelection article qty = some sel → (x.reserve article sel).1 = .accepted)

/-- R46, R48, with the travel figure of R47: the age of the first entry's week against the store week, held within
0..511; the least travel distance of the selection's carriers and the backlog; the cost with its weights, clamped; the
key with the station number in its low 6 bits, and the arbitration field of the claim that carries it. -/
def Obligations.PickKeyWeighsAgeAndTravel : Prop :=
  ∀ (x : Station) (e : SelEntry) (rest : List SelEntry),
    let sel := e :: rest
    let age := if x.stc.storeWeek ≤ e.week then 0 else if x.stc.storeWeek - e.week ≤ 511 then x.stc.storeWeek - e.week else 511
    let figure := min 255 (x.nearest sel + 8 * x.mpl.tasks.length)
    let cost := (511 - age) * x.cfg.ka + figure * x.cfg.kt
    (∃ s ∈ sel, x.nearest sel = x.travel s.carrier) ∧ (∀ s ∈ sel, x.nearest sel ≤ x.travel s.carrier)
      ∧ x.pickKey sel = min cost 16383 * 64 + x.cfg.station
      ∧ (x.cfg.ka ≤ 15 → x.cfg.kt ≤ 15 → cost ≤ 11490)
      ∧ (1 ≤ x.cfg.station → x.cfg.station ≤ 48 →
        1 ≤ x.pickKey sel ∧ x.pickKey sel ≤ 1048575 ∧ x.pickKey sel / 64 = min cost 16383
          ∧ x.pickKey sel % 64 = x.cfg.station
          ∧ ∀ (h : Nat) (p : List Byte) (o : Bool),
            Frame.arbitration (Post.frame
              { handle := h, kind := .clm, key := BitVec.ofNat 20 (x.pickKey sel), payload := p, onBus := o })
              = 4 * 2 ^ 20 + x.pickKey sel)

/-- R49, R50, R51: a bay is a candidate when its carrier answers yes to May STORE, its binding is absent, the offered
one, or that of the article with another week on an empty bay, the quantity fits, and its projection is legal; its
cost. The chosen bay is a candidate with the least cost, and of equal costs the first in carrier and then bay order;
there is none exactly when no bay is a candidate. -/
def Obligations.PutawayBayChosen : Prop :=
  (∀ (x : Station) (a : Article) (week qty : Nat) (addr : BayAddr) (b : Bay),
      let proposed := imbalanceOf (x.weights.modify addr.carrier (fun w => w + qty * a.unitMass))
      let candidate := x.mayStore addr.carrier = true
        ∧ (b.binding = none ∨ b.binding = some { article := a.code, week := week }
          ∨ ((∃ w, b.binding = some { article := a.code, week := w }) ∧ b.count = 0 ∧ b.reserved = 0 ∧ b.incoming = 0))
        ∧ b.count + b.incoming + qty ≤ min 15 (x.cfg.h / a.pitch)
        ∧ (proposed ≤ x.cfg.limit ∨ proposed ≤ x.smap.imbalance)
      (¬ candidate → x.putCand a week qty (addr, b) = none)
        ∧ (candidate → x.putCand a week qty (addr, b) = some {
            addr := addr
            cost := (if b.binding = none then 8192 else 0) + min 255 (proposed * 255 / x.cfg.limit) * x.cfg.kb
              + min 255 (x.travel addr.carrier + 8 * x.mpl.tasks.length) * x.cfg.kt }))
    ∧ (∀ (x : Station) (a : Article) (week qty : Nat),
    let cands := x.allBays.filterMap (x.putCand a week qty)
    (x.chosenBay a week qty = none ↔ cands = [])
      ∧ ∀ c, x.chosenBay a week qty = some c →
          ∃ before after, cands = before ++ c :: after ∧ (∀ d ∈ before, c.cost < d.cost) ∧ ∀ d ∈ after, c.cost ≤ d.cost)

/-- R174, R175: the estimate is the whole count whose height lies nearest, by the pitch and capB of a bound bay's
article, or the pitch 150 and the capacity 15 of an unbound bay; a reading is sure when it lies within three eighths
of a pitch of the estimate, which fits the bay, and the height is at most 2000 mm; the grade follows from the count as
it stands. The height 4095 of a reading without an answer is UNSURE. -/
def Obligations.ReadingGraded : Prop :=
  ∀ (x : Station) (b : Bay) (h : Nat),
    let g := (x.grade b h).result
    let graded := fun pitch capacity : Nat =>
      let n := (h + pitch / 2) / pitch
      let r := ((h : Int) - n * pitch).natAbs
      let unsure := 3 * pitch < 8 * r ∨ capacity < n ∨ 2000 < h
      g.measured = n ∧ g.recorded = b.count
        ∧ g.grade =
          if unsure then .unsure
          else if b.binding = none then (if n = 0 then .clean else .discrepant)
          else if n = b.count then .clean
          else if ((n : Int) - b.count).natAbs ≤ x.cfg.tau then .adjusted
          else .discrepant
    (b.binding = none → graded 150 15)
      ∧ (∀ w a, b.binding = some w → x.smap.article? w.article = some a → graded a.pitch (min 15 (x.cfg.h / a.pitch)))
      ∧ (x.grade b 4095).result.grade = .unsure

/-- R118, R119, R120: the decision chooses a ready task of the best class present, of those one with the least travel
distance, of those one that lies forward, and of those the oldest; none exactly when no task is ready. The class of a
task is 1 with a passed-over count of 6, else that of its kind. Readiness is given kind by kind (R119). Every ready
task that is not chosen is passed over once more, up to 6. A task is accepted while the list holds fewer than 24, a
SCAN where its carrier has none (R116). The planner decides in RUNNING, outside a service hold (R130), with a position
(DEDUCED, log entry 23), no move, no task at the face and none held, on the events of its list: an arrival counted and
a destination given are such events, an arrival withdrawn and a destination taken away are not (R120). The chosen task
(R121) goes to the face at distance 0; else its move begins, the shorter way, forward on equal distances, where that
is the last direction or the dwell has run out since the last IN_POS, and otherwise it is held; each blocked PUTBACK
is reported after the decision (R128). After every command with room in the list no LOAD or PICK_STOP that a record
waits for is left unasked (R108, R109, R117). -/
def Obligations.DecisionChoosesBest : Prop :=
  (∀ x : Station,
    let rank := fun t : Task =>
      let c := t.job.target.getD 0
      let forward := forwardDistance x.cfg.n (x.mpl.p.getD 0) c
      (t.rank, x.travel c, if forward = x.travel c then 0 else 1)
    let less := fun a b : Nat × Nat × Nat =>
      a.1 < b.1 ∨ (a.1 = b.1 ∧ (a.2.1 < b.2.1 ∨ (a.2.1 = b.2.1 ∧ a.2.2 < b.2.2)))
    (x.chosenTask = none ↔ ∀ t ∈ x.mpl.tasks, x.ready t.job = false)
      ∧ ∀ t, x.chosenTask = some t →
          ∃ before after, x.mpl.tasks = before ++ t :: after ∧ x.ready t.job = true
            ∧ (∀ o ∈ before, x.ready o.job = true → less (rank t) (rank o))
            ∧ ∀ o ∈ after, x.ready o.job = true → ¬ less (rank o) (rank t))
    ∧ (∀ t : Task, t.rank =
      if t.passed = 6 then 1
      else match t.job with
        | .putback _ _ => 2
        | .load _ _ => 3
        | .pickStop _ => 4
        | .scan _ _ => 5)
    ∧ (∀ x : Station,
    let takes := fun c => ∃ k, x.smap.carriers[c]? = some k ∧ k.locks.unverified = false ∧ k.locks.audit = false
      ∧ k.locks.touched = false ∧ k.locks.quarantine = false ∧ k.locks.held = false
    let stores := fun c => ∃ k, x.smap.carriers[c]? = some k ∧ k.locks = LockSet.empty
    let releasing := x.fct.pendingRelease ≠ none ∨ x.fct.lane = .sweeping
    let tyres := (x.cnu.groups.map (fun g => g.tyres.length)).sum
    let onLane := fun order => ∃ g ∈ x.cnu.groups, g.order = order
    (∀ stop, x.ready (.pickStop stop) = true ↔ takes stop.carrier ∧ ¬ releasing
        ∧ ∃ r b, x.record? stop.serial = some r ∧ r.body = .pick b ∧ (b.state = .won ∨ b.state = .picking)
          ∧ r.qty - b.staged ≤ 8 - tyres
          ∧ (onLane b.order ∨ ∀ o ∈ x.clu.records, ∀ p, o.body = .pick p → (p.state = .won ∨ p.state = .picking) →
              p.order ≠ b.order → ¬ onLane p.order))
      ∧ (∀ serial a, x.ready (.load serial a) = true ↔ stores a.carrier ∧ x.fct.infeed = .ofRecord serial)
      ∧ (∀ order dest, x.ready (.putback order dest) = true ↔ (∃ a, dest = some a ∧ stores a.carrier) ∧ ¬ releasing)
      ∧ (∀ c p, x.ready (.scan c p) = true))
    ∧ (∀ (x : Station) (id : Nat), x.raisePassed id = { x with mpl := { x.mpl with tasks := x.mpl.tasks.map (fun t =>
      if x.ready t.job = true ∧ t.id ≠ id then { t with passed := min 6 (t.passed + 1) } else t) } })
    ∧ (∀ x : Station,
    let may := x.stc.mode = .running ∧ x.stc.hold = .none ∧ x.mpl.move = none ∧ x.fct.task = none ∧ x.mpl.held = none
      ∧ x.mpl.p ≠ none
    let blocked := x.mpl.tasks.filterMap (fun t => x.blocked t.job)
    let reported := fun s : Station => blocked.foldl (fun s o => s.blockedPutback o.1 o.2) s
    (¬ may → x.decision = x)
      ∧ (may → x.chosenTask = none → x.decision = reported x)
      ∧ (∀ t p c, may → x.chosenTask = some t → x.mpl.p = some p → t.job.target = some c →
        let u := x.raisePassed t.id
        let forward := forwardDistance x.cfg.n p c ≤ backwardDistance x.cfg.n p c
        let dir : Dir := if forward then .forward else .backward
        let steps := min (forwardDistance x.cfg.n p c) (backwardDistance x.cfg.n p c)
        let dwelt := ∀ i, x.mpl.lastInPos = some i → x.cfg.dwell ≤ (x.tick - i).toNat
        (steps = 0 → x.decision = reported { u with fct := { x.fct with task := some t.id, stage := .check } })
          ∧ (steps ≠ 0 → dir = x.mpl.lastDir ∨ dwelt → x.decision = reported { u with
            mpl := { u.mpl with
              lastDir := dir
              move := some {
                dir := dir, steps := steps, target := c, task := some t.id, started := x.tick
                limit := steps * x.cfg.pitchTime + x.cfg.motionMargin, homeSeen := false } }
            pins := { x.pins with drive := .move dir steps } })
          ∧ (steps ≠ 0 → dir ≠ x.mpl.lastDir → ¬ dwelt → x.decision = reported { u with
            mpl := { u.mpl with held := some { task := t.id, dir := dir, steps := steps, target := c } } }))
      ∧ ∀ job o, x.blocked job = some o ↔ job = .putback o.1 (some o.2) ∧ x.mayStore o.2.carrier = false)
    ∧ (∀ (x : Station) (job : Job),
    (x.acceptsTask job = true ↔ x.mpl.tasks.length < 24
        ∧ ∀ c p, job = .scan c p → ∀ t ∈ x.mpl.tasks, ∀ p', t.job ≠ .scan c p')
      ∧ (x.addTask job).mpl = { x.mpl with
          tasks := x.mpl.tasks ++ [{ id := x.mpl.nextTask, passed := 0, removed := false, job := job }]
          nextTask := x.mpl.nextTask + 1 }
      ∧ ∀ c p k, job = .scan c p → x.smap.carriers[c]? = some k →
          (x.addTask job).smap.carriers[c]? = some { k with locks := { k.locks with audit := true } })
    ∧ (∀ x : Station, x.NamesFresh →
    (∀ serial b, x.put? serial = some b →
        decisionDue x (x.updPut serial (fun b => { b with arrived := b.arrived + 1 })) = true)
      ∧ (∀ serial, decisionDue x (x.updPut serial (fun b => { b with arrived := b.arrived - 1 })) = false)
      ∧ (∀ order d, (∃ t ∈ x.mpl.tasks, ∃ old, t.job = .putback order old ∧ old ≠ some d) →
        decisionDue x (x.putDest order (some d)) = true)
      ∧ ∀ order, decisionDue x (x.putDest order none) = false)
    ∧ ∀ (c : Instr) (x y : Station) (q : List Instr), exec c ⟨x, q⟩ = .next ⟨y, q⟩ → y.live →
    y.mpl.tasks.length < 24 → ∀ r ∈ y.clu.records,
      (∀ b, r.body = .putaway b → b.state = .loading → b.loadMark = true)
        ∧ ∀ b, r.body = .pick b → b.state = .won ∨ b.state = .picking → ∀ e ∈ b.sel, 1 ≤ e.qty → e.taskMark = true

/-! ### What every step keeps -/

/-- Every step keeps the Bus Interface within its rules (R67, R68, R70, R72, R73, R75). -/
def Obligations.StepKeepsBusSound : Prop :=
  ∀ s t : State, s.station.bus.Sound → step s = .next t → t.station.bus.Sound

/-- Every step keeps the rules of the modes and of the lines that show them (R185, R188, R189, R191, R193, R196). The
mode moves along the paths of the table of R185 alone, but for POWER_LOSS: power-up and RESET lead to STARTING; the
join from STARTING to RUNNING or HALTED, and with SVC_REQ asserted at once to SERVICE; SVC_REQ from RUNNING to SERVICE
and its release back; the commands that can bring a halting fault from RUNNING and SERVICE to HALTED; the IN_POS of a
resume from HALTED to RUNNING. That POWER_LOSS sets STARTING at once, where that row of R185 names power-up and RESET
alone, and RESET already at its assertion, is the model's choice, log entry 24 (DEDUCED). -/
def Obligations.StepKeepsModeRules : Prop :=
  (∀ s t : State, s.station.ModeRules → step s = .next t → t.station.ModeRules)
    ∧ ∀ (c : Instr) (x y : Station) (q : List Instr), x.ModeRules → exec c ⟨x, q⟩ = .next ⟨y, q⟩ →
    y.stc.mode ≠ x.stc.mode →
      (c ∈ [.powerUp, .powerLoss, .resetAssert, .resetRelease] ∧ y.stc.mode = .starting)
        ∨ ((∃ occ, c = .join occ) ∧ x.stc.mode = .starting ∧ y.stc.mode =
          if x.stc.homed then (if x.pins.svcReq then .service else .running) else .halted)
        ∨ (c = .svcReqRise ∧ x.stc.mode = .running ∧ y.stc.mode = .service)
        ∨ (c = .svcReqFall ∧ x.stc.mode = .service ∧ y.stc.mode = .running)
        ∨ ((c ∈ [.motionTimerExpiry, .home, .inPos, .laneTimerExpiry] ∨ ∃ occ, c = .cycleEnd occ)
          ∧ (x.stc.mode = .running ∨ x.stc.mode = .service) ∧ y.stc.mode = .halted)
        ∨ (c = .inPos ∧ x.stc.mode = .halted ∧ x.stc.resume = true ∧ y.stc.mode = .running)

/-- Every step of a station within the mode rules (StepKeepsModeRules) keeps the position one of the N carriers, N
even and 16..96 (R1, R123, R186, R188). That N lies in its range before step 1 of start has read it is the model's
choice, log entry 1. -/
def Obligations.StepKeepsPosition : Prop :=
  ∀ s t : State, s.station.ModeRules → s.station.PositionRule → step s = .next t → t.station.PositionRule

/-- Every step keeps the tables within their stated numbers of entries (R84, R94, R115, R118, R150), the names that
the model gives posts, records and tasks fresh (the model's own, log entry 5) with one entry and one group to an order
(R150, R153), and the lane rule: at most 8 tyres stand on the lane (R153), with the room that R119 asks for the task
at the face, no more tyres of a pick record staged, in tasks and waiting for a task than its quantity, and one task
alone at the face or in a move. -/
def Obligations.StepKeepsTables : Prop :=
  ∀ s t : State, step s = .next t →
    (s.station.NamesFresh → s.station.Limits → t.station.Limits) ∧ (s.station.NamesFresh → t.station.NamesFresh)
      ∧ (s.station.NamesFresh → s.station.LaneRule → t.station.LaneRule)

/-- Every step keeps a carrier's fault count at 0..3, with RETIRED at 3, working and retained (R32), and every bay
within its bounds (R5, R4): reserved at most count, count + incoming at most capB of its article, which has an entry;
an unbound bay empty. -/
def Obligations.StepKeepsFaultCounts : Prop :=
  ∀ s t : State, step s = .next t →
    (s.station.FaultCounts → t.station.FaultCounts) ∧ (s.station.BayRule → t.station.BayRule)

/-- The station right after reset meets every rule that a step keeps. That it meets the position rule rests on log
entry 1, the fault count rule and the bay rule on the blank retained memory of log entry 2 (the model's choices). -/
def Obligations.ResetMeetsTheRules : Prop :=
  State.reset.station.bus.Sound ∧ State.reset.station.ModeRules ∧ State.reset.station.PositionRule
    ∧ State.reset.station.Limits ∧ State.reset.station.NamesFresh ∧ State.reset.station.FaultCounts
    ∧ State.reset.station.BayRule ∧ State.reset.station.LaneRule
    ∧ State.reset.pending = []
end

