-- ==== Sys2Proof/Laws/PerInstr.lean ====
section
/-! SUPPORT. What holds of every command as syntax, one lemma for each constructor. -/

namespace Sys2Proof

/-- The command has an operand whose range WellFormed.lean checks. -/
def Instr.bounded : Instr → Bool
  | .frameCompleted _ | .rejoin _ | .claimWindowExpiry _ | .infeedTimeout _ | .holdTimerExpiry _
  | .retainedWriteComplete _ => true
  | _ => false

/-- No word of the table spells the command, and a command without a checked operand is well formed. -/
def Laws.CommandShape.Statement (i : Instr) : Prop :=
  (∀ nbits w, decodeTableWord nbits w ≠ some i) ∧ (i.bounded = false → i.wellFormed = true)

theorem Laws.CommandShape.powerUp : Laws.CommandShape.Statement .powerUp :=
  ⟨nofun, fun _ => rfl⟩

theorem Laws.CommandShape.resetAssert : Laws.CommandShape.Statement .resetAssert :=
  ⟨nofun, fun _ => rfl⟩

theorem Laws.CommandShape.resetRelease : Laws.CommandShape.Statement .resetRelease :=
  ⟨nofun, fun _ => rfl⟩

theorem Laws.CommandShape.configReadEnd : ∀ read, Laws.CommandShape.Statement (.configReadEnd read) :=
  fun _ => ⟨nofun, fun _ => rfl⟩

theorem Laws.CommandShape.laneClearAsserted : Laws.CommandShape.Statement .laneClearAsserted :=
  ⟨nofun, fun _ => rfl⟩

theorem Laws.CommandShape.laneClearFall : Laws.CommandShape.Statement .laneClearFall :=
  ⟨nofun, fun _ => rfl⟩

theorem Laws.CommandShape.join : ∀ infeedOccupied, Laws.CommandShape.Statement (.join infeedOccupied) :=
  fun _ => ⟨nofun, fun _ => rfl⟩

theorem Laws.CommandShape.takeOut : Laws.CommandShape.Statement .takeOut :=
  ⟨nofun, fun _ => rfl⟩

theorem Laws.CommandShape.frameResend : Laws.CommandShape.Statement .frameResend :=
  ⟨nofun, fun _ => rfl⟩

theorem Laws.CommandShape.arbitrationLost : Laws.CommandShape.Statement .arbitrationLost :=
  ⟨nofun, fun _ => rfl⟩

theorem Laws.CommandShape.frameCompleted : ∀ bits, Laws.CommandShape.Statement (.frameCompleted bits) :=
  fun _ => ⟨nofun, nofun⟩

theorem Laws.CommandShape.frameError : ∀ error, Laws.CommandShape.Statement (.frameError error) :=
  fun _ => ⟨nofun, fun _ => rfl⟩

theorem Laws.CommandShape.dominantRun16 : Laws.CommandShape.Statement .dominantRun16 :=
  ⟨nofun, fun _ => rfl⟩

theorem Laws.CommandShape.delaySignal : ∀ heard, Laws.CommandShape.Statement (.delaySignal heard) :=
  fun _ => ⟨nofun, fun _ => rfl⟩

theorem Laws.CommandShape.rejoin : ∀ stretches, Laws.CommandShape.Statement (.rejoin stretches) :=
  fun _ => ⟨nofun, nofun⟩

theorem Laws.CommandShape.noticeRejected : Laws.CommandShape.Statement .noticeRejected :=
  ⟨nofun, fun _ => rfl⟩

theorem Laws.CommandShape.statusFrameDiscarded : Laws.CommandShape.Statement .statusFrameDiscarded :=
  ⟨nofun, fun _ => rfl⟩

theorem Laws.CommandShape.abnTaken : Laws.CommandShape.Statement .abnTaken :=
  ⟨nofun, fun _ => rfl⟩

theorem Laws.CommandShape.rdyTaken : Laws.CommandShape.Statement .rdyTaken :=
  ⟨nofun, fun _ => rfl⟩

theorem Laws.CommandShape.clsTaken : Laws.CommandShape.Statement .clsTaken :=
  ⟨nofun, fun _ => rfl⟩

theorem Laws.CommandShape.clmTaken : Laws.CommandShape.Statement .clmTaken :=
  ⟨nofun, fun _ => rfl⟩

theorem Laws.CommandShape.opnTaken : Laws.CommandShape.Statement .opnTaken :=
  ⟨nofun, fun _ => rfl⟩

theorem Laws.CommandShape.lofTaken : Laws.CommandShape.Statement .lofTaken :=
  ⟨nofun, fun _ => rfl⟩

theorem Laws.CommandShape.pofTaken : Laws.CommandShape.Statement .pofTaken :=
  ⟨nofun, fun _ => rfl⟩

theorem Laws.CommandShape.cctHold : Laws.CommandShape.Statement .cctHold :=
  ⟨nofun, fun _ => rfl⟩

theorem Laws.CommandShape.cctUnhold : Laws.CommandShape.Statement .cctUnhold :=
  ⟨nofun, fun _ => rfl⟩

theorem Laws.CommandShape.cctHoldAll : Laws.CommandShape.Statement .cctHoldAll :=
  ⟨nofun, fun _ => rfl⟩

theorem Laws.CommandShape.cctUnholdAll : Laws.CommandShape.Statement .cctUnholdAll :=
  ⟨nofun, fun _ => rfl⟩

theorem Laws.CommandShape.cctRetire : Laws.CommandShape.Statement .cctRetire :=
  ⟨nofun, fun _ => rfl⟩

theorem Laws.CommandShape.cctUnretire : Laws.CommandShape.Statement .cctUnretire :=
  ⟨nofun, fun _ => rfl⟩

theorem Laws.CommandShape.cctClearQuarantine : Laws.CommandShape.Statement .cctClearQuarantine :=
  ⟨nofun, fun _ => rfl⟩

theorem Laws.CommandShape.cctSetCount : Laws.CommandShape.Statement .cctSetCount :=
  ⟨nofun, fun _ => rfl⟩

theorem Laws.CommandShape.sctResume : Laws.CommandShape.Statement .sctResume :=
  ⟨nofun, fun _ => rfl⟩

theorem Laws.CommandShape.arqByRange : Laws.CommandShape.Statement .arqByRange :=
  ⟨nofun, fun _ => rfl⟩

theorem Laws.CommandShape.arqByArticle : Laws.CommandShape.Statement .arqByArticle :=
  ⟨nofun, fun _ => rfl⟩

theorem Laws.CommandShape.sqyTaken : Laws.CommandShape.Statement .sqyTaken :=
  ⟨nofun, fun _ => rfl⟩

theorem Laws.CommandShape.claimWindowExpiry : ∀ round, Laws.CommandShape.Statement (.claimWindowExpiry round) :=
  fun _ => ⟨nofun, nofun⟩

theorem Laws.CommandShape.infeedTimeout : ∀ putaway, Laws.CommandShape.Statement (.infeedTimeout putaway) :=
  fun _ => ⟨nofun, nofun⟩

theorem Laws.CommandShape.retainedWriteComplete : ∀ record, Laws.CommandShape.Statement (.retainedWriteComplete record) :=
  fun _ => ⟨nofun, nofun⟩

theorem Laws.CommandShape.reversalDwellExpiry : Laws.CommandShape.Statement .reversalDwellExpiry :=
  ⟨nofun, fun _ => rfl⟩

theorem Laws.CommandShape.motionTimerExpiry : Laws.CommandShape.Statement .motionTimerExpiry :=
  ⟨nofun, fun _ => rfl⟩

theorem Laws.CommandShape.index : Laws.CommandShape.Statement .index :=
  ⟨nofun, fun _ => rfl⟩

theorem Laws.CommandShape.home : Laws.CommandShape.Statement .home :=
  ⟨nofun, fun _ => rfl⟩

theorem Laws.CommandShape.inPos : Laws.CommandShape.Statement .inPos :=
  ⟨nofun, fun _ => rfl⟩

theorem Laws.CommandShape.approachEnd : Laws.CommandShape.Statement .approachEnd :=
  ⟨nofun, fun _ => rfl⟩

theorem Laws.CommandShape.engageMinimumEnd : ∀ extBusy, Laws.CommandShape.Statement (.engageMinimumEnd extBusy) :=
  fun _ => ⟨nofun, fun _ => rfl⟩

theorem Laws.CommandShape.extBusyClear : Laws.CommandShape.Statement .extBusyClear :=
  ⟨nofun, fun _ => rfl⟩

theorem Laws.CommandShape.extensionMaximumExpiry : Laws.CommandShape.Statement .extensionMaximumExpiry :=
  ⟨nofun, fun _ => rfl⟩

theorem Laws.CommandShape.cycleEnd : ∀ infeedOccupied, Laws.CommandShape.Statement (.cycleEnd infeedOccupied) :=
  fun _ => ⟨nofun, fun _ => rfl⟩

theorem Laws.CommandShape.headOccClear : Laws.CommandShape.Statement .headOccClear :=
  ⟨nofun, fun _ => rfl⟩

theorem Laws.CommandShape.headOccAsserted : Laws.CommandShape.Statement .headOccAsserted :=
  ⟨nofun, fun _ => rfl⟩

theorem Laws.CommandShape.laneTimerExpiry : Laws.CommandShape.Statement .laneTimerExpiry :=
  ⟨nofun, fun _ => rfl⟩

theorem Laws.CommandShape.laneExitPulse : Laws.CommandShape.Statement .laneExitPulse :=
  ⟨nofun, fun _ => rfl⟩

theorem Laws.CommandShape.infeedArrival : Laws.CommandShape.Statement .infeedArrival :=
  ⟨nofun, fun _ => rfl⟩

theorem Laws.CommandShape.infeedOccFall : Laws.CommandShape.Statement .infeedOccFall :=
  ⟨nofun, fun _ => rfl⟩

theorem Laws.CommandShape.gaugeAnswer : ∀ height, Laws.CommandShape.Statement (.gaugeAnswer height) :=
  fun _ => ⟨nofun, fun _ => rfl⟩

theorem Laws.CommandShape.gaugeReadTimeout : Laws.CommandShape.Statement .gaugeReadTimeout :=
  ⟨nofun, fun _ => rfl⟩

theorem Laws.CommandShape.idleTimerExpiry : Laws.CommandShape.Statement .idleTimerExpiry :=
  ⟨nofun, fun _ => rfl⟩

theorem Laws.CommandShape.holdTimerExpiry : ∀ order, Laws.CommandShape.Statement (.holdTimerExpiry order) :=
  fun _ => ⟨nofun, nofun⟩

theorem Laws.CommandShape.svcReqRise : Laws.CommandShape.Statement .svcReqRise :=
  ⟨nofun, fun _ => rfl⟩

theorem Laws.CommandShape.svcReqFall : Laws.CommandShape.Statement .svcReqFall :=
  ⟨nofun, fun _ => rfl⟩

theorem Laws.CommandShape.powerLoss : Laws.CommandShape.Statement .powerLoss :=
  ⟨nofun, fun _ => rfl⟩

theorem Laws.CommandShape.elevenRecessiveBitsAfterRejoin : Laws.CommandShape.Statement .elevenRecessiveBitsAfterRejoin :=
  ⟨nofun, fun _ => rfl⟩

end Sys2Proof
end

