-- ==== Sys2Proof/Laws/State.lean ====
section
/-! SUPPORT. The part of the station that each plain update leaves as it was, field by field. -/

namespace Sys2Proof.Machine

variable (s : Station)

@[simp] theorem recompute_power (c : Nat) : (s.recompute c).power = s.power := rfl
@[simp] theorem recompute_tick (c : Nat) : (s.recompute c).tick = s.tick := rfl
@[simp] theorem recompute_cfg (c : Nat) : (s.recompute c).cfg = s.cfg := rfl
@[simp] theorem recompute_stc (c : Nat) : (s.recompute c).stc = s.stc := rfl
@[simp] theorem recompute_bus (c : Nat) : (s.recompute c).bus = s.bus := rfl
@[simp] theorem recompute_retained (c : Nat) : (s.recompute c).retained = s.retained := rfl
@[simp] theorem recompute_clu (c : Nat) : (s.recompute c).clu = s.clu := rfl
@[simp] theorem recompute_mpl (c : Nat) : (s.recompute c).mpl = s.mpl := rfl
@[simp] theorem recompute_fct (c : Nat) : (s.recompute c).fct = s.fct := rfl
@[simp] theorem recompute_cnu (c : Nat) : (s.recompute c).cnu = s.cnu := rfl
@[simp] theorem recompute_adu (c : Nat) : (s.recompute c).adu = s.adu := rfl
@[simp] theorem recompute_pins (c : Nat) : (s.recompute c).pins = s.pins := rfl

@[simp] theorem updCarrier_power (c : Nat) (f : Carrier → Carrier) : (s.updCarrier c f).power = s.power := rfl
@[simp] theorem updCarrier_tick (c : Nat) (f : Carrier → Carrier) : (s.updCarrier c f).tick = s.tick := rfl
@[simp] theorem updCarrier_cfg (c : Nat) (f : Carrier → Carrier) : (s.updCarrier c f).cfg = s.cfg := rfl
@[simp] theorem updCarrier_stc (c : Nat) (f : Carrier → Carrier) : (s.updCarrier c f).stc = s.stc := rfl
@[simp] theorem updCarrier_bus (c : Nat) (f : Carrier → Carrier) : (s.updCarrier c f).bus = s.bus := rfl
@[simp] theorem updCarrier_retained (c : Nat) (f : Carrier → Carrier) : (s.updCarrier c f).retained = s.retained := rfl
@[simp] theorem updCarrier_clu (c : Nat) (f : Carrier → Carrier) : (s.updCarrier c f).clu = s.clu := rfl
@[simp] theorem updCarrier_mpl (c : Nat) (f : Carrier → Carrier) : (s.updCarrier c f).mpl = s.mpl := rfl
@[simp] theorem updCarrier_fct (c : Nat) (f : Carrier → Carrier) : (s.updCarrier c f).fct = s.fct := rfl
@[simp] theorem updCarrier_cnu (c : Nat) (f : Carrier → Carrier) : (s.updCarrier c f).cnu = s.cnu := rfl
@[simp] theorem updCarrier_adu (c : Nat) (f : Carrier → Carrier) : (s.updCarrier c f).adu = s.adu := rfl
@[simp] theorem updCarrier_pins (c : Nat) (f : Carrier → Carrier) : (s.updCarrier c f).pins = s.pins := rfl

@[simp] theorem putArticle_power (i : Nat) (e : Option Article) : (s.putArticle i e).power = s.power := rfl
@[simp] theorem putArticle_tick (i : Nat) (e : Option Article) : (s.putArticle i e).tick = s.tick := rfl
@[simp] theorem putArticle_cfg (i : Nat) (e : Option Article) : (s.putArticle i e).cfg = s.cfg := rfl
@[simp] theorem putArticle_stc (i : Nat) (e : Option Article) : (s.putArticle i e).stc = s.stc := rfl
@[simp] theorem putArticle_bus (i : Nat) (e : Option Article) : (s.putArticle i e).bus = s.bus := rfl
@[simp] theorem putArticle_retained (i : Nat) (e : Option Article) : (s.putArticle i e).retained = s.retained := rfl
@[simp] theorem putArticle_clu (i : Nat) (e : Option Article) : (s.putArticle i e).clu = s.clu := rfl
@[simp] theorem putArticle_mpl (i : Nat) (e : Option Article) : (s.putArticle i e).mpl = s.mpl := rfl
@[simp] theorem putArticle_fct (i : Nat) (e : Option Article) : (s.putArticle i e).fct = s.fct := rfl
@[simp] theorem putArticle_cnu (i : Nat) (e : Option Article) : (s.putArticle i e).cnu = s.cnu := rfl
@[simp] theorem putArticle_adu (i : Nat) (e : Option Article) : (s.putArticle i e).adu = s.adu := rfl
@[simp] theorem putArticle_pins (i : Nat) (e : Option Article) : (s.putArticle i e).pins = s.pins := rfl

@[simp] theorem updRecord_power (n : Nat) (f : LineRec → LineRec) : (s.updRecord n f).power = s.power := rfl
@[simp] theorem updRecord_tick (n : Nat) (f : LineRec → LineRec) : (s.updRecord n f).tick = s.tick := rfl
@[simp] theorem updRecord_cfg (n : Nat) (f : LineRec → LineRec) : (s.updRecord n f).cfg = s.cfg := rfl
@[simp] theorem updRecord_stc (n : Nat) (f : LineRec → LineRec) : (s.updRecord n f).stc = s.stc := rfl
@[simp] theorem updRecord_bus (n : Nat) (f : LineRec → LineRec) : (s.updRecord n f).bus = s.bus := rfl
@[simp] theorem updRecord_smap (n : Nat) (f : LineRec → LineRec) : (s.updRecord n f).smap = s.smap := rfl
@[simp] theorem updRecord_retained (n : Nat) (f : LineRec → LineRec) : (s.updRecord n f).retained = s.retained := rfl
@[simp] theorem updRecord_mpl (n : Nat) (f : LineRec → LineRec) : (s.updRecord n f).mpl = s.mpl := rfl
@[simp] theorem updRecord_fct (n : Nat) (f : LineRec → LineRec) : (s.updRecord n f).fct = s.fct := rfl
@[simp] theorem updRecord_cnu (n : Nat) (f : LineRec → LineRec) : (s.updRecord n f).cnu = s.cnu := rfl
@[simp] theorem updRecord_adu (n : Nat) (f : LineRec → LineRec) : (s.updRecord n f).adu = s.adu := rfl
@[simp] theorem updRecord_pins (n : Nat) (f : LineRec → LineRec) : (s.updRecord n f).pins = s.pins := rfl

@[simp] theorem updOrder_power (o : Nat) (f : OrderEntry → OrderEntry) : (s.updOrder o f).power = s.power := rfl
@[simp] theorem updOrder_tick (o : Nat) (f : OrderEntry → OrderEntry) : (s.updOrder o f).tick = s.tick := rfl
@[simp] theorem updOrder_cfg (o : Nat) (f : OrderEntry → OrderEntry) : (s.updOrder o f).cfg = s.cfg := rfl
@[simp] theorem updOrder_stc (o : Nat) (f : OrderEntry → OrderEntry) : (s.updOrder o f).stc = s.stc := rfl
@[simp] theorem updOrder_bus (o : Nat) (f : OrderEntry → OrderEntry) : (s.updOrder o f).bus = s.bus := rfl
@[simp] theorem updOrder_smap (o : Nat) (f : OrderEntry → OrderEntry) : (s.updOrder o f).smap = s.smap := rfl
@[simp] theorem updOrder_retained (o : Nat) (f : OrderEntry → OrderEntry) : (s.updOrder o f).retained = s.retained := rfl
@[simp] theorem updOrder_clu (o : Nat) (f : OrderEntry → OrderEntry) : (s.updOrder o f).clu = s.clu := rfl
@[simp] theorem updOrder_mpl (o : Nat) (f : OrderEntry → OrderEntry) : (s.updOrder o f).mpl = s.mpl := rfl
@[simp] theorem updOrder_fct (o : Nat) (f : OrderEntry → OrderEntry) : (s.updOrder o f).fct = s.fct := rfl
@[simp] theorem updOrder_adu (o : Nat) (f : OrderEntry → OrderEntry) : (s.updOrder o f).adu = s.adu := rfl
@[simp] theorem updOrder_pins (o : Nat) (f : OrderEntry → OrderEntry) : (s.updOrder o f).pins = s.pins := rfl

@[simp] theorem updGroup_power (o : Nat) (f : Group → Group) : (s.updGroup o f).power = s.power := rfl
@[simp] theorem updGroup_tick (o : Nat) (f : Group → Group) : (s.updGroup o f).tick = s.tick := rfl
@[simp] theorem updGroup_cfg (o : Nat) (f : Group → Group) : (s.updGroup o f).cfg = s.cfg := rfl
@[simp] theorem updGroup_stc (o : Nat) (f : Group → Group) : (s.updGroup o f).stc = s.stc := rfl
@[simp] theorem updGroup_bus (o : Nat) (f : Group → Group) : (s.updGroup o f).bus = s.bus := rfl
@[simp] theorem updGroup_smap (o : Nat) (f : Group → Group) : (s.updGroup o f).smap = s.smap := rfl
@[simp] theorem updGroup_retained (o : Nat) (f : Group → Group) : (s.updGroup o f).retained = s.retained := rfl
@[simp] theorem updGroup_clu (o : Nat) (f : Group → Group) : (s.updGroup o f).clu = s.clu := rfl
@[simp] theorem updGroup_mpl (o : Nat) (f : Group → Group) : (s.updGroup o f).mpl = s.mpl := rfl
@[simp] theorem updGroup_fct (o : Nat) (f : Group → Group) : (s.updGroup o f).fct = s.fct := rfl
@[simp] theorem updGroup_adu (o : Nat) (f : Group → Group) : (s.updGroup o f).adu = s.adu := rfl
@[simp] theorem updGroup_pins (o : Nat) (f : Group → Group) : (s.updGroup o f).pins = s.pins := rfl

@[simp] theorem setOwedReadies_power (l : List Nat) : (s.setOwedReadies l).power = s.power := rfl
@[simp] theorem setOwedReadies_tick (l : List Nat) : (s.setOwedReadies l).tick = s.tick := rfl
@[simp] theorem setOwedReadies_cfg (l : List Nat) : (s.setOwedReadies l).cfg = s.cfg := rfl
@[simp] theorem setOwedReadies_stc (l : List Nat) : (s.setOwedReadies l).stc = s.stc := rfl
@[simp] theorem setOwedReadies_bus (l : List Nat) : (s.setOwedReadies l).bus = s.bus := rfl
@[simp] theorem setOwedReadies_smap (l : List Nat) : (s.setOwedReadies l).smap = s.smap := rfl
@[simp] theorem setOwedReadies_retained (l : List Nat) : (s.setOwedReadies l).retained = s.retained := rfl
@[simp] theorem setOwedReadies_clu (l : List Nat) : (s.setOwedReadies l).clu = s.clu := rfl
@[simp] theorem setOwedReadies_mpl (l : List Nat) : (s.setOwedReadies l).mpl = s.mpl := rfl
@[simp] theorem setOwedReadies_fct (l : List Nat) : (s.setOwedReadies l).fct = s.fct := rfl
@[simp] theorem setOwedReadies_adu (l : List Nat) : (s.setOwedReadies l).adu = s.adu := rfl
@[simp] theorem setOwedReadies_pins (l : List Nat) : (s.setOwedReadies l).pins = s.pins := rfl

@[simp] theorem addPost_power (k : Kind) (key : Key) (p : List Byte) : (s.addPost k key p).power = s.power := rfl
@[simp] theorem addPost_tick (k : Kind) (key : Key) (p : List Byte) : (s.addPost k key p).tick = s.tick := rfl
@[simp] theorem addPost_cfg (k : Kind) (key : Key) (p : List Byte) : (s.addPost k key p).cfg = s.cfg := rfl
@[simp] theorem addPost_stc (k : Kind) (key : Key) (p : List Byte) : (s.addPost k key p).stc = s.stc := rfl
@[simp] theorem addPost_smap (k : Kind) (key : Key) (p : List Byte) : (s.addPost k key p).smap = s.smap := rfl
@[simp] theorem addPost_retained (k : Kind) (key : Key) (p : List Byte) : (s.addPost k key p).retained = s.retained := rfl
@[simp] theorem addPost_clu (k : Kind) (key : Key) (p : List Byte) : (s.addPost k key p).clu = s.clu := rfl
@[simp] theorem addPost_mpl (k : Kind) (key : Key) (p : List Byte) : (s.addPost k key p).mpl = s.mpl := rfl
@[simp] theorem addPost_fct (k : Kind) (key : Key) (p : List Byte) : (s.addPost k key p).fct = s.fct := rfl
@[simp] theorem addPost_cnu (k : Kind) (key : Key) (p : List Byte) : (s.addPost k key p).cnu = s.cnu := rfl
@[simp] theorem addPost_adu (k : Kind) (key : Key) (p : List Byte) : (s.addPost k key p).adu = s.adu := rfl
@[simp] theorem addPost_pins (k : Kind) (key : Key) (p : List Byte) : (s.addPost k key p).pins = s.pins := rfl

@[simp] theorem freeSlot_power (h : Nat) : (s.freeSlot h).power = s.power := rfl
@[simp] theorem freeSlot_tick (h : Nat) : (s.freeSlot h).tick = s.tick := rfl
@[simp] theorem freeSlot_cfg (h : Nat) : (s.freeSlot h).cfg = s.cfg := rfl
@[simp] theorem freeSlot_stc (h : Nat) : (s.freeSlot h).stc = s.stc := rfl
@[simp] theorem freeSlot_smap (h : Nat) : (s.freeSlot h).smap = s.smap := rfl
@[simp] theorem freeSlot_retained (h : Nat) : (s.freeSlot h).retained = s.retained := rfl
@[simp] theorem freeSlot_clu (h : Nat) : (s.freeSlot h).clu = s.clu := rfl
@[simp] theorem freeSlot_mpl (h : Nat) : (s.freeSlot h).mpl = s.mpl := rfl
@[simp] theorem freeSlot_fct (h : Nat) : (s.freeSlot h).fct = s.fct := rfl
@[simp] theorem freeSlot_cnu (h : Nat) : (s.freeSlot h).cnu = s.cnu := rfl
@[simp] theorem freeSlot_adu (h : Nat) : (s.freeSlot h).adu = s.adu := rfl
@[simp] theorem freeSlot_pins (h : Nat) : (s.freeSlot h).pins = s.pins := rfl

@[simp] theorem unoweKind_power (k : Kind) : (s.unoweKind k).power = s.power := rfl
@[simp] theorem unoweKind_tick (k : Kind) : (s.unoweKind k).tick = s.tick := rfl
@[simp] theorem unoweKind_cfg (k : Kind) : (s.unoweKind k).cfg = s.cfg := rfl
@[simp] theorem unoweKind_stc (k : Kind) : (s.unoweKind k).stc = s.stc := rfl
@[simp] theorem unoweKind_smap (k : Kind) : (s.unoweKind k).smap = s.smap := rfl
@[simp] theorem unoweKind_retained (k : Kind) : (s.unoweKind k).retained = s.retained := rfl
@[simp] theorem unoweKind_clu (k : Kind) : (s.unoweKind k).clu = s.clu := rfl
@[simp] theorem unoweKind_mpl (k : Kind) : (s.unoweKind k).mpl = s.mpl := rfl
@[simp] theorem unoweKind_fct (k : Kind) : (s.unoweKind k).fct = s.fct := rfl
@[simp] theorem unoweKind_cnu (k : Kind) : (s.unoweKind k).cnu = s.cnu := rfl
@[simp] theorem unoweKind_adu (k : Kind) : (s.unoweKind k).adu = s.adu := rfl
@[simp] theorem unoweKind_pins (k : Kind) : (s.unoweKind k).pins = s.pins := rfl

@[simp] theorem appendFrame_power (f : Frame) (n : Role) : (s.appendFrame f n).power = s.power := rfl
@[simp] theorem appendFrame_tick (f : Frame) (n : Role) : (s.appendFrame f n).tick = s.tick := rfl
@[simp] theorem appendFrame_cfg (f : Frame) (n : Role) : (s.appendFrame f n).cfg = s.cfg := rfl
@[simp] theorem appendFrame_stc (f : Frame) (n : Role) : (s.appendFrame f n).stc = s.stc := rfl
@[simp] theorem appendFrame_smap (f : Frame) (n : Role) : (s.appendFrame f n).smap = s.smap := rfl
@[simp] theorem appendFrame_retained (f : Frame) (n : Role) : (s.appendFrame f n).retained = s.retained := rfl
@[simp] theorem appendFrame_clu (f : Frame) (n : Role) : (s.appendFrame f n).clu = s.clu := rfl
@[simp] theorem appendFrame_mpl (f : Frame) (n : Role) : (s.appendFrame f n).mpl = s.mpl := rfl
@[simp] theorem appendFrame_fct (f : Frame) (n : Role) : (s.appendFrame f n).fct = s.fct := rfl
@[simp] theorem appendFrame_cnu (f : Frame) (n : Role) : (s.appendFrame f n).cnu = s.cnu := rfl
@[simp] theorem appendFrame_adu (f : Frame) (n : Role) : (s.appendFrame f n).adu = s.adu := rfl
@[simp] theorem appendFrame_pins (f : Frame) (n : Role) : (s.appendFrame f n).pins = s.pins := rfl

@[simp] theorem beginFrame_power (p : Post) : (s.beginFrame p).power = s.power := rfl
@[simp] theorem beginFrame_tick (p : Post) : (s.beginFrame p).tick = s.tick := rfl
@[simp] theorem beginFrame_cfg (p : Post) : (s.beginFrame p).cfg = s.cfg := rfl
@[simp] theorem beginFrame_stc (p : Post) : (s.beginFrame p).stc = s.stc := rfl
@[simp] theorem beginFrame_smap (p : Post) : (s.beginFrame p).smap = s.smap := rfl
@[simp] theorem beginFrame_retained (p : Post) : (s.beginFrame p).retained = s.retained := rfl
@[simp] theorem beginFrame_clu (p : Post) : (s.beginFrame p).clu = s.clu := rfl
@[simp] theorem beginFrame_mpl (p : Post) : (s.beginFrame p).mpl = s.mpl := rfl
@[simp] theorem beginFrame_fct (p : Post) : (s.beginFrame p).fct = s.fct := rfl
@[simp] theorem beginFrame_cnu (p : Post) : (s.beginFrame p).cnu = s.cnu := rfl
@[simp] theorem beginFrame_adu (p : Post) : (s.beginFrame p).adu = s.adu := rfl
@[simp] theorem beginFrame_pins (p : Post) : (s.beginFrame p).pins = s.pins := rfl

@[simp] theorem dropHead_power : s.dropHead.power = s.power := rfl
@[simp] theorem dropHead_tick : s.dropHead.tick = s.tick := rfl
@[simp] theorem dropHead_cfg : s.dropHead.cfg = s.cfg := rfl
@[simp] theorem dropHead_stc : s.dropHead.stc = s.stc := rfl
@[simp] theorem dropHead_smap : s.dropHead.smap = s.smap := rfl
@[simp] theorem dropHead_retained : s.dropHead.retained = s.retained := rfl
@[simp] theorem dropHead_clu : s.dropHead.clu = s.clu := rfl
@[simp] theorem dropHead_mpl : s.dropHead.mpl = s.mpl := rfl
@[simp] theorem dropHead_fct : s.dropHead.fct = s.fct := rfl
@[simp] theorem dropHead_cnu : s.dropHead.cnu = s.cnu := rfl
@[simp] theorem dropHead_adu : s.dropHead.adu = s.adu := rfl
@[simp] theorem dropHead_pins : s.dropHead.pins = s.pins := rfl

@[simp] theorem updTask_power (id : Nat) (f : Task → Task) : (s.updTask id f).power = s.power := rfl
@[simp] theorem updTask_tick (id : Nat) (f : Task → Task) : (s.updTask id f).tick = s.tick := rfl
@[simp] theorem updTask_cfg (id : Nat) (f : Task → Task) : (s.updTask id f).cfg = s.cfg := rfl
@[simp] theorem updTask_stc (id : Nat) (f : Task → Task) : (s.updTask id f).stc = s.stc := rfl
@[simp] theorem updTask_bus (id : Nat) (f : Task → Task) : (s.updTask id f).bus = s.bus := rfl
@[simp] theorem updTask_smap (id : Nat) (f : Task → Task) : (s.updTask id f).smap = s.smap := rfl
@[simp] theorem updTask_retained (id : Nat) (f : Task → Task) : (s.updTask id f).retained = s.retained := rfl
@[simp] theorem updTask_clu (id : Nat) (f : Task → Task) : (s.updTask id f).clu = s.clu := rfl
@[simp] theorem updTask_fct (id : Nat) (f : Task → Task) : (s.updTask id f).fct = s.fct := rfl
@[simp] theorem updTask_cnu (id : Nat) (f : Task → Task) : (s.updTask id f).cnu = s.cnu := rfl
@[simp] theorem updTask_adu (id : Nat) (f : Task → Task) : (s.updTask id f).adu = s.adu := rfl
@[simp] theorem updTask_pins (id : Nat) (f : Task → Task) : (s.updTask id f).pins = s.pins := rfl

@[simp] theorem removeTask_power (id : Nat) : (s.removeTask id).power = s.power := rfl
@[simp] theorem removeTask_tick (id : Nat) : (s.removeTask id).tick = s.tick := rfl
@[simp] theorem removeTask_cfg (id : Nat) : (s.removeTask id).cfg = s.cfg := rfl
@[simp] theorem removeTask_stc (id : Nat) : (s.removeTask id).stc = s.stc := rfl
@[simp] theorem removeTask_bus (id : Nat) : (s.removeTask id).bus = s.bus := rfl
@[simp] theorem removeTask_smap (id : Nat) : (s.removeTask id).smap = s.smap := rfl
@[simp] theorem removeTask_retained (id : Nat) : (s.removeTask id).retained = s.retained := rfl
@[simp] theorem removeTask_clu (id : Nat) : (s.removeTask id).clu = s.clu := rfl
@[simp] theorem removeTask_fct (id : Nat) : (s.removeTask id).fct = s.fct := rfl
@[simp] theorem removeTask_cnu (id : Nat) : (s.removeTask id).cnu = s.cnu := rfl
@[simp] theorem removeTask_adu (id : Nat) : (s.removeTask id).adu = s.adu := rfl
@[simp] theorem removeTask_pins (id : Nat) : (s.removeTask id).pins = s.pins := rfl

@[simp] theorem removeJobs_power (m : Job → Bool) : (s.removeJobs m).power = s.power := rfl
@[simp] theorem removeJobs_tick (m : Job → Bool) : (s.removeJobs m).tick = s.tick := rfl
@[simp] theorem removeJobs_cfg (m : Job → Bool) : (s.removeJobs m).cfg = s.cfg := rfl
@[simp] theorem removeJobs_stc (m : Job → Bool) : (s.removeJobs m).stc = s.stc := rfl
@[simp] theorem removeJobs_bus (m : Job → Bool) : (s.removeJobs m).bus = s.bus := rfl
@[simp] theorem removeJobs_smap (m : Job → Bool) : (s.removeJobs m).smap = s.smap := rfl
@[simp] theorem removeJobs_retained (m : Job → Bool) : (s.removeJobs m).retained = s.retained := rfl
@[simp] theorem removeJobs_clu (m : Job → Bool) : (s.removeJobs m).clu = s.clu := rfl
@[simp] theorem removeJobs_fct (m : Job → Bool) : (s.removeJobs m).fct = s.fct := rfl
@[simp] theorem removeJobs_cnu (m : Job → Bool) : (s.removeJobs m).cnu = s.cnu := rfl
@[simp] theorem removeJobs_adu (m : Job → Bool) : (s.removeJobs m).adu = s.adu := rfl
@[simp] theorem removeJobs_pins (m : Job → Bool) : (s.removeJobs m).pins = s.pins := rfl

@[simp] theorem putDest_power (o : Nat) (d : Option BayAddr) : (s.putDest o d).power = s.power := rfl
@[simp] theorem putDest_tick (o : Nat) (d : Option BayAddr) : (s.putDest o d).tick = s.tick := rfl
@[simp] theorem putDest_cfg (o : Nat) (d : Option BayAddr) : (s.putDest o d).cfg = s.cfg := rfl
@[simp] theorem putDest_stc (o : Nat) (d : Option BayAddr) : (s.putDest o d).stc = s.stc := rfl
@[simp] theorem putDest_bus (o : Nat) (d : Option BayAddr) : (s.putDest o d).bus = s.bus := rfl
@[simp] theorem putDest_smap (o : Nat) (d : Option BayAddr) : (s.putDest o d).smap = s.smap := rfl
@[simp] theorem putDest_retained (o : Nat) (d : Option BayAddr) : (s.putDest o d).retained = s.retained := rfl
@[simp] theorem putDest_clu (o : Nat) (d : Option BayAddr) : (s.putDest o d).clu = s.clu := rfl
@[simp] theorem putDest_fct (o : Nat) (d : Option BayAddr) : (s.putDest o d).fct = s.fct := rfl
@[simp] theorem putDest_cnu (o : Nat) (d : Option BayAddr) : (s.putDest o d).cnu = s.cnu := rfl
@[simp] theorem putDest_adu (o : Nat) (d : Option BayAddr) : (s.putDest o d).adu = s.adu := rfl
@[simp] theorem putDest_pins (o : Nat) (d : Option BayAddr) : (s.putDest o d).pins = s.pins := rfl

@[simp] theorem moveEnded_power : s.moveEnded.power = s.power := rfl
@[simp] theorem moveEnded_tick : s.moveEnded.tick = s.tick := rfl
@[simp] theorem moveEnded_cfg : s.moveEnded.cfg = s.cfg := rfl
@[simp] theorem moveEnded_stc : s.moveEnded.stc = s.stc := rfl
@[simp] theorem moveEnded_bus : s.moveEnded.bus = s.bus := rfl
@[simp] theorem moveEnded_smap : s.moveEnded.smap = s.smap := rfl
@[simp] theorem moveEnded_retained : s.moveEnded.retained = s.retained := rfl
@[simp] theorem moveEnded_clu : s.moveEnded.clu = s.clu := rfl
@[simp] theorem moveEnded_fct : s.moveEnded.fct = s.fct := rfl
@[simp] theorem moveEnded_cnu : s.moveEnded.cnu = s.cnu := rfl
@[simp] theorem moveEnded_adu : s.moveEnded.adu = s.adu := rfl
@[simp] theorem moveEnded_pins : s.moveEnded.pins = s.pins := rfl

@[simp] theorem giveMove_power (d : Dir) (n c : Nat) (t : Option Nat) : (s.giveMove d n c t).power = s.power := rfl
@[simp] theorem giveMove_tick (d : Dir) (n c : Nat) (t : Option Nat) : (s.giveMove d n c t).tick = s.tick := rfl
@[simp] theorem giveMove_cfg (d : Dir) (n c : Nat) (t : Option Nat) : (s.giveMove d n c t).cfg = s.cfg := rfl
@[simp] theorem giveMove_stc (d : Dir) (n c : Nat) (t : Option Nat) : (s.giveMove d n c t).stc = s.stc := rfl
@[simp] theorem giveMove_bus (d : Dir) (n c : Nat) (t : Option Nat) : (s.giveMove d n c t).bus = s.bus := rfl
@[simp] theorem giveMove_smap (d : Dir) (n c : Nat) (t : Option Nat) : (s.giveMove d n c t).smap = s.smap := rfl
@[simp] theorem giveMove_retained (d : Dir) (n c : Nat) (t : Option Nat) : (s.giveMove d n c t).retained = s.retained := rfl
@[simp] theorem giveMove_clu (d : Dir) (n c : Nat) (t : Option Nat) : (s.giveMove d n c t).clu = s.clu := rfl
@[simp] theorem giveMove_fct (d : Dir) (n c : Nat) (t : Option Nat) : (s.giveMove d n c t).fct = s.fct := rfl
@[simp] theorem giveMove_cnu (d : Dir) (n c : Nat) (t : Option Nat) : (s.giveMove d n c t).cnu = s.cnu := rfl
@[simp] theorem giveMove_adu (d : Dir) (n c : Nat) (t : Option Nat) : (s.giveMove d n c t).adu = s.adu := rfl

@[simp] theorem handBack_power : s.handBack.power = s.power := rfl
@[simp] theorem handBack_tick : s.handBack.tick = s.tick := rfl
@[simp] theorem handBack_cfg : s.handBack.cfg = s.cfg := rfl
@[simp] theorem handBack_stc : s.handBack.stc = s.stc := rfl
@[simp] theorem handBack_bus : s.handBack.bus = s.bus := rfl
@[simp] theorem handBack_smap : s.handBack.smap = s.smap := rfl
@[simp] theorem handBack_retained : s.handBack.retained = s.retained := rfl
@[simp] theorem handBack_clu : s.handBack.clu = s.clu := rfl
@[simp] theorem handBack_mpl : s.handBack.mpl = s.mpl := rfl
@[simp] theorem handBack_cnu : s.handBack.cnu = s.cnu := rfl
@[simp] theorem handBack_adu : s.handBack.adu = s.adu := rfl
@[simp] theorem handBack_pins : s.handBack.pins = s.pins := rfl

@[simp] theorem putCycle_power (c : Cycle) : (s.putCycle c).power = s.power := rfl
@[simp] theorem putCycle_tick (c : Cycle) : (s.putCycle c).tick = s.tick := rfl
@[simp] theorem putCycle_cfg (c : Cycle) : (s.putCycle c).cfg = s.cfg := rfl
@[simp] theorem putCycle_stc (c : Cycle) : (s.putCycle c).stc = s.stc := rfl
@[simp] theorem putCycle_bus (c : Cycle) : (s.putCycle c).bus = s.bus := rfl
@[simp] theorem putCycle_smap (c : Cycle) : (s.putCycle c).smap = s.smap := rfl
@[simp] theorem putCycle_retained (c : Cycle) : (s.putCycle c).retained = s.retained := rfl
@[simp] theorem putCycle_clu (c : Cycle) : (s.putCycle c).clu = s.clu := rfl
@[simp] theorem putCycle_mpl (c : Cycle) : (s.putCycle c).mpl = s.mpl := rfl
@[simp] theorem putCycle_cnu (c : Cycle) : (s.putCycle c).cnu = s.cnu := rfl
@[simp] theorem putCycle_adu (c : Cycle) : (s.putCycle c).adu = s.adu := rfl
@[simp] theorem putCycle_pins (c : Cycle) : (s.putCycle c).pins = s.pins := rfl

@[simp] theorem giveLane_power (l : Lane) : (s.giveLane l).power = s.power := rfl
@[simp] theorem giveLane_tick (l : Lane) : (s.giveLane l).tick = s.tick := rfl
@[simp] theorem giveLane_cfg (l : Lane) : (s.giveLane l).cfg = s.cfg := rfl
@[simp] theorem giveLane_stc (l : Lane) : (s.giveLane l).stc = s.stc := rfl
@[simp] theorem giveLane_bus (l : Lane) : (s.giveLane l).bus = s.bus := rfl
@[simp] theorem giveLane_smap (l : Lane) : (s.giveLane l).smap = s.smap := rfl
@[simp] theorem giveLane_retained (l : Lane) : (s.giveLane l).retained = s.retained := rfl
@[simp] theorem giveLane_clu (l : Lane) : (s.giveLane l).clu = s.clu := rfl
@[simp] theorem giveLane_mpl (l : Lane) : (s.giveLane l).mpl = s.mpl := rfl
@[simp] theorem giveLane_cnu (l : Lane) : (s.giveLane l).cnu = s.cnu := rfl
@[simp] theorem giveLane_adu (l : Lane) : (s.giveLane l).adu = s.adu := rfl

@[simp] theorem laneIdle_power : s.laneIdle.power = s.power := rfl
@[simp] theorem laneIdle_tick : s.laneIdle.tick = s.tick := rfl
@[simp] theorem laneIdle_cfg : s.laneIdle.cfg = s.cfg := rfl
@[simp] theorem laneIdle_stc : s.laneIdle.stc = s.stc := rfl
@[simp] theorem laneIdle_bus : s.laneIdle.bus = s.bus := rfl
@[simp] theorem laneIdle_smap : s.laneIdle.smap = s.smap := rfl
@[simp] theorem laneIdle_retained : s.laneIdle.retained = s.retained := rfl
@[simp] theorem laneIdle_clu : s.laneIdle.clu = s.clu := rfl
@[simp] theorem laneIdle_mpl : s.laneIdle.mpl = s.mpl := rfl
@[simp] theorem laneIdle_cnu : s.laneIdle.cnu = s.cnu := rfl
@[simp] theorem laneIdle_adu : s.laneIdle.adu = s.adu := rfl

@[simp] theorem read_power (a : BayAddr) (p : Option Purpose) : (s.read a p).power = s.power := rfl
@[simp] theorem read_tick (a : BayAddr) (p : Option Purpose) : (s.read a p).tick = s.tick := rfl
@[simp] theorem read_cfg (a : BayAddr) (p : Option Purpose) : (s.read a p).cfg = s.cfg := rfl
@[simp] theorem read_stc (a : BayAddr) (p : Option Purpose) : (s.read a p).stc = s.stc := rfl
@[simp] theorem read_bus (a : BayAddr) (p : Option Purpose) : (s.read a p).bus = s.bus := rfl
@[simp] theorem read_smap (a : BayAddr) (p : Option Purpose) : (s.read a p).smap = s.smap := rfl
@[simp] theorem read_retained (a : BayAddr) (p : Option Purpose) : (s.read a p).retained = s.retained := rfl
@[simp] theorem read_clu (a : BayAddr) (p : Option Purpose) : (s.read a p).clu = s.clu := rfl
@[simp] theorem read_mpl (a : BayAddr) (p : Option Purpose) : (s.read a p).mpl = s.mpl := rfl
@[simp] theorem read_cnu (a : BayAddr) (p : Option Purpose) : (s.read a p).cnu = s.cnu := rfl
@[simp] theorem read_adu (a : BayAddr) (p : Option Purpose) : (s.read a p).adu = s.adu := rfl

@[simp] theorem giveCycle_power (k : CycleKind) (a : BayAddr) : (s.giveCycle k a).power = s.power := rfl
@[simp] theorem giveCycle_tick (k : CycleKind) (a : BayAddr) : (s.giveCycle k a).tick = s.tick := rfl
@[simp] theorem giveCycle_cfg (k : CycleKind) (a : BayAddr) : (s.giveCycle k a).cfg = s.cfg := rfl
@[simp] theorem giveCycle_stc (k : CycleKind) (a : BayAddr) : (s.giveCycle k a).stc = s.stc := rfl
@[simp] theorem giveCycle_bus (k : CycleKind) (a : BayAddr) : (s.giveCycle k a).bus = s.bus := rfl
@[simp] theorem giveCycle_smap (k : CycleKind) (a : BayAddr) : (s.giveCycle k a).smap = s.smap := rfl
@[simp] theorem giveCycle_retained (k : CycleKind) (a : BayAddr) : (s.giveCycle k a).retained = s.retained := rfl
@[simp] theorem giveCycle_clu (k : CycleKind) (a : BayAddr) : (s.giveCycle k a).clu = s.clu := rfl
@[simp] theorem giveCycle_mpl (k : CycleKind) (a : BayAddr) : (s.giveCycle k a).mpl = s.mpl := rfl
@[simp] theorem giveCycle_cnu (k : CycleKind) (a : BayAddr) : (s.giveCycle k a).cnu = s.cnu := rfl
@[simp] theorem giveCycle_adu (k : CycleKind) (a : BayAddr) : (s.giveCycle k a).adu = s.adu := rfl

@[simp] theorem giveMove_drive (d : Dir) (n c : Nat) (t : Option Nat) : (s.giveMove d n c t).pins.drive = .move d n := rfl
@[simp] theorem giveMove_lastDir (d : Dir) (n c : Nat) (t : Option Nat) : (s.giveMove d n c t).mpl.lastDir = d := rfl
@[simp] theorem giveMove_held (d : Dir) (n c : Nat) (t : Option Nat) : (s.giveMove d n c t).mpl.held = none := rfl
@[simp] theorem giveLane_lane (l : Lane) : (s.giveLane l).fct.lane = l := rfl
@[simp] theorem giveLane_started (l : Lane) : (s.giveLane l).fct.laneStarted = s.tick := rfl
@[simp] theorem laneIdle_lane : s.laneIdle.fct.lane = .idle := rfl
@[simp] theorem handBack_task : s.handBack.fct.task = none := rfl
@[simp] theorem moveEnded_move : s.moveEnded.mpl.move = none := rfl
@[simp] theorem moveEnded_lastInPos : s.moveEnded.mpl.lastInPos = some s.tick := rfl
@[simp] theorem dropHead_rxq : s.dropHead.bus.rxq = s.bus.rxq.tail := rfl
@[simp] theorem appendFrame_rxq (f : Frame) (n : Role) : (s.appendFrame f n).bus.rxq = s.bus.rxq ++ [f] := rfl
@[simp] theorem appendFrame_gap (f : Frame) (n : Role) : (s.appendFrame f n).bus.gap = .afterFrame := rfl
@[simp] theorem appendFrame_drive (f : Frame) (n : Role) : (s.appendFrame f n).bus.drive = [] := rfl
@[simp] theorem appendFrame_acked_receiver (f : Frame) : (s.appendFrame f .receiver).bus.acked = true := rfl
@[simp] theorem appendFrame_acked_transmitter (f : Frame) : (s.appendFrame f .transmitter).bus.acked = false := rfl
@[simp] theorem beginFrame_sending (p : Post) : (s.beginFrame p).bus.sending = some p.handle := rfl
@[simp] theorem beginFrame_drive (p : Post) : (s.beginFrame p).bus.drive = p.frame.bits := rfl

/-- What the face being free says (R130). -/
theorem faceFree_iff :
    s.faceFree = true ↔ s.mpl.move = none ∧ s.fct.cycle = none ∧ s.fct.gauge = none := by
  simp [Station.faceFree, and_assoc]

/-- What it says that no task is at the face, in a move or held (R125). -/
theorem taskFree_iff :
    s.taskFree = true ↔ s.faceFree = true ∧ s.fct.task = none ∧ s.mpl.held = none := by
  simp [Station.taskFree, and_assoc]

/-- When and how an accepted RESUME gives its move (R125, R193). -/
theorem resumeMove_eq :
    s.resumeMove = if s.stc.mode = .halted ∧ s.stc.resume = true ∧ s.stc.hold = .none ∧ s.taskFree = true
      then s.beginHomeCheck else s := by
  simp [Station.resumeMove, and_assoc]

/-! ### Errors counted -/

/-- Errors that leave the standing as it is change the counters alone (R67, R68). -/
theorem countErrors_of_standing (tec recCtr : Nat) (w : s.bus.standing ≠ .withdrawn)
    (h : s.bus.standingAfter tec recCtr = s.bus.standing) :
    s.countErrors tec recCtr =
      { s with bus := { s.bus with tec := s.bus.tec + tec, recCtr := min 255 (s.bus.recCtr + recCtr) } } := by
  unfold Bus.standingAfter at h
  simp [Station.countErrors, Station.setCounters, w, h]

/-- An error signal and the count of its error: where the standing stays, the signal with what it leaves, and the
counters (R65 to R68). -/
theorem signalError_of_standing (role : Role) (e : BusError) (tec recCtr : Nat) (w : s.bus.standing ≠ .withdrawn)
    (h : s.bus.standingAfter tec recCtr = s.bus.standing) :
    s.signalError role e tec recCtr =
      { s with bus := { s.bus with
          tec := s.bus.tec + tec, recCtr := min 255 (s.bus.recCtr + recCtr), sending := none
          errorWait := some { role := role, active := s.bus.standing.bids }, delayCount := 0, gap := .afterError
          acked := decide (role = Role.receiver) && afterSlot e, drive := errorSignal s.bus.standing.bids
          skip := if role = Role.transmitter then s.bus.standing.skipped else 0 } } := by
  unfold Bus.standingAfter at h
  simp [Station.signalError, Station.countErrors, Station.setCounters, Bus.standingAfter, w, h]

/-- A dominant run at the transmitter that leaves the standing as it is: the TEC, and the opportunities it lets pass (R59,
R67, R69). -/
theorem dominantRun_of_standing (w : s.bus.standing ≠ .withdrawn) (h : s.bus.standingAfter 8 0 = s.bus.standing) :
    s.dominantRun .transmitter = { s with bus := { s.bus with
      tec := s.bus.tec + 8, recCtr := min 255 s.bus.recCtr, skip := s.bus.standing.skipped } } := by
  unfold Bus.standingAfter at h
  simp only [Nat.add_zero] at h
  simp [Station.dominantRun, Station.countErrors, Station.setCounters, Bus.standingAfter, w, h]

end Sys2Proof.Machine
end

