-- ==== Sys2Proof/Laws/View.lean ====
section
/-! SUPPORT. What the requests between the blocks leave alone: one lemma for each shared operation says that it keeps
the view of Safety.lean, and `settle_view` says so of all that follows within an event. -/

namespace Sys2Proof.Machine

/-! ### Folds and modified lists -/

theorem foldl_view {α : Type} (f : Station → α → Station) (h : ∀ s x, (f s x).view = s.view) (l : List α) (s : Station) :
    (l.foldl f s).view = s.view := by
  induction l generalizing s with
  | nil => rfl
  | cons x xs ih => rw [List.foldl_cons, ih, h]

theorem map_modify_of_eq {α β : Type} (f : α → β) (g : α → α) (h : ∀ x, f (g x) = f x) (l : List α) (i : Nat) :
    (l.modify i g).map f = l.map f := by
  induction l generalizing i with
  | nil => simp
  | cons x xs ih => cases i <;> simp [h, ih]

theorem map_map_of_eq {α β : Type} (f : α → β) (g : α → α) (h : ∀ x, f (g x) = f x) (l : List α) :
    (l.map g).map f = l.map f := by simp [Function.comp_def, h]

/-! ### Stock Map and Lock Table -/

theorem updCarrier_view (s : Station) (c : Nat) (f : Carrier → Carrier) (h : ∀ k, (f k).stock = k.stock) :
    (s.updCarrier c f).view = s.view := by
  have hs : (s.updCarrier c f).smap.carriers.map Carrier.stock = s.smap.carriers.map Carrier.stock := by
    refine map_modify_of_eq _ _ (fun k => ?_) _ _
    dsimp only
    split
    · exact h k
    · exact h k
  simp only [Station.view, hs]
  rfl

@[simp] theorem recompute_view (s : Station) (c : Nat) : (s.recompute c).view = s.view := by
  have hs : (s.recompute c).smap.carriers.map Carrier.stock = s.smap.carriers.map Carrier.stock := by
    refine map_modify_of_eq _ _ ?_ _ _
    intro k; rfl
  simp only [Station.view, hs]
  rfl

@[simp] theorem putArticle_view (s : Station) (i : Nat) (e : Option Article) : (s.putArticle i e).view = s.view := rfl

@[simp] theorem testArticle_view (s : Station) (code : Nat) : (s.testArticle code).view = s.view := by
  unfold Station.testArticle
  split
  · rfl
  · split <;> rfl

@[simp] theorem createArticle_view (s : Station) (a : Article) : (s.createArticle a).view = s.view := by
  unfold Station.createArticle
  split <;> rfl

theorem dropIdle_stock (bays : List Bay) :
    (dropIdle bays).map (fun b => (b.count, b.reserved)) = bays.map (fun b => (b.count, b.reserved)) := by
  unfold dropIdle
  split
  · refine map_map_of_eq _ _ ?_ _
    intro b; rfl
  · rfl

theorem changeBay_view (s : Station) (a : BayAddr) (f : Bay → Bay)
    (h : ∀ b, (f b).count = b.count ∧ (f b).reserved = b.reserved) : (s.changeBay a f).view = s.view := by
  unfold Station.changeBay
  rw [foldl_view _ (fun t code => testArticle_view t code), recompute_view, updCarrier_view]
  intro k
  simp only [Carrier.stock, dropIdle_stock]
  rw [map_modify_of_eq _ _ (fun b => by simp [(h b).1, (h b).2])]

@[simp] theorem expect_view (s : Station) (addr : BayAddr) (week qty : Nat) (a : Article) :
    (s.expect addr week qty a).2.view = s.view := by
  unfold Station.expect
  dsimp only
  split
  · rfl
  · split
    · rfl
    · split
      · rfl
      · split
        · refine (changeBay_view _ _ _ ?_).trans ?_
          · intro b; exact ⟨rfl, rfl⟩
          · split
            · exact createArticle_view _ _
            · rfl
        · rfl

@[simp] theorem unexpect_view (s : Station) (a : BayAddr) (q : Nat) : (s.unexpect a q).view = s.view := by
  unfold Station.unexpect
  split
  · exact changeBay_view _ _ _ (fun _ => ⟨rfl, rfl⟩)
  · rfl

@[simp] theorem putAudit_view (s : Station) (c : Nat) (v : Bool) : (s.putReason c .audit v).view = s.view :=
  updCarrier_view _ _ _ (fun _ => rfl)

@[simp] theorem putTouched_view (s : Station) (c : Nat) (v : Bool) : (s.putReason c .touched v).view = s.view :=
  updCarrier_view _ _ _ (fun _ => rfl)

@[simp] theorem touch_view (s : Station) (c : Nat) : (s.touch c).view = s.view := by
  unfold Station.touch
  dsimp only
  split
  · split
    · exact putTouched_view s c true
    · exact putTouched_view s c true
  · exact putTouched_view s c true

@[simp] theorem setRescan_view (s : Station) (c : Nat) (p : Option Purpose) : (s.setRescan c p).view = s.view :=
  updCarrier_view _ _ _ (fun _ => rfl)

/-! ### Records, orders, groups -/

theorem updRecord_view (s : Station) (n : Nat) (f : LineRec → LineRec) (h : ∀ r, (f r).kept = r.kept) :
    (s.updRecord n f).view = s.view := by
  have hs : (s.updRecord n f).clu.records.map LineRec.kept = s.clu.records.map LineRec.kept := by
    refine map_map_of_eq _ _ ?_ _
    intro r
    split <;> simp [h]
  simp only [Station.view, hs]
  rfl

theorem updPick_view (s : Station) (n : Nat) (f : PickBody → PickBody) (h : ∀ b, (f b).state = b.state ∧ (f b).order = b.order ∧ (f b).line = b.line) :
    (s.updPick n f).view = s.view := by
  refine updRecord_view _ _ _ (fun r => ?_)
  unfold LineRec.mapPick LineRec.kept LineRec.round LineRec.reported
  rcases r with ⟨serial, article, qty, bid, body⟩
  cases body <;> simp [h]

theorem updPut_view (s : Station) (n : Nat) (f : PutBody → PutBody)
    (h : ∀ b, (f b).state = b.state ∧ (f b).arrived = b.arrived ∧ (f b).number = b.number) : (s.updPut n f).view = s.view := by
  refine updRecord_view _ _ _ (fun r => ?_)
  unfold LineRec.mapPut LineRec.kept LineRec.round LineRec.reported
  rcases r with ⟨serial, article, qty, bid, body⟩
  cases body <;> simp [h]

theorem updGroup_view (s : Station) (o : Nat) (f : Group → Group) (h : ∀ g, (f g).kept = g.kept) :
    (s.updGroup o f).view = s.view := by
  have hs : (s.updGroup o f).cnu.groups.map Group.kept = s.cnu.groups.map Group.kept := by
    refine map_map_of_eq _ _ ?_ _
    intro g
    split <;> simp [h]
  simp only [Station.view, hs]
  rfl

@[simp] theorem setOwedReadies_view (s : Station) (l : List Nat) : (s.setOwedReadies l).view = s.view := rfl

/-! ### Posts -/

@[simp] theorem addPost_view (s : Station) (k : Kind) (key : Key) (p : List Byte) : (s.addPost k key p).view = s.view := rfl

@[simp] theorem oweKind_view (s : Station) (k : Kind) : (s.oweKind k).view = s.view := by
  unfold Station.oweKind
  split <;> rfl

@[simp] theorem post_view (s : Station) (k : Kind) (p : List Byte) : (s.post k p).2.view = s.view := by
  unfold Station.post
  split
  · rfl
  · exact oweKind_view s k

/-- A pair whose second part is a station with the view of `s`. -/
theorem post_view_of_eq {s t : Station} {k : Kind} {p : List Byte} {h : Option Nat} (e : s.post k p = (h, t)) :
    t.view = s.view := by
  have := post_view s k p
  rwa [e] at this

@[simp] theorem statusTrigger_view (s : Station) : s.statusTrigger.view = s.view := by
  unfold Station.statusTrigger
  split
  · rfl
  · split
    · rename_i h; exact post_view_of_eq h
    · rename_i u h
      have hv : u.view = s.view := post_view_of_eq h
      exact hv

@[simp] theorem nonHaltingFault_view (s : Station) (f : StationFault) : (s.nonHaltingFault f).view = s.view := by
  unfold Station.nonHaltingFault
  rw [statusTrigger_view]
  rfl

@[simp] theorem readyPosted_view (s : Station) (n o h : Nat) : (s.readyPosted n o h).view = s.view := by
  unfold Station.readyPosted
  refine (updGroup_view _ _ _ ?_).trans (updPick_view _ _ _ ?_)
  · exact fun _ => rfl
  · exact fun _ => ⟨rfl, rfl, rfl⟩

@[simp] theorem postReady_view (s : Station) (n : Nat) : (s.postReady n).view = s.view := by
  unfold Station.postReady
  split
  · rfl
  · split
    · split
      · rename_i h
        rw [readyPosted_view, post_view_of_eq h]
      · rename_i h
        refine (setOwedReadies_view _ _).trans ((updPick_view _ _ _ ?_).trans (post_view_of_eq h))
        exact fun _ => ⟨rfl, rfl, rfl⟩
    · rfl

@[simp] theorem postReadies_view (s : Station) : s.postReadies.view = s.view :=
  foldl_view _ (fun t n => postReady_view t n) _ _

/-! ### Tasks -/

@[simp] theorem removeTask_view (s : Station) (id : Nat) : (s.removeTask id).view = s.view := rfl

@[simp] theorem addTask_view (s : Station) (j : Job) : (s.addTask j).view = s.view := by
  cases j
  · rfl
  · rfl
  · rfl
  · exact putAudit_view _ _ _

@[simp] theorem markWant_view (s : Station) (w : ClaimWant) : (s.markWant w).view = s.view := by
  unfold Station.markWant
  split
  · exact updPick_view _ _ _ (fun _ => ⟨rfl, rfl, rfl⟩)
  · exact updPut_view _ _ _ (fun _ => ⟨rfl, rfl, rfl⟩)

/-! ### Putback -/

@[simp] theorem tryDest_view (s : Station) (t : Tyre) : (s.tryDest t).2.view = s.view := by
  unfold Station.tryDest
  split
  · rfl
  · rename_i d _
    have hv := expect_view s d t.week 1 (s.tyreArticle t)
    split
    · rename_i h; rw [h] at hv; exact hv
    · rename_i h; rw [h] at hv; exact hv

@[simp] theorem expectDest_view (s : Station) (t : Tyre) : (s.expectDest t).2.view = s.view := by
  have hv := tryDest_view s t
  unfold Station.expectDest
  split
  · rename_i h; rw [h] at hv; exact hv
  · rename_i h; rw [h] at hv; rw [tryDest_view]; exact hv

theorem expectDest_view_of_eq {s u : Station} {t : Tyre} {d : Option BayAddr} (e : s.expectDest t = (d, u)) :
    u.view = s.view := by
  have := expectDest_view s t
  rwa [e] at this

@[simp] theorem markStuck_view (s : Station) (o : Nat) (d : Option BayAddr) : (s.markStuck o d).view = s.view := by
  unfold Station.markStuck
  split
  · exact updGroup_view _ _ _ (fun _ => rfl)
  · split
    · rfl
    · refine (nonHaltingFault_view _ _).trans (updGroup_view _ _ _ ?_)
      exact fun _ => rfl

@[simp] theorem askPutback_view (s : Station) (o : Nat) (d : Option BayAddr) : (s.askPutback o d).view = s.view := by
  unfold Station.askPutback
  dsimp only
  split
  · refine (updGroup_view _ _ _ ?_).trans ((addTask_view _ _).trans (markStuck_view _ _ _))
    exact fun _ => rfl
  · refine (updGroup_view _ _ _ ?_).trans (markStuck_view _ _ _)
    exact fun _ => rfl

@[simp] theorem startPutback_view (s : Station) : s.startPutback.view = s.view := by
  unfold Station.startPutback
  split
  · rfl
  · split
    · rfl
    · split
      · simp
      · rfl

@[simp] theorem servePutback_view (s : Station) : s.servePutback.view = s.view := by
  unfold Station.servePutback
  split
  · rfl
  · split
    · rfl
    · split
      · dsimp only
        rw [askPutback_view, expectDest_view]
        split
        · exact unexpect_view _ _ _
        · rfl
      · rfl

@[simp] theorem putDest_view (s : Station) (o : Nat) (d : Option BayAddr) : (s.putDest o d).view = s.view := rfl

@[simp] theorem rechooseStuck_view (s : Station) : s.rechooseStuck.view = s.view := by
  unfold Station.rechooseStuck
  split
  · rfl
  · split
    · rfl
    · split
      · rfl
      · rename_i h
        have hv := expectDest_view_of_eq h
        dsimp only
        split
        · rw [putDest_view, markStuck_view, hv]
        · refine (updGroup_view _ _ _ ?_).trans ((markStuck_view _ _ _).trans hv)
          exact fun _ => rfl

@[simp] theorem blockedPutback_view (s : Station) (o : Nat) (d : BayAddr) : (s.blockedPutback o d).view = s.view := by
  unfold Station.blockedPutback
  split
  · rfl
  · simp

/-! ### The planner -/

@[simp] theorem giveMove_view (s : Station) (d : Dir) (n c : Nat) (t : Option Nat) : (s.giveMove d n c t).view = s.view :=
  rfl

@[simp] theorem atTarget_view (s : Station) (t : Task) : (s.atTarget t).view = s.view := by
  unfold Station.atTarget
  split <;> rfl

@[simp] theorem startTask_view (s : Station) (t : Task) : (s.startTask t).view = s.view := by
  unfold Station.startTask
  dsimp only
  split
  · exact atTarget_view s t
  · split <;> split <;> rfl

@[simp] theorem raisePassed_view (s : Station) (id : Nat) : (s.raisePassed id).view = s.view := rfl

@[simp] theorem decision_view (s : Station) : s.decision.view = s.view := by
  unfold Station.decision
  split
  · dsimp only
    rw [foldl_view Station.reportBlocked (fun t x => blockedPutback_view t x.1 x.2)]
    split
    · rfl
    · rw [startTask_view, raisePassed_view]
  · rfl

@[simp] theorem serveClaims_view (s : Station) (fuel : Nat) : (s.serveClaims fuel).view = s.view := by
  induction fuel generalizing s with
  | zero => rfl
  | succ n ih =>
    unfold Station.serveClaims
    split
    · rfl
    · split
      · rw [ih, decision_view, markWant_view, addTask_view]
      · rfl

@[simp] theorem serveAudit_view (s : Station) (byCarrier : Bool) (fuel : Nat) :
    (s.serveAudit byCarrier fuel).view = s.view := by
  induction fuel generalizing s with
  | zero => rfl
  | succ n ih =>
    unfold Station.serveAudit
    split
    · split
      · rfl
      · rw [ih, decision_view, setRescan_view, addTask_view]
    · rfl

/-! ### The face -/

@[simp] theorem giveLane_view (s : Station) (l : Lane) : (s.giveLane l).view = s.view := rfl

@[simp] theorem handBack_view (s : Station) : s.handBack.view = s.view := rfl

@[simp] theorem endTask_view (s : Station) (id : Nat) : (s.endTask id).view = s.view := rfl

@[simp] theorem read_view (s : Station) (a : BayAddr) (p : Option Purpose) : (s.read a p).view = s.view := rfl

@[simp] theorem giveCycle_view (s : Station) (k : CycleKind) (a : BayAddr) : (s.giveCycle k a).view = s.view := rfl

theorem stage_view (s : Station) (g : Stage) : ({ s with fct := { s.fct with stage := g } } : Station).view = s.view := rfl

@[simp] theorem stow_view (s : Station) : s.stow.view = s.view := by
  unfold Station.stow
  split <;> rfl

@[simp] theorem pickStep_view (s : Station) (t : Task) (p : PickStop) : (s.pickStep t p).view = s.view := by
  unfold Station.pickStep
  split_ifs
  · rfl
  · rfl
  · rfl
  · rfl
  · exact (stage_view s.stow .stray).trans (stow_view s)
  · rfl
  · rfl

@[simp] theorem loadStep_view (s : Station) (t : Task) (n : Nat) (a : BayAddr) : (s.loadStep t n a).view = s.view := by
  unfold Station.loadStep
  split_ifs <;> rfl

@[simp] theorem putbackStep_view (s : Station) (t : Task) (d : Option BayAddr) : (s.putbackStep t d).view = s.view := by
  unfold Station.putbackStep
  split
  · split_ifs <;> rfl
  · split_ifs <;> rfl

@[simp] theorem scanStep_view (s : Station) (t : Task) (c : Nat) (p : Purpose) : (s.scanStep t c p).view = s.view := by
  unfold Station.scanStep
  split
  · rfl
  · rw [read_view]
    exact updCarrier_view s c (fun k => { k with due := .none }) (fun _ => rfl)

@[simp] theorem faceCheck_view (s : Station) (t : Task) : (s.faceCheck t).view = s.view := by
  unfold Station.faceCheck
  split
  · exact pickStep_view _ _ _
  · exact loadStep_view _ _ _ _
  · exact putbackStep_view _ _ _
  · exact scanStep_view _ _ _ _

@[simp] theorem faceAdvance_view (s : Station) : s.faceAdvance.view = s.view := by
  unfold Station.faceAdvance
  split
  · rfl
  · split
    · exact faceCheck_view _ _
    · rfl
    · split
      · exact faceCheck_view _ _
      · rfl
    · split
      · exact faceCheck_view _ _
      · rfl
    · split
      · exact faceCheck_view _ _
      · rfl
    · split <;> rfl

@[simp] theorem beginRelease_view (s : Station) : s.beginRelease.view = s.view := by
  unfold Station.beginRelease
  split_ifs <;> rfl

@[simp] theorem beginSweep_view (s : Station) : s.beginSweep.view = s.view := by
  unfold Station.beginSweep
  split <;> rfl

/-! ### The settling of an event -/

@[simp] theorem resumeMove_view (s : Station) : s.resumeMove.view = s.view := by
  unfold Station.resumeMove
  split <;> rfl

@[simp] theorem acknowledge_view (s : Station) : s.acknowledge.view = s.view := by
  unfold Station.acknowledge
  split
  · dsimp only
    split
    · rw [touch_view]; rfl
    · rfl
  · rfl

@[simp] theorem decideAfter_view (s before : Station) : (s.decideAfter before).view = s.view := by
  unfold Station.decideAfter
  split
  · exact decision_view s
  · rfl

@[simp] theorem beginPutback_view (s : Station) : s.beginPutback.view = s.view := by
  unfold Station.beginPutback
  rw [decideAfter_view, startPutback_view]

@[simp] theorem serveLane_view (s old : Station) : (s.serveLane old).view = s.view := by
  unfold Station.serveLane
  dsimp only
  rw [decideAfter_view, servePutback_view]
  split <;> simp

@[simp] theorem serveTasks_view (s old : Station) : (s.serveTasks old).view = s.view := by simp [Station.serveTasks]

@[simp] theorem serveDrive_view (s old : Station) : (s.serveDrive old).view = s.view := by
  unfold Station.serveDrive
  dsimp only
  split <;> simp

@[simp] theorem settleRound_view (s old : Station) : (s.settleRound old).view = s.view := by
  unfold Station.settleRound
  dsimp only
  split <;> simp

@[simp] theorem settleRounds_view (fuel : Nat) (old s : Station) : (settleRounds fuel old s).view = s.view := by
  induction fuel generalizing old s with
  | zero => rfl
  | succ n ih =>
    rw [settleRounds]
    split
    · rfl
    · rw [ih, settleRound_view]

/-- What follows within an event leaves the view of the station as the event's own change made it. -/
@[simp] theorem settle_view (s old : Station) : (s.settle old).view = s.view := by
  unfold Station.settle
  split
  · exact (rfl : (settleRounds 16 old s).idleTimer.view = (settleRounds 16 old s).view).trans (settleRounds_view 16 old s)
  · rfl

end Sys2Proof.Machine
end

