-- ==== Sys2Proof/Tests/Slice0.lean ====
section
/-! SUPPORT. Tests: the smoke test of the well-formedness checks, the worked examples of the spec, one step of commands on a
small station, and for each statement with hypotheses a witness that meets them. -/

namespace Sys2Proof.Tests

open Machine

-- One theorem at a time: each waits for the kernel, and so many waiting together take too much memory.
set_option Elab.async false

/-! ### Well-formedness: one ill-formed term for each check -/

theorem test_wf_frame_too_short : (Instr.frameCompleted (List.replicate 44 true)).wellFormed = false := by decide +kernel
theorem test_wf_frame_too_long : (Instr.frameCompleted (List.replicate 170 true)).wellFormed = false := by decide +kernel
theorem test_wf_rejoin_empty : (Instr.rejoin []).wellFormed = false := by decide +kernel
theorem test_wf_order_zero : (Instr.claimWindowExpiry (.pick 0 1)).wellFormed = false := by decide +kernel
theorem test_wf_line_zero : (Instr.claimWindowExpiry (.pick 1 0)).wellFormed = false := by decide +kernel
theorem test_wf_line_17 : (Instr.claimWindowExpiry (.pick 1 17)).wellFormed = false := by decide +kernel
theorem test_wf_round_zero : (Instr.claimWindowExpiry (.putaway 0)).wellFormed = false := by decide +kernel
theorem test_wf_putaway_65536 : (Instr.infeedTimeout 65536).wellFormed = false := by decide +kernel
theorem test_wf_hold_order_zero : (Instr.holdTimerExpiry 0).wellFormed = false := by decide +kernel
theorem test_wf_carrier_96 : (Instr.retainedWriteComplete (.carrier 96)).wellFormed = false := by decide +kernel
theorem test_wf_slot_64 : (Instr.retainedWriteComplete (.article 64)).wellFormed = false := by decide +kernel
theorem test_wf_payload_13 : Frame.ok { kind := 1, key := 1, payload := List.replicate 13 0 } = false := by decide +kernel
theorem test_wf_accepts :
    (Instr.frameCompleted (List.replicate 45 true)).wellFormed = true ∧ (Instr.rejoin [0]).wellFormed = true
      ∧ (Instr.claimWindowExpiry (.pick 65535 16)).wellFormed = true ∧ (Instr.infeedTimeout 1).wellFormed = true
      ∧ (Instr.retainedWriteComplete (.carrier 95)).wellFormed = true := by
  decide +kernel

/-! ### Worked examples of the spec -/

/-- R174, the table for pitch 215. -/
theorem test_estimate_215 :
    (estimate 862 215, sureReading 862 215 15) = (4, true) ∧ (estimate 960 215, sureReading 960 215 15) = (4, false)
      ∧ (estimate 1060 215, sureReading 1060 215 15) = (5, true) ∧ (estimate 0 215, sureReading 0 215 15) = (0, true) := by
  decide +kernel

/-- R68: the standing at TEC 72, 80, 120, 128, 248 and 256. -/
theorem test_standings :
    [72, 80, 120, 128, 248, 256].map (fun t => standingOf t 0)
      = [.active, .caution, .caution, .quiet, .quiet, .withdrawn] := by decide +kernel

/-- R47: the largest travel figure within the ranges is 240. -/
theorem test_travel_figure : travelFigure 48 24 = 240 ∧ travelFigure 48 30 = 255 := by decide +kernel

/-! ### A small station -/

/-- Station 7 with 16 carriers of 2 bays. -/
def cfg : Config :=
  { Config.atReset with
    station := 7, n := 16, b := 2, h := 1200, ka := 4, kt := 2, kb := 3, limit := 1200, tau := 1, claimWindow := 20
    holdLimit := 20, pitchTime := 600, motionMargin := 2000, extensionMax := 1500, idleDelay := 30 }

def tyre : Article := { code := 100, unitMass := 110, pitch := 215 }

def bay (week count reserved incoming : Nat) : Bay :=
  { Bay.empty with
    binding := some { article := 100, week := week }, count := count, reserved := reserved, incoming := incoming }

def shelf (bays : List Bay) (mass : Nat) : Carrier where
  bays := bays
  locks := LockSet.empty
  faults := 0
  due := .none
  mass := mass
  rescan := none
  write := .idle

/-- Carrier 3 holds 4 tyres of week 1262, one of them reserved; carrier 4 expects 2 of week 1270 and holds 1. -/
def carriers : List Carrier :=
  ((List.replicate 16 (shelf [Bay.empty, Bay.empty] 0)).set 3 (shelf [bay 1262 4 1 0, Bay.empty] 330)).set 4
    (shelf [Bay.empty, bay 1270 1 0 2] 330)

/-- A station in RUNNING that has joined the bus, at 100 s of its tick. -/
def live : Station :=
  { Station.atStart .on Retained.blank Pins.quiet with
    tick := 100000
    cfg := cfg
    stc := { Stc.atStart with mode := .running, start := .done, homed := true, storeWeek := 1300 }
    bus := { Bus.atStart with joined := true, ready := true }
    smap := { Smap.atStart with
      carriers := carriers, articles := some tyre :: List.replicate 63 none, imbalance := 660 }
    mpl := { Mpl.atStart with p := some 2, lastInPos := some 99000 }
    pins := { Pins.quiet with laneClear := true } }

/-- A frame of the order source 50, but for the sender given, at the head of the receive queue. -/
def note (kind sender : Nat) (payload : List Byte) : Frame where
  kind := BitVec.ofNat 4 kind
  key := BitVec.ofNat 20 sender
  payload := payload

def Hearing (x : Station) (f : Frame) : Station := { x with bus := { x.bus with rxq := [f] } }

def bid : Bid where
  key := 6407
  best := none
  windowStart := 99000
  sent := false
  claim := some 0
  close := none
  expired := false
  closeOwed := false

/-- A pick record of order 5120, line 1, for 1 tyre of bay (3, 0). -/
def pickRec (st : PickState) (b : Bid) : LineRec where
  serial := 0
  article := 100
  qty := 1
  bid := b
  body := .pick {
    order := 5120, line := 1, state := st, sel := [{ carrier := 3, bay := 0, qty := 1, week := 1262, taskMark := false }]
    staged := 0, readyOwed := false, readySent := false }

/-- A putaway record of number 901, for 2 tyres to bay (4, 1). -/
def putRec (st : PutState) (arrived : Nat) (b : Bid) : LineRec where
  serial := 1
  article := 100
  qty := 2
  bid := b
  body := .putaway {
    number := 901, week := 1270, target := { carrier := 4, bay := 1 }, state := st, arrived := arrived, stored := 0
    lastArrival := 90000, loadMark := false }

def holding (rs : List LineRec) : Station := { live with clu := { records := rs, nextSerial := 2, notes := [] } }

/-- A CLM of order 5120, line 1, in the oldest slot. -/
def claimPost (onBus : Bool) : Post where
  handle := 0
  kind := .clm
  key := 6407
  payload := (RoundId.pick 5120 1).bytes
  onBus := onBus

def posting (x : Station) (ps : List Post) : Station := { x with bus := { x.bus with posts := ps, nextHandle := 5 } }

/-- The post table full of posts that are not claims. -/
def noSlot (x : Station) : Station :=
  { x with bus := { x.bus with
      posts := (List.range 12).map (fun i => { handle := i, kind := .sts, key := 7, payload := [1, 0, 8, 0, 0, 0], onBus := false })
      nextHandle := 12 } }

def order (st : OrderState) (ready : List Nat) : OrderEntry where
  order := 5120
  lineCount := 2
  ready := ready
  own := []
  holdStart := none
  holdExpired := false
  state := st
  abandon := none
  abandonOwed := none

def withOrder (x : Station) (e : OrderEntry) : Station := { x with cnu := { x.cnu with orders := [e] } }

def stagedTyre : Tyre where
  serial := some 0
  article := 100
  week := 1262
  unitMass := 110
  pitch := 215
  origin := { carrier := 3, bay := 0 }

def group (st : ReleaseStage) : Group where
  order := 5120
  returning := false
  tyres := [stagedTyre]
  release := st
  putbackMark := false
  putbackWanted := false
  stuck := false
  wantedDest := none
  readyHandles := []

def withGroup (x : Station) (g : Group) : Station := { x with cnu := { x.cnu with groups := [g] } }

def task (job : Job) : Task where
  id := 0
  passed := 0
  removed := false
  job := job

def withTask (x : Station) (job : Job) : Station := { x with mpl := { x.mpl with tasks := [task job], nextTask := 1 } }

def pickStop : Job := .pickStop {
  serial := 0, order := 5120, carrier := 3, bay := 0, qty := 1, article := 100, week := 1262 }

def move (job : Option Nat) (seen : Bool) : Move where
  dir := .forward
  steps := 1
  target := 3
  task := job
  started := 90000
  limit := 2600
  homeSeen := seen

def cycle (kind : CycleKind) (ph : Phase) (extended timedOut : Bool) : Cycle where
  kind := kind
  carrier := 3
  bay := 0
  phase := ph
  started := 90000
  extended := extended
  timedOut := timedOut
  unitMass := 110
  pitch := 215

/-- A task at the face with its cycle. -/
def working (x : Station) (job : Job) (c : Cycle) : Station :=
  { withTask x job with fct := { x.fct with task := some 0, stage := .cycle, cycle := some c } }

/-! ### Worked cases of chapter 3 -/

/-- The masses of the 16-carrier balance case. -/
def balanceCase : List Nat := ((List.replicate 16 0).set 0 440).set 5 190 |>.set 9 660

/-- Chapter 3, the balance case: I = 910, and the three destinations of a putaway of 440. -/
theorem test_balance_case :
    imbalanceOf balanceCase = 910
      ∧ [1, 5, 13].map (fun c => imbalanceOf (balanceCase.modify c (fun w => w + 440))) = [470, 850, 1350] := by
  decide +kernel

/-- Chapter 3, station 7: the key 123,527 and the arbitration field 0x41E287. -/
theorem test_key_station_7 :
    let x := { live with
      cfg := { cfg with n := 40 }
      mpl := { live.mpl with p := some 12, tasks := [task pickStop, task pickStop] } }
    let sel : List SelEntry := [
      { carrier := 33, bay := 0, qty := 1, week := 1262, taskMark := false },
      { carrier := 15, bay := 1, qty := 3, week := 1270, taskMark := false }]
    x.pickKey sel = 123527
      ∧ Frame.arbitration { kind := 4, key := BitVec.ofNat 20 (x.pickKey sel), payload := [] } = 0x41E287 := by
  decide +kernel

/-- Chapter 3, station 3: the cost 558 of the bound bay, the cost 8511 of the unbound one, and the key 0x8B83. -/
theorem test_key_station_3 :
    99 * 3 + 8192 + travelFigure 3 1 * 2 = 8511 ∧ balanceFraction 470 1200 = 99 ∧ balanceFraction 850 1200 = 180
      ∧ 180 * 3 + travelFigure 1 1 * 2 = 558 ∧ claimKey 558 3 = 0x8B83 := by
  decide +kernel

/-! ### The block, power and start -/

/-- R185, the idle tick: one millisecond of a powered station. -/
theorem test_idle_tick : (step State.reset) = .next { State.reset with station := { State.reset.station with tick := 1 } } :=
  rfl

def off : Station := Station.atStart .off Retained.blank Pins.quiet

theorem witness_StepRunsFrontCommand : live.power = .on ∧ off.power ≠ .on := by decide +kernel

theorem witness_PowerCommandsBeginAgain :
    off.power ≠ .on ∧ off.power = .off ∧ live.power = .on
      ∧ (Station.atStart .inReset Retained.blank { Pins.quiet with reset := true }).power = .inReset := by
  decide +kernel

/-- R185: with RESET asserted without power, the power-up waits for the release before it starts. -/
theorem test_reset_line :
    (match exec .resetAssert ⟨off, []⟩ with
      | .next t =>
        match exec .powerUp t with
        | .next u =>
          match exec .resetRelease u with
          | .next v => (t.station.power, u.station.power, v.station.power)
          | _ => (.off, .off, .off)
        | _ => (.off, .off, .off)
      | _ => (.off, .off, .off)) = (.off, .inReset, .on) := by
  decide +kernel

/-- What the read of a good configuration memory gives. -/
def reading : ConfigRead where
  answered := true
  checkGood := true
  straps := 48
  carriers := 17
  bays := 2
  height := 1200
  bitRate := 3
  ka := 4
  kt := 2
  kb := 3
  limit := 1200
  tau := 1
  claimWindow := 20
  infeedTimeout := 10
  holdLimit := 20
  dwell := 100
  pitchTime := 600
  motionMargin := 2000
  approach := 200
  engageMin := 400
  withdrawTime := 200
  extensionMax := 1500
  releaseTimeout := 10
  idleDelay := 29

def starting : Station := State.reset.station

/-- R186: an odd carrier count is lowered, and an idle audit delay of 29 s becomes 30 s. -/
theorem test_clamped : (reading.clamped.n, reading.clamped.idleDelay) = (16, 30) := by decide +kernel

theorem witness_ConfigReadEndsStepOne :
    starting.power = .on ∧ starting.bus.joined = false ∧ starting.stc.start = .configRead
      ∧ ({ reading with answered := false } : ConfigRead).answered = false
      ∧ ({ reading with checkGood := false } : ConfigRead).checkGood = false
      ∧ ({ reading with straps := 0 } : ConfigRead).straps.toNat = 0
      ∧ 48 < ({ reading with straps := 49 } : ConfigRead).straps.toNat
      ∧ reading.answered = true ∧ reading.checkGood = true ∧ reading.straps.toNat = 48
      ∧ 1 ≤ ({ reading with straps := 1 } : ConfigRead).straps.toNat ∧ starting.pins.laneClear = false
      ∧ ({ starting with pins := { starting.pins with laneClear := true } } : Station).pins.laneClear = true := by
  decide +kernel

theorem witness_ClampedValuesInRange :
    (5 ≤ 250 ∧ 5 ≤ 5 ∧ 250 ≤ 250 ∧ 4 < 5 ∧ 250 < 251) ∧ (16 ≤ 96 ∧ 96 ≤ 96 ∧ 15 < 16 ∧ 96 < 97) ∧ (1 ≤ 1 ∧ 29 ≤ 29) ∧ 3600 < 3601 ∧ (30 ≤ 30 ∧ 3600 ≤ 3600) := by
  decide +kernel

/-- A retained memory with the entries 100, 101 and 100 again; carrier 0 with 4 tyres of 100 and HELD, carrier 1 bound and
empty, carrier 2 unbound, carrier 3 with more tyres than the bay holds; the other records failing their check. -/
def keptMemory : Retained :=
  let bound := fun n : Nat => some (some ({ article := 100, week := 1262 } : Binding), n)
  let image := fun (z : Option (Option Binding × Nat)) =>
    Stored.good ({ bays := [{ binding := z.bind (fun p => p.1), count := (z.map (fun p => p.2)).getD 0 }
                            , { binding := none, count := 0 }]
                   quarantine := false, held := true, retired := false, faults := 2 } : CarrierImage)
  { header := .good { n := 16, b := 2, h := 1200 }
    carriers := [image (bound 4), image (bound 0), image none, image (bound 6)] ++ List.replicate 92 .failed
    articles := [.good (some tyre), .good (some { tyre with code := 101 }), .good (some tyre), .good none]
      ++ List.replicate 60 .failed }

def loading : Station := { starting with cfg := cfg, retained := keptMemory }

/-- A trusted record; one with no count, bound and unbound; one that is not trusted; the header good and failing. -/
theorem witness_RetainedLoadLeaves :
    let x := loading
    let z : BayImage := { binding := some { article := 100, week := 1262 }, count := 4 }
    let e : BayImage := { binding := none, count := 0 }
    let r : CarrierImage := { bays := [z, e], quarantine := false, held := true, retired := false, faults := 2 }
    let good := x.retained.header = .good { n := x.cfg.n, b := x.cfg.b, h := x.cfg.h }
    let entry := fun (i : Nat) (a : Article) => good ∧ x.retained.articles[i]? = some (.good (some a))
      ∧ ∀ j, j < i → ∀ a', x.retained.articles[j]? = some (.good (some a')) → a'.code ≠ a.code
    (x.clu.records = [] ∧ x.cfg.n ≤ x.retained.carriers.length ∧ 3 < x.cfg.n ∧ x.retained.carriers[0]? = some (.good r)
        ∧ (z.binding ≠ none ∧ z.count ≠ 0))
      ∧ (good ∧ r.bays.length = x.cfg.b
        ∧ ∀ y ∈ r.bays, ∀ w, y.binding = some w → ∃ i a, entry i a ∧ a.code = w.article ∧ y.count ≤ capB x.cfg.h a.pitch)
      ∧ (x.retained.carriers[1]? = some (.good { r with bays := [{ z with count := 0 }, e] })
        ∧ x.retained.carriers[2]? = some (.good { r with bays := [e, e] })
        ∧ x.retained.carriers[3]? = some (.good { r with bays := [{ z with count := 6 }, e] }) ∧ ¬ 6 ≤ capB x.cfg.h 215
        ∧ x.retained.carriers[15]? = some Stored.failed)
      ∧ starting.retained.header ≠ .good { n := 16, b := 2, h := 1200 } := by
  refine ⟨by decide +kernel, ⟨by decide +kernel, by decide +kernel, ?_⟩, by decide +kernel, by decide +kernel⟩
  intro y hy w hw
  rcases List.mem_cons.mp hy with rfl | hy
  · cases hw
    exact ⟨0, tyre, ⟨by decide +kernel, by decide +kernel, fun j h => absurd h (Nat.not_lt_zero j)⟩, by decide +kernel,
      by decide +kernel⟩
  · rcases List.mem_cons.mp hy with rfl | hy
    · cases hw
    · cases hy

/-- R21, R37: what that memory leaves of carriers 0 to 3, of the article slots, and which writes of theirs begin. -/
theorem test_retained_load :
    let y := loading.retainedLoad
    ((y.smap.carriers.take 4).map (fun k => k.bays.map (fun b => (b.binding.isSome, b.count))) =
        [[(true, 4), (false, 0)], [(false, 0), (false, 0)], [(false, 0), (false, 0)], [(false, 0), (false, 0)]])
      ∧ (y.smap.carriers.take 4).map (fun k => (k.locks.held, k.locks.quarantine, k.faults, decide (k.write = .idle))) =
        [(true, false, 2, true), (true, false, 2, false), (true, false, 2, true), (false, true, 0, false)]
      ∧ (y.smap.articles.take 3).map (fun a => a.map (fun a => a.code)) = [some 100, none, none]
      ∧ (y.smap.articleWrites.take 3).map (fun w => decide (w = .idle)) = [true, false, true] := by
  decide +kernel

def laneWaiting : Station := { starting with stc := { starting.stc with start := .laneWait } }

def laneAt (x : Station) (l : Lane) : Station := { x with fct := { x.fct with lane := l, laneStarted := 90000 } }

/-- A release of 2 tyres, of which one has left. -/
def releasing (exited : Nat) : Station :=
  let g := { group .requested with tyres := [stagedTyre, stagedTyre] }
  let x := withGroup (withOrder (holding [pickRec .staged { bid with sent := true }]) (order .releasing [1, 2])) g
  { x with fct := { x.fct with
      lane := .releasing, laneStarted := 90000, pendingRelease := some { order := 5120, count := 2 }, exitCount := exited } }

/-- What a command leaves of a station. -/
def after (c : Instr) (x : Station) : Station :=
  match exec c ⟨x, []⟩ with
  | .next t => t.station
  | _ => x

theorem witness_LaneClearLine :
    (laneWaiting.power = .on ∧ laneWaiting.bus.joined = false ∧ laneWaiting.stc.start = .laneWait
        ∧ laneWaiting.fct.lane = .idle)
      ∧ ((laneAt live .sweeping).live ∧ (laneAt live .sweeping).stc.start = .done
        ∧ (laneAt live .sweeping).fct.lane = .sweeping)
      ∧ (live.live ∧ live.stc.start = .done ∧ live.fct.lane ≠ .sweeping)
      ∧ (let x := { live with pins := Pins.quiet }
        x.cnu.groups = [] ∧ x.pins.laneClear = false ∧ x.fct.lane = .idle ∧ x.fct.pendingRelease = none
          ∧ x.fct.cycle = none ∧ x.fct.laneFault = false)
      ∧ (live.live ∧ live.fct.task = none ∧ live.pins.laneClear = true ∧ live.cnu.groups = [] ∧ live.fct.lane = .idle
        ∧ live.fct.pendingRelease = none ∧ live.fct.cycle = none ∧ live.fct.laneFault = false)
      ∧ (let x := { releasing 0 with fct := { (releasing 0).fct with lane := .idle } }
        x.fct.pendingRelease ≠ none ∧ x.fct.lane = .idle ∧ x.fct.cycle = none ∧ x.fct.laneFault = false
          ∧ x.pins.headOcc = false ∧ ({ x.pins with headOcc := true } : Pins).headOcc = true) := by
  decide +kernel

theorem live_lane_rule : live.LaneRule := by
  refine ⟨by decide +kernel, ?_, ?_, ?_, by decide +kernel, by decide +kernel, by decide +kernel, by decide +kernel⟩ <;>
  · intro t h
    cases h

/-- The commands after which the lane is tested: a sweep begun, a sweep ended, the lane become empty, a release that waits
for a faulted lane. -/
theorem witness_LaneClearLine_commands :
    (live.fct.lane ≠ .sweeping ∧ (after .laneClearFall live).fct.lane = .sweeping ∧ live.live)
      ∧ (live.pins.laneClear = true ∧ (after .laneClearFall live).pins.laneClear = false
        ∧ (after .laneClearFall live).live ∧ live.LaneRule)
      ∧ ((laneAt live .sweeping).fct.lane ≠ .idle ∧ (after .laneClearAsserted (laneAt live .sweeping)).fct.lane = .idle
        ∧ (after .laneClearAsserted (laneAt live .sweeping)).live)
      ∧ ((releasing 1).cnu.groups ≠ [] ∧ (after .laneExitPulse (releasing 1)).cnu.groups = [])
      ∧ (let x := { releasing 0 with fct := { (releasing 0).fct with lane := .idle, laneFault := true } }
        (after .takeOut x).live ∧ (after .takeOut x).fct.pendingRelease ≠ none) := by
  refine ⟨by decide +kernel, ⟨by decide +kernel, by decide +kernel, by decide +kernel, live_lane_rule⟩, ?_⟩
  decide +kernel

def joining (homed svcReq : Bool) : Station :=
  { starting with
    cfg := cfg
    stc := { starting.stc with start := .joining, homed := homed }
    smap := { starting.smap with
      carriers := List.replicate 16
        ({ shelf [Bay.empty, Bay.empty] 0 with locks := { LockSet.empty with unverified := true } } : Carrier) }
    pins := { starting.pins with svcReq := svcReq } }

/-- R188: the mode at the join, with homing complete, failed, and with SVC_REQ asserted. -/
theorem test_join_modes :
    [(true, false), (false, false), (true, true)].map (fun z =>
      match exec (.join false) ⟨joining z.1 z.2, []⟩ with
      | .next t => t.station.stc.mode.code
      | _ => 9) = [1, 3, 2] := by
  decide +kernel

theorem witness_JoinEndsStart :
    ∀ z ∈ [(true, false), (false, false), (true, true), (false, true)],
      let x := joining z.1 z.2
      (x.power = .on ∧ x.stc.start = .joining ∧ x.stc.mode = .starting ∧ x.stc.hold = .none ∧ x.clu.records = []
          ∧ x.cnu.groups = [] ∧ x.pins.svcAck = false)
        ∧ (x.bus.posts = [] ∧ x.bus.owed = [] ∧ x.bus.standing ≠ .withdrawn ∧ x.stc.statusOwed = false)
        ∧ (x.mpl.tasks = [] ∧ x.fct.task = none
          ∧ ∀ k ∈ x.smap.carriers, k.locks.unverified = true ∧ k.locks.audit = false ∧ k.rescan = none) := by
  decide +kernel

/-- R170, R189, R195: at a join with SVC_REQ asserted the hold is ACKED, an STS is posted, 16 START scans are asked for. -/
theorem test_join_service :
    (let y := after (.join true) (joining true true)
     (y.stc.mode, y.stc.hold, y.pins.svcAck, y.fct.infeed, y.bus.posts.map (fun p => p.kind), y.mpl.tasks.length))
      = (.service, .acked, true, .surplus, [.sts], 16) := by
  decide +kernel

/-! ### The bus -/

/-- R56, R57: the stuffed bits of a STS of station 7, and its frame read back from them. -/
theorem test_wire_round_trip :
    receiveWire (note 14 7 [1, 0, 8, 0, 0, 0]).wire = some (note 14 7 [1, 0, 8, 0, 0, 0]) := by
  decide +kernel

/-- R57, R64: a run of 7 equal bits is not read as a frame. -/
theorem test_wire_pattern_error : receiveWire (false :: List.replicate 60 true) = none := by decide +kernel

theorem witness_WireRoundTrip :
    (note 4 7 []).ok = true ∧ (note 7 50 (List.replicate 12 255)).ok = true := by decide +kernel

theorem witness_StuffedPartShape :
    (note 4 7 []).ok = true ∧ (note 7 50 (List.replicate 12 255)).ok = true := by decide +kernel

theorem witness_StandingFollowsCounters :
    (255 ≤ 255 ∧ standingOf 128 0 = .quiet ∧ live.bus.standing ≠ .quiet) ∧ standingOf 79 79 = live.bus.standing := by
  decide +kernel

/-- Entering QUIET, with fresh names. -/
theorem witness_StandingFollowsCounters_quiet :
    live.NamesFresh ∧ standingOf 128 0 = .quiet ∧ live.bus.standing ≠ .quiet := by
  unfold Station.NamesFresh
  decide +kernel

/-- A station whose claim for order 5120, line 1, is in a slot. -/
def bidding (onBus : Bool) : Station :=
  posting (withOrder (holding [pickRec .tentative bid]) (order .opened [])) [claimPost onBus]

theorem witness_TakeOutChoosesAndBegins :
    let x := bidding false
    (x.live ∧ x.bus.ready = true ∧ x.bus.standing ≠ .withdrawn ∧ x.bus.sending = none ∧ x.bus.skip = 0)
      ∧ (∀ o ∈ x.bus.posts, o.onBus = false) ∧ x.takeOutChoice = some (claimPost false)
      ∧ ({ x with bus := { x.bus with skip := 1 } } : Station).bus.skip ≠ 0
      ∧ ({ x with bus := { x.bus with posts := [] } } : Station).takeOutChoice = none
      ∧ ({ x with stc := { x.stc with mode := .halted } } : Station).takeOutChoice = none
      ∧ ({ x with stc := { x.stc with mode := .halted } } : Station).live := by
  decide +kernel

/-- R85, R63, R103: a claim taken out and completed is SENT, and its slot FREE. -/
theorem test_claim_sent :
    (match exec .takeOut ⟨bidding false, []⟩ with
      | .next t =>
        match exec (.frameCompleted []) t with
        | .next u => (u.station.bus.posts, u.station.clu.records.map (fun r => r.bid.sent), u.station.bus.rxq.length)
        | _ => ([], [], 0)
      | _ => ([], [], 0)) = ([], [true], 1) := by
  decide +kernel

/-- The mode in which no claim is sent. -/
def halted (x : Station) : Station :=
  { x with stc := { x.stc with mode := .halted }, pins := { x.pins with fault := true } }

theorem witness_FrameResendRepeats :
    let x := bidding true
    let y := halted x
    (x.live ∧ x.bus.ready = true ∧ x.bus.standing ≠ .withdrawn ∧ x.bus.sending = none ∧ x.bus.skip = 0
        ∧ x.bus.posts = [] ++ claimPost true :: [] ∧ (claimPost true).onBus = true)
      ∧ (x.stc.mode = .running ∧ x.bus.standing.bids = true) ∧ (claimPost true).kind = .clm
      ∧ (y.live ∧ y.bus.posts = x.bus.posts ∧ ¬ (y.stc.mode = .running ∧ y.bus.standing.bids = true) ∧ y.bus.owed = [])
      ∧ y.claimHolder (claimPost true).handle = some (pickRec .tentative bid) ∧ y.NamesFresh
      ∧ ∀ r ∈ ({ y with clu := Clu.atStart } : Station).clu.records, r.bid.claim ≠ some (claimPost true).handle := by
  unfold Station.NamesFresh
  decide +kernel

/-- R66, R85: while a slot awaits its resend TAKE_OUT begins no frame, though an ABN is PENDING. -/
theorem test_resend_before_take_out :
    (let x := bidding true
     let x := { x with bus := { x.bus with
       posts := x.bus.posts ++ [{ handle := 1, kind := .abn, key := 7, payload := [20, 0, 1], onBus := false }], nextHandle := 2 } }
     ((after .takeOut x).bus.sending, (after .frameResend x).bus.sending)) = (none, some 0) := by
  decide +kernel

def onBus (f : Bus → Bus) : Station := { bidding true with bus := f (bidding true).bus }

/-- A gap of the bus, with so many delay signals in it and so many frames waiting. -/
def gapped (g : Gap) (delays waiting : Nat) : Station :=
  onBus (fun b => { b with gap := g, delayCount := delays, rxq := List.replicate waiting (note 4 7 []) })

theorem witness_ArbitrationDelayAndReady :
    ((onBus (fun b => { b with sending := some 0 })).live
        ∧ (onBus (fun b => { b with sending := some 0 })).bus.sending = some 0)
      ∧ (∀ z ∈ [(Gap.afterFrame, 0, 14), (.afterDelay, 1, 14), (.afterError, 0, 14), (.afterFrame, 1, 13), (.afterFrame, 2, 16),
          (.none, 0, 16)],
        let x := gapped z.1 z.2.1 z.2.2
        x.live ∧ x.bus.ready = true ∧ x.bus.standing ≠ .withdrawn ∧ x.bus.gap = z.1 ∧ x.bus.delayCount = z.2.1
          ∧ x.bus.rxq.length = z.2.2)
      ∧ (live.live ∧ live.bus.standing ≠ .withdrawn) := by
  decide +kernel

/-- R59, R75: in a gap after an error a station with 14 frames waiting drives no delay signal of its own, and counts one that
it hears; in the gap that follows it drives its own. -/
theorem test_delay_after_error :
    (let x := gapped .afterError 0 14
     let y := after (.delaySignal true) x
     ((after (.delaySignal false) x).bus.delayCount, y.bus.delayCount, y.bus.drive, (after (.delaySignal false) y).bus.drive.length))
      = (0, 1, [], 20) := by
  decide +kernel

theorem witness_FrameReceived :
    (live.live ∧ live.bus.ready = true ∧ live.bus.standing ≠ .withdrawn ∧ live.bus.sending = none
        ∧ (onBus (fun b => { b with rxq := List.replicate 15 (note 4 7 []) })).bus.rxq.length < 16
        ∧ receiveWire (note 4 9 [1, 20, 0, 1]).wire = some (note 4 9 [1, 20, 0, 1])) ∧ live.bus.Sound := by
  refine ⟨by decide +kernel, ?_⟩
  unfold Bus.Sound
  decide +kernel

/-- R62: a frame heard is acknowledged, and the frame of the station's own is not. -/
theorem test_acknowledge :
    ((after (.frameCompleted (note 4 9 [1, 20, 0, 1]).wire) live).bus.acked,
      (after (.frameCompleted []) (onBus (fun b => { b with sending := some 0 }))).bus.acked) = (true, false) := by
  decide +kernel

theorem witness_FrameSent :
    let x := onBus (fun b => { b with sending := some 0 })
    (x.live ∧ x.bus.ready = true ∧ x.bus.standing ≠ .withdrawn ∧ x.bus.rxq.length < 16
        ∧ x.bus.sending = some (claimPost true).handle ∧ x.bus.post? (claimPost true).handle = some (claimPost true)
        ∧ (claimPost true).kind = .clm ∧ x.claimHolder (claimPost true).handle = some (pickRec .tentative bid))
      ∧ x.bus.Sound ∧ x.NamesFresh := by
  unfold Bus.Sound Station.NamesFresh
  decide +kernel

/-- An ABN owed first, and an STS after it, when the slot becomes free. -/
def sendingOwed : Station :=
  let e := { order .opened [] with abandonOwed := some .stockLost }
  let x := withOrder (onBus (fun b => { b with sending := some 0, owed := [.abn, .sts] })) e
  { x with stc := { x.stc with statusOwed := true } }

theorem witness_FrameSent_offer :
    let x := sendingOwed
    let e := { order .opened [] with abandonOwed := some Cause.stockLost }
    (x.live ∧ x.bus.ready = true ∧ x.bus.standing ≠ .withdrawn ∧ x.bus.rxq.length < 16
        ∧ x.bus.sending = some (claimPost true).handle ∧ x.bus.post? (claimPost true).handle = some (claimPost true))
      ∧ (x.bus.posts.length ≤ 12 ∧ x.bus.owed.head? = some .abn
        ∧ x.cnu.orders.find? (fun e => e.abandonOwed.isSome && e.state = .opened) = some e
        ∧ e.abandonOwed = some .stockLost)
      ∧ (x.bus.posts.length < 12 ∧ x.bus.owed.Nodup ∧ x.stc.statusOwed = true) ∧ x.bus.Sound := by
  unfold Bus.Sound
  decide +kernel

/-- R90: the freed slot goes to the lowest kind owed, the ABN; the STS stays owed. -/
theorem test_slot_offered :
    (let y := after (.frameCompleted []) sendingOwed
     (y.bus.posts.map (fun p => (p.kind, p.payload)), y.bus.owed)) = ([(.abn, abnPayload 5120 .stockLost)], [.sts]) := by
  decide +kernel

/-- SAN number i of an answer of n entries completes, the next unposted one and the number in the table as given, with a query
pending. -/
def answering (i n next table : Nat) (last : Bool) (query : Option Nat) : Station :=
  let e : SnapEntry := { carrier := 3, bay := 0, article := 100, week := 1262, count := 4, available := 3, locked := false }
  { live with
    bus := { live.bus with
      posts := [{ handle := 0, kind := .san, key := 7, payload := sanPayload i last e, onBus := true }]
      sending := some 0, nextHandle := 1 }
    adu := { live.adu with
      snapshot := some { entries := List.replicate n e, nextToPost := next, inTable := table }, pendingQuery := query } }

/-- The claim of an expired record completes. -/
def sendingExpired : Station :=
  let x := onBus (fun b => { b with sending := some 0 })
  { x with clu := { x.clu with records := x.clu.records.map (fun (r : LineRec) => { r with bid := { r.bid with expired := true } }) } }

theorem witness_FrameSent_answer :
    (∀ z ∈ [(answering 0 6 4 4 false none, false), (answering 5 6 6 1 true none, true), (answering 5 6 6 1 true (some 100), true)],
        let x := z.1
        (x.live ∧ x.bus.ready = true ∧ x.bus.standing ≠ .withdrawn ∧ x.bus.rxq.length < 16 ∧ x.bus.Sound)
          ∧ x.bus.sending = some 0 ∧ (x.bus.post? 0).any (fun p =>
            decide (p.handle = 0) && decide (p.kind = .san) && (decide (payloadField p.payload 1 1 % 2 = 1) == z.2))
          ∧ x.bus.owed = [] ∧ x.bus.posts.length ≤ 8 ∧ x.bus.claimSlots ≤ 4)
      ∧ (let x := sendingExpired
        x.live ∧ x.bus.sending = some 0 ∧ x.bus.post? 0 = some (claimPost true) ∧ x.NamesFresh ∧ x.bus.Sound
          ∧ (x.claimHolder 0).any (fun r => r.bid.expired) ∧ x.bus.owed = [] ∧ x.bus.posts.length ≤ 11) := by
  unfold Bus.Sound Station.NamesFresh
  decide +kernel

/-- R183, R184, R103: a SENT SAN brings the next one; the last one ends the answer, and the pending query's SANs begin; the
SENT claim of an expired record brings its close. -/
theorem test_sent_brings :
    ([answering 0 6 4 4 false none, answering 5 6 6 1 true none, answering 5 6 6 1 true (some 100), sendingExpired].map (fun x =>
      let y := after (.frameCompleted []) x
      (y.bus.posts.map (fun p => (p.kind, payloadField p.payload 0 1)), y.adu.snapshot.map (fun sn => (sn.nextToPost, sn.inTable)))))
      = [([(.san, 4)], some (5, 4)), ([], none), ([(.san, 0), (.san, 1)], some (2, 2)), ([(.cls, 1)], none)] := by
  decide +kernel

/-- A station that sends, or with no frame of its own, at a TEC of these values; and one that waits after its own signal. -/
def sendingAt (tec : Nat) : Station := onBus (fun b => { b with sending := some 0, tec := tec, standing := standingOf tec 0 })

def signalled (role : Role) (active : Bool) (tec : Nat) : Station :=
  onBus (fun b => { b with
    errorWait := some { role := role, active := active }, gap := .afterError, tec := tec, standing := standingOf tec 0 })

/-- An error counted with the standing kept, with CAUTION left for QUIET, and with the station withdrawn; a failed room test; an
error at a receiver. -/
theorem witness_ErrorsAreCounted :
    let full := onBus (fun b => { b with rxq := List.replicate 16 (note 4 7 []) })
    (∀ z ∈ [(71, Standing.active), (120, .quiet), (128, .quiet), (248, .withdrawn)],
        let x := sendingAt z.1
        x.live ∧ x.bus.ready = true ∧ x.bus.standing ≠ .withdrawn ∧ x.bus.Sound ∧ x.bus.sending ≠ none
          ∧ standingOf (z.1 + 8) 0 = z.2)
      ∧ (BusError.echo ≠ .check ∧ BusError.echo ≠ .delimiter ∧ (sendingAt 71).bus.standing = .active
        ∧ (sendingAt 120).bus.standing = .caution ∧ (sendingAt 128).bus.standing = .quiet)
      ∧ (full.live ∧ full.bus.sending = none ∧ full.bus.rxq.length = 16 ∧ BusError.roomTest ≠ .echo
        ∧ full.bus.Sound ∧ standingOf 0 (min 255 1) = full.bus.standing)
      ∧ (live.live ∧ live.bus.ready = true ∧ live.bus.Sound ∧ live.bus.sending = none ∧ BusError.check ≠ .echo
        ∧ BusError.check ≠ .acknowledgeMissing ∧ standingOf 0 (min 255 1) = live.bus.standing) := by
  unfold Bus.Sound
  decide +kernel

/-- After an active and a passive signal; a dominant run counted with the standing kept, left and withdrawn. -/
theorem witness_ErrorsAreCounted_waits :
    (∀ role ∈ [Role.transmitter, .receiver], ∀ active ∈ [true, false], ∀ tec ∈ [71, 120, 128, 248],
        let x := signalled role active tec
        x.live ∧ x.bus.ready = true ∧ x.bus.standing ≠ .withdrawn ∧ x.bus.gap = .afterError
          ∧ x.bus.errorWait = some { role := role, active := active })
      ∧ [71, 120, 128, 248].map (fun t => ((signalled .transmitter true t).bus.standing, standingOf (t + 8) 0)) =
        [(.active, .active), (.caution, .quiet), (.quiet, .quiet), (.quiet, .withdrawn)]
      ∧ standingOf 71 (min 255 1) = (signalled .receiver true 71).bus.standing := by
  decide +kernel

/-- R65, the worked example of the bus off from TEC 0: the 16th error brings TEC to 128 and its signal is passive, the 15th
active; each leaves its own wait. -/
theorem test_sixteenth_error :
    ([112, 120].map (fun t =>
      let y := after (.frameError .echo) (sendingAt t)
      (y.bus.tec, y.bus.standing, y.bus.drive.take 6, y.bus.skip, y.bus.errorWait.map (fun w => w.active))))
      = [(120, .caution, List.replicate 6 false, 0, some true), (128, .quiet, List.replicate 6 true, 8, some false)] := by
  decide +kernel

/-- R59, R67, R69: the transmitter that a dominant run brings from CAUTION to QUIET lets 8 start opportunities pass. -/
theorem test_dominant_run :
    ([Role.transmitter, .receiver].map (fun r =>
      let y := after .dominantRun16 (signalled r true 120)
      (y.bus.tec, y.bus.recCtr, y.bus.standing, y.bus.skip)))
      = [(128, 0, .quiet, 8), (120, 1, .caution, 0)] := by
  decide +kernel

/-- R65: a dominant bit in the station's own error delimiter brings a new signal after an active one, in QUIET as well, and none
after a passive one. -/
theorem test_delimiter_error :
    ([(true, 0), (true, 128), (false, 128)].map (fun z =>
      (after (.frameError .delimiter) (signalled .transmitter z.1 z.2)).bus.drive.length)) = [14, 14, 0] := by
  decide +kernel

theorem witness_WithdrawalEmptiesBus :
    255 < 256 ∧ (bidding true).NamesFresh ∧ (withGroup (holding [pickRec .staged bid]) (group .clear)).NamesFresh := by
  unfold Station.NamesFresh
  decide +kernel

/-- R70: a station with a slot ON_BUS and frames waiting that withdraws has neither. -/
theorem test_withdrawal :
    ((bidding true).setCounters 256 0).bus.posts = [] ∧ ((bidding true).setCounters 256 0).clu.records = [] := by
  decide +kernel

/-- A tyre of order 5120 on the lane whose original bay has room for one tyre, which a TENTATIVE putaway expects. -/
def expecting : Station :=
  let r := { (putRec .tentative 0 bid).mapPut (fun b => { b with target := { carrier := 3, bay := 0 } }) with qty := 1 }
  let x := withGroup (holding [r]) (group .clear)
  { x with smap := { x.smap with carriers := x.smap.carriers.modify 3 (fun (k : Carrier) =>
      { k with bays := k.bays.modify 0 (fun (b : Bay) => { b with incoming := 1 }) }) } }

theorem witness_WithdrawalEmptiesBus_putback :
    (∀ g ∈ expecting.cnu.groups, g = group .clear) ∧ expecting.cnu.groups.length = 1
      ∧ (group .clear).tyres = [stagedTyre] ∧ (group .clear).release = .clear ∧ (group .clear).putbackMark = false
      ∧ (group .clear).putbackWanted = false ∧ expecting.mpl.tasks = [] := by
  decide +kernel

/-- R167: at the withdrawal the putback of the head chooses its bay while the putaway's expectation still stands, and so not
the original bay, whose room is free only after the record has gone. -/
theorem test_withdrawal_putback :
    (let y := expecting.setCounters 256 0
     (y.mpl.tasks.map (fun t => decide (t.job = .putback 5120 (some { carrier := 3, bay := 0 }))), y.clu.records.length,
       (y.bay? { carrier := 3, bay := 0 }).map (fun b => b.incoming))) = ([false], 0, some 0) := by
  decide +kernel

def withdrawn : Station := onBus Bus.withdrawn

theorem witness_RejoinCountsRuns :
    withdrawn.live ∧ withdrawn.bus.standing = .withdrawn
      ∧ withdrawn.bus.rejoinRuns + (withdrawn.bus.rejoinPartial + 1151) / 12 < 96
      ∧ 96 ≤ withdrawn.bus.rejoinRuns + (withdrawn.bus.rejoinPartial + 1152) / 12
      ∧ (recessiveRuns withdrawn.bus.rejoinPartial [1140, 24]).1 = 97 ∧ withdrawn.bus.rejoinPartial < 12
      ∧ withdrawn.bus.posts = [] := by
  decide +kernel

/-- R72, R195: runs in two stretches; the partial run is lost at the dominant bit between them. At 96 an STS is posted. -/
theorem test_rejoin :
    (let y := after (.rejoin [23, 13]) withdrawn
     let z := after (.rejoin [1140, 24]) withdrawn
     ((y.bus.rejoinRuns, y.bus.rejoinPartial), z.bus.standing, z.bus.posts.map (fun p => p.kind))) = ((2, 1), .active, [.sts]) := by
  decide +kernel

/-! ### Notices -/

/-- A CCT, SCT, ARQ or SQY of the order source 50, with its target and the bytes after it. -/
def control (kind target : Nat) (rest : List Byte) : Frame := note kind 50 (BitVec.ofNat 8 target :: rest)

theorem witness_NoticesWithoutEffect :
    (∀ f ∈ [note 0 50 [], note 14 7 [1, 0, 8, 0, 0, 0], note 11 3 [0, 0x10, 0], note 13 3 (List.replicate 11 0)],
        (Hearing live f).live ∧ (Hearing live f).bus.rxq = f :: [])
      ∧ ((note 0 50 []).unusable = true ∧ (control 8 7 [9, 0, 0, 0, 0, 0]).unusable = true
        ∧ (control 10 7 [3, 0, 0, 0, 0, 0]).unusable = true)
      ∧ ((note 11 3 [0, 0x10, 0]).accepted = some .arp ∧ (note 13 3 (List.replicate 11 0)).accepted = some .san
        ∧ (note 14 7 [1, 0, 8, 0, 0, 0]).accepted = some .sts)
      ∧ (∀ a ∈ [1, 2, 3, 4, 5, 6, 7, 8],
        let f := control 8 3 [BitVec.ofNat 8 a, 0, 15, 0, 0, 1]
        f.accepted = some .cct ∧ payloadField f.payload 1 1 = a ∧ payloadField f.payload 0 1 ≠ live.cfg.station
          ∧ payloadField f.payload 0 1 ≠ 0)
      ∧ (control 9 3 [1]).accepted = some .sct ∧ (control 10 3 [1, 0, 15, 0, 0, 0]).accepted = some .arq
      ∧ (control 10 3 [2, 0, 0, 0, 0, 100]).accepted = some .arq ∧ (control 12 3 [0, 0, 100]).accepted = some .sqy := by
  decide +kernel

/-- R81, R79: OPN with a week of 4095 is accepted, and with 4096 it is not. -/
theorem test_opn_week :
    ((note 5 50 [20, 0, 2, 0x0F, 0xFF]).accepted, (note 5 50 [20, 0, 2, 0x10, 0]).accepted) = (some .opn, none) := by
  decide +kernel

theorem witness_CarrierControlReasons :
    ∀ a ∈ [1, 2, 3, 4, 5, 7], ∀ target ∈ [7, 0], ∀ inv ∈ [0, 1],
      let f := control 8 target [BitVec.ofNat 8 a, 3, 255, BitVec.ofNat 8 inv, 0, 0]
      let x := Hearing live f
      x.live ∧ x.bus.rxq = f :: [] ∧ f.accepted = some .cct ∧ payloadField f.payload 1 1 = a
        ∧ (payloadField f.payload 0 1 = x.cfg.station ∨ payloadField f.payload 0 1 = 0) ∧ 3 < x.cfg.n
        ∧ (x.smap.carriers[15]?).isSome := by
  decide +kernel

/-- R34: HOLD of carriers 3..255 sets HELD on carriers 3..15 alone; inverted, on carriers 0..2. -/
theorem test_hold_ranges :
    [0, 1].map (fun inv =>
      match exec .cctHold ⟨Hearing live (control 8 7 [1, 3, 255, inv, 0, 0]), []⟩ with
      | .next t => (t.station.smap.carriers.zipIdx.filter (fun k => k.1.locks.held)).map (fun k => k.2)
      | _ => []) = [[3, 4, 5, 6, 7, 8, 9, 10, 11, 12, 13, 14, 15], [0, 1, 2]] := by
  decide +kernel

def retiredAt (x : Station) (c : Nat) : Station :=
  x.updCarrier c (fun k => { k with locks := { k.locks with retired := true, quarantine := true }, faults := 3 })

theorem witness_UnretireAndSetCount :
    (let f := control 8 7 [6, 3, 3, 0, 0, 0]
      let x := retiredAt (Hearing live f) 3
      x.live ∧ x.bus.rxq = f :: [] ∧ f.accepted = some .cct ∧ payloadField f.payload 1 1 = 6
        ∧ payloadField f.payload 0 1 = x.cfg.station ∧ (x.smap.carriers[3]?).any (fun k => k.locks.retired))
      ∧ (∀ z ∈ [(3, 0, 1), (4, 1, 5), (3, 1, 4)],
        let f := control 8 0 [8, BitVec.ofNat 8 z.1, 0, 0, BitVec.ofNat 8 z.2.1, BitVec.ofNat 8 z.2.2]
        let x := Hearing live f
        x.live ∧ x.bus.rxq = f :: [] ∧ f.accepted = some .cct ∧ payloadField f.payload 1 1 = 8
          ∧ payloadField f.payload 0 1 = 0 ∧ payloadField f.payload 2 1 < x.cfg.n ∧ payloadField f.payload 5 1 < x.cfg.b
          ∧ (x.bay? { carrier := z.1, bay := z.2.1 }).any (fun b =>
              decide (b.reserved ≤ min (payloadField f.payload 6 1) ((x.bayCap b).getD 15))))
      ∧ (let f := control 8 7 [8, 3, 0, 0, 0, 0]
        let x := Hearing live f
        x.live ∧ x.bus.rxq = f :: [] ∧ f.accepted = some .cct ∧ payloadField f.payload 1 1 = 8
          ∧ payloadField f.payload 2 1 = 3 ∧ payloadField f.payload 5 1 = 0 ∧ 3 < x.cfg.n ∧ 0 < x.cfg.b
          ∧ x.bay? { carrier := 3, bay := 0 } = some (bay 1262 4 1 0) ∧ x.bayCap (bay 1262 4 1 0) = some 5) := by
  decide +kernel

/-- R16, R17, R113: SET_COUNT 0 at bay (3, 0) cuts the TENTATIVE record that holds a tyre there, and drops the binding. -/
theorem test_set_count_cut :
    (let y := after .cctSetCount (Hearing (holding [pickRec .tentative bid]) (control 8 7 [8, 3, 0, 0, 0, 0]))
     (y.clu.records.length, (y.bay? { carrier := 3, bay := 0 }).map (fun b => (b.count, b.reserved, b.binding.isSome))))
      = (0, some (0, 0, false)) := by
  decide +kernel

/-- R17: SET_COUNT 5 at bay (4, 1), which expects 2 and holds at most 5, sets the count to 3. -/
theorem test_set_count_room :
    (match exec .cctSetCount ⟨Hearing live (control 8 7 [8, 4, 0, 0, 1, 5]), []⟩ with
      | .next t => (t.station.bay? { carrier := 4, bay := 1 }).map (fun b => b.count)
      | _ => none) = some 3 := by
  decide +kernel

theorem witness_ResumeAccepted :
    (let f := control 9 7 [1]
      let x := Hearing (halted live) f
      x.live ∧ x.bus.rxq = f :: [] ∧ f.accepted = some .sct ∧ payloadField f.payload 0 1 = x.cfg.station
        ∧ (payloadField f.payload 1 1 = 1 ∧ x.stc.mode = .halted ∧ x.stc.hold = .none ∧ x.stc.resume = false)
        ∧ x.mpl.move = none ∧ x.mpl.held = none ∧ x.fct.task = none ∧ x.fct.cycle = none ∧ x.fct.gauge = none)
      ∧ (let y := after .sctResume (Hearing (halted live) (control 9 7 [1]))
        y.live ∧ y.stc.mode = .halted ∧ y.stc.resume = true ∧ y.stc.hold = .none ∧ y.mpl.held = none ∧ y.fct.task = none
          ∧ y.fct.cycle = none ∧ y.fct.gauge = none)
      ∧ (let f := control 9 0 [2]
        (Hearing live f).live ∧ f.accepted = some .sct ∧ payloadField f.payload 0 1 = 0
          ∧ ¬ (payloadField f.payload 1 1 = 1 ∧ (Hearing live f).stc.mode = .halted)) := by
  decide +kernel

/-- R125, R193: a RESUME accepted while the stow of the halt's task still runs gives its move when that task has left the face. -/
theorem test_resume_waits :
    (let x := halted (withTask (holding [pickRec .picking bid]) pickStop)
     let x := { x with fct := { x.fct with task := some 0, stage := .stowing, lane := .stowing } }
     let y := after .sctResume (Hearing x (control 9 7 [1]))
     let z := after .headOccClear y
     ((y.stc.resume, y.mpl.move.isSome, y.fct.task), (z.stc.resume, z.mpl.move.isSome, z.fct.task)))
      = ((true, false, some 0), (true, true, none)) := by
  decide +kernel

theorem witness_AuditRequestAndQuery :
    (∀ f ∈ [control 10 7 [1, 3, 255, 0, 0, 0], control 10 0 [2, 0, 0, 0, 0, 100]],
        let x := Hearing live f
        x.live ∧ x.bus.rxq = f :: [] ∧ f.accepted = some .arq
          ∧ (payloadField f.payload 0 1 = x.cfg.station ∨ payloadField f.payload 0 1 = 0))
      ∧ (payloadField (control 10 7 [1, 3, 255, 0, 0, 0]).payload 1 1 = 1
        ∧ payloadField (control 10 0 [2, 0, 0, 0, 0, 100]).payload 1 1 = 2)
      ∧ (3 < 16 ∧ 3 ≤ 15 ∧ 15 ≤ 255 ∧ ¬ 3 ≤ 2) ∧ (live.smap.carriers[15]?).isSome ∧ (live.smap.carriers[2]?).isSome
      ∧ (100 ≠ 0 ∧ (live.bay? { carrier := 3, bay := 0 }).any (fun b =>
        decide (b.binding = some { article := 100, week := 1262 })))
      ∧ (∀ article ∈ [0, 100, 101],
        let f := control 12 7 [0, 0, BitVec.ofNat 8 article]
        let x := Hearing live f
        x.live ∧ x.bus.rxq = f :: [] ∧ f.accepted = some .sqy ∧ payloadField f.payload 0 1 = x.cfg.station
          ∧ x.adu.snapshot = none ∧ x.bus.standing ≠ .withdrawn ∧ x.bus.posts.length ≤ 8 ∧ x.bus.claimSlots ≤ 4
          ∧ Kind.san ∉ x.bus.owed)
      ∧ (∀ k ∈ live.smap.carriers, ∀ b ∈ k.bays, (101 ≠ 0) ∧ b.binding.all (fun w => w.article != 101))
      ∧ ({ live with adu := { live.adu with snapshot := some { entries := [SnapEntry.none], nextToPost := 1, inTable := 1 } } }
          : Station).adu.snapshot ≠ none := by
  decide +kernel

/-- R182: the one empty entry that answers a query of an article with no bay. -/
theorem test_query_empty :
    (after .sqyTaken (Hearing live (control 12 7 [0, 0, 101]))).bus.posts.map (fun p => (p.kind, p.payload)) =
      [(.san, [0, 1, 0, 0, 0, 0, 0, 0, 0, 0, 0])] := by
  decide +kernel

/-- R182, R183: a query of article 100 is answered by two SANs, the second with the last flag and the availability 1. -/
theorem test_query :
    (match exec .sqyTaken ⟨Hearing live (control 12 7 [0, 0, 100]), []⟩ with
      | .next t => t.station.bus.posts.map (fun p => (p.kind, p.payload))
      | _ => []) =
      [(.san, [0, 0, 3, 0, 0, 0, 100, 0x04, 0xEE, 4, 3]), (.san, [1, 1, 4, 1, 0, 0, 100, 0x04, 0xF6, 1, 1])] := by
  decide +kernel

/-- OPN of order 5120 with 2 lines in week 1301. -/
def opn : Frame := note 5 50 [20, 0, 2, 0x05, 0x15]

/-- An order table of 32 entries, the first in the state given. -/
def full (x : Station) (st : OrderState) (own : List Nat) : Station :=
  let others := (List.range 31).map (fun i => { order .releasing [] with order := i + 2 })
  { x with cnu := { x.cnu with orders := { order st [] with order := 1, own := own } :: others } }

theorem witness_OrderOpenedAndAbandoned :
    ((Hearing live opn).live ∧ (Hearing live opn).bus.rxq = opn :: [] ∧ opn.accepted = some .opn
        ∧ payloadField opn.payload 0 2 = 5120 ∧ payloadField opn.payload 2 1 = 2
        ∧ (Hearing live opn).cnu.orders.length < 32 ∧ (∀ e ∈ (Hearing live opn).cnu.orders, e.order ≠ 5120)
        ∧ ∀ g ∈ (Hearing live opn).cnu.groups, g.order ≠ 5120)
      ∧ (let x := full (Hearing live opn) .closed []
        x.live ∧ x.cnu.orders.length = 32 ∧ (∀ e ∈ x.cnu.orders, e.order ≠ 5120)
          ∧ (x.cnu.orders.find? (fun e => e.state = .closed)).isSome)
      ∧ (let x := full (Hearing live opn) .opened [1]
        32 ≤ x.cnu.orders.length ∧ ∀ e ∈ x.cnu.orders, e.state = .releasing ∨ (e.state = .opened ∧ e.own ≠ []))
      ∧ (let f := note 5 50 [20, 0, 17, 0x05, 0x15]
        f.accepted = some .opn ∧ ¬ payloadField f.payload 2 1 ≤ 16)
      ∧ (let f := note 1 50 [20, 0, 4]
        let x := withOrder (Hearing live f) (order .opened [1])
        x.live ∧ x.bus.rxq = f :: [] ∧ f.accepted = some .abn ∧ payloadField f.payload 0 2 = 5120 ∧ x.NamesFresh
          ∧ x.orderIn 5120 .opened = true ∧ (withOrder x (order .closed [])).orderIn 5120 .opened = false) := by
  unfold Station.NamesFresh
  decide +kernel

/-- A full table with none CLOSED: the oldest OPEN entry without own lines and abandon, of which a TENTATIVE record is held. -/
def evicting : Station :=
  full (Hearing (holding [(pickRec .tentative bid).mapPick (fun b => { b with order := 1 })]) opn) .opened []

theorem witness_OrderOpenedAndAbandoned_evicted :
    (evicting.live ∧ evicting.bus.rxq = opn :: [] ∧ evicting.cnu.orders.length = 32
        ∧ (∀ e ∈ evicting.cnu.orders, e.order ≠ 5120 ∧ e.state ≠ .closed) ∧ (∀ g ∈ evicting.cnu.groups, g.order ≠ 5120)
        ∧ (evicting.cnu.orders.find? (fun e => decide (e.state = .opened ∧ e.own = [] ∧ e.abandon = none
          ∧ e.abandonOwed = none))).map (fun e => e.order) = some 1) ∧ evicting.NamesFresh := by
  unfold Station.NamesFresh
  decide +kernel

/-- R152: that entry gives way to the new order, and its TENTATIVE record goes. -/
theorem test_evicted :
    (let y := after .opnTaken evicting
     (y.cnu.orders.length, (y.order? 1).isSome, (y.order? 5120).isSome, y.clu.records.length)) = (32, false, true, 0) := by
  decide +kernel

/-- R161: an abandon heard closes the order, turns its group RETURNING, and asks for its putback to the original bay. -/
theorem test_abandon :
    (match exec .abnTaken ⟨withGroup (withOrder (Hearing live (note 1 50 [20, 0, 4])) (order .opened [1])) (group .clear), []⟩
      with
      | .next t => (t.station.cnu.orders.map (fun e => e.state), t.station.cnu.groups.map (fun g => g.returning),
          t.station.mpl.tasks.map (fun t => t.job))
      | _ => ([], [], [])) = ([.closed], [true], [.putback 5120 (some { carrier := 3, bay := 0 })]) := by
  decide +kernel

/-- The abandon of order 5120 heard, with a WON record whose close was answered TOO_LATE at the win: the CLS is still on the
bus, or PENDING again. -/
def abandoning (onBus : Bool) : Station :=
  let x := withOrder (Hearing (holding [pickRec .won { bid with best := some 6407, sent := true, claim := none, close := some 1 }])
    (note 1 50 [20, 0, 4])) (order .opened [1])
  { x with bus := { x.bus with
      posts := [{ handle := 1, kind := .cls, key := 7, payload := [], onBus := onBus }], nextHandle := 2 } }

theorem witness_OrderOpenedAndAbandoned_bids :
    (∀ x ∈ [abandoning false, { abandoning false with clu := (holding [pickRec .tentative { bid with claim := some 1 }]).clu }],
      x.live ∧ x.NamesFresh ∧ x.orderIn 5120 .opened = true ∧ x.bus.canWithdraw 1 = true
        ∧ ∀ r ∈ x.clu.records, r.pickOf 5120 [.tentative, .won] = true ∧ r.bid.closeOwed = false
          ∧ (r.bid.close = some 1 ∨ (r.tentative = true ∧ r.bid.sent = false ∧ r.bid.claim = some 1))) := by
  unfold Station.NamesFresh
  decide +kernel

/-- R114: the PENDING close of the WON record is withdrawn with it, and no note is kept; R105: one on the bus goes on, with
a note of winner 7 and key 6407. -/
theorem test_abandon_close :
    [false, true].map (fun b =>
      let y := after .abnTaken (abandoning b)
      (y.clu.records.length, y.bus.posts.map (fun p => p.handle), y.clu.notes.map (fun n => (n.winner, n.key)))) =
      [(0, [], []), (0, [1], [(7, 6407)])] := by
  decide +kernel

/-- A RETURNING group of order 5120 on the lane, the order closed. -/
def returned (origin : BayAddr) : Station :=
  withGroup (withOrder live (order .closed [])) { group .clear with
    returning := true, tyres := [{ stagedTyre with origin := origin }] }

/-- Every carrier HELD. -/
def allHeld (x : Station) : Station :=
  { x with smap := { x.smap with carriers := x.smap.carriers.map (fun (k : Carrier) =>
      { k with locks := { k.locks with held := true } }) } }

/-- The head group that starts its putback; its origin takes the tyre back, or another bay does, or none; the task list has
room or none. -/
theorem witness_OrderOpenedAndAbandoned_putback :
    (∀ z ∈ [({ carrier := 3, bay := 0 } : BayAddr), { carrier := 4, bay := 0 }],
        (returned z).live ∧ (returned z).cnu.groups = [{ group .clear with
          returning := true, tyres := [{ stagedTyre with origin := z }] }])
      ∧ ((returned { carrier := 3, bay := 0 }).mayStore 3 = true
        ∧ (live.bay? { carrier := 3, bay := 0 }).any (fun b =>
            decide (b.binding = some { article := 100, week := 1262 }) && decide (b.count + b.incoming + 1 ≤ capB 1200 215)))
      ∧ (live.mpl.tasks.length < 24 ∧ ¬ (List.replicate 24 (task pickStop)).length < 24) := by
  decide +kernel

theorem witness_OrderOpenedAndAbandoned_choice :
    let x := returned { carrier := 4, bay := 0 }
    let t : Tyre := { stagedTyre with origin := { carrier := 4, bay := 0 } }
    ((x.bay? t.origin).all (fun b => b.binding.isNone) ∧ (x.chosenBay (x.tyreArticle t) t.week 1).isSome
        ∧ (x.expectDest t).1.isSome)
      ∧ ((allHeld x).chosenBay (x.tyreArticle t) t.week 1).isNone ∧ ((allHeld x).expectDest t).1 = none
      ∧ ((after .takeOut x).live ∧ (after .takeOut x).cnu.groups.all (fun g => g.returning && g.putbackMark)) := by
  decide +kernel

/-- RDY of order 5120, line 2, of station 9. -/
def rdy : Frame := note 2 9 [20, 0, 2]

theorem witness_ReadyHeard :
    (let x := withOrder (Hearing live rdy) (order .opened [])
     x.live ∧ x.bus.rxq = rdy :: [] ∧ rdy.accepted = some .rdy ∧ x.order? 5120 = some (order .opened [])
        ∧ payloadField rdy.payload 0 2 = 5120 ∧ payloadField rdy.payload 2 1 = 2 ∧ 2 ≤ (order .opened []).lineCount
        ∧ 2 ∉ (order .opened []).ready ∧ (order .opened []).ready.length + 1 ≠ (order .opened []).lineCount)
      ∧ ((Hearing live rdy).order? 5120 = none
        ∧ 2 ∈ (order .opened [2]).ready ∧ (withOrder (Hearing live rdy) (order .opened [2])).live)
      ∧ (let x := withOrder (Hearing live rdy) (order .opened [1])
        let y := withGroup x (group .clear)
        x.live ∧ x.order? 5120 = some (order .opened [1]) ∧ 2 ∉ (order .opened [1]).ready
          ∧ (order .opened [1]).ready.length + 1 = (order .opened [1]).lineCount ∧ x.group? 5120 = none
          ∧ y.group? 5120 = some (group .clear) ∧ x.fct.pendingRelease = none
          ∧ ({ y.fct with pendingRelease := some { order := 7, count := 1 } } : Fct).pendingRelease ≠ none
          ∧ x.NamesFresh ∧ y.NamesFresh) := by
  unfold Station.NamesFresh
  decide +kernel

/-- A staged record of the head group, its order OPEN; so many posts in the table. -/
def readied (posts : Nat) (owed : Bool) : Station :=
  let r := pickRec .staged { bid with sent := true }
  let x := withGroup (withOrder (holding [r.mapPick (fun b => { b with staged := 1, readyOwed := owed })]) (order .opened []))
    (group .clear)
  { x with bus := { x.bus with
      posts := (List.range posts).map (fun i => { handle := i, kind := .sts, key := 7, payload := [1, 0, 8, 0, 0, 0], onBus := false })
      nextHandle := 12 } }

theorem witness_ReadyHeard_posted :
    (∀ z ∈ [(0, true), (12, false)],
        let x := readied z.1 false
        (x.pick? 0).any (fun b => b.state = .staged && !b.readySent && !b.readyOwed && x.orderIn b.order .opened)
          ∧ (x.cnu.groups.head?).any (fun g => g.order = 5120 && !g.returning)
          ∧ decide (x.bus.accepts .rdy = true ∧ Kind.rdy ∉ x.bus.owed) = z.2)
      ∧ ((readied 0 true).pick? 0).any (fun b => b.readyOwed)
      ∧ (let x := readied 12 true
        let y := after .headOccClear x
        x.NamesFresh ∧ y.live ∧ (y.cnu.groups.head?).any (fun g => g.order = 5120 && !g.returning)
          ∧ y.orderIn 5120 .opened = true ∧ (y.pick? 0).any (fun b => b.state = .staged && !b.readySent)) := by
  unfold Station.NamesFresh
  decide +kernel

/-- R156: the ready is posted, and with a full post table owed. -/
theorem test_ready_posted :
    [0, 12].map (fun n =>
      let y := after .headOccClear (readied n false)
      (y.bus.posts.any (fun p => p.kind = .rdy), y.cnu.owedReadies)) = [(true, []), (false, [0])] := by
  decide +kernel

/-- R159, R144: the last ready of an order with a group on the lane starts its release. -/
theorem test_release_begins :
    (match exec .rdyTaken ⟨withGroup (withOrder (Hearing live rdy) (order .opened [1])) (group .clear), []⟩ with
      | .next t => (t.station.fct.lane, t.station.fct.pendingRelease, t.station.pins.laneGate)
      | _ => (.idle, none, false)) = (.releasing, some { order := 5120, count := 1 }, true) := by
  decide +kernel

/-- CLM of order 5120, line 1, with a key of station 9. -/
def clm (key : Nat) : Frame := note 4 key [1, 20, 0, 1]

def cls : Frame := note 3 9 [1, 20, 0, 1, 7, 0, 0x19, 0x07]

theorem witness_ClaimAndCloseHeard :
    (let x := Hearing (holding [pickRec .tentative { bid with sent := true }]) (clm (100 * 64 + 9))
     x.live ∧ x.bus.rxq = clm 6409 :: [] ∧ (clm 6409).accepted = some .clm
        ∧ x.recordOfRound (roundField (clm 6409).payload) = some (pickRec .tentative { bid with sent := true })
        ∧ (pickRec .tentative { bid with sent := true }).tentative = true ∧ bid.best = none
        ∧ bid.key ≤ (clm 6409).key.toNat ∧ (clm (99 * 64 + 9)).key.toNat < bid.key ∧ (clm 6345).accepted = some .clm
        ∧ x.NamesFresh ∧ x.fct.cycle = none ∧ (x.bay? { carrier := 3, bay := 0 }).isSome = true)
      ∧ (pickRec .won bid).tentative = false
      ∧ ((clm 6409).key.toNat = 6409 ∧ ({ bid with best := some 6409 } : Bid).best = some 6409)
      ∧ (let r := pickRec .tentative { bid with sent := true, best := some 6407 }
        let x := Hearing (withOrder (holding [r]) (order .opened [])) cls
        x.live ∧ x.bus.rxq = cls :: [] ∧ cls.accepted = some .cls ∧ x.recordOfRound (roundField cls.payload) = some r
          ∧ r.tentative = true ∧ r.bid.best = some r.bid.key ∧ bid.best ≠ some bid.key ∧ x.NamesFresh)
      ∧ (let r := putRec .tentative 0 { bid with sent := true, best := some 6407 }
        let f := note 3 9 (clsPayload (.putaway 901) 7 6407)
        let x := Hearing (holding [r]) f
        x.live ∧ f.accepted = some .cls ∧ x.recordOfRound (roundField f.payload) = some r ∧ r.tentative = true)
      ∧ live.recordOfRound (roundField cls.payload) = none := by
  unfold Station.NamesFresh
  decide +kernel

/-- A putaway's round lost, by a lower claim and by a close. -/
theorem witness_ClaimAndCloseHeard_putaway :
    ∀ f ∈ [note 4 6345 (RoundId.putaway 901).bytes, note 3 9 (clsPayload (.putaway 901) 9 6345)],
      let r := putRec .tentative 0 { bid with sent := true }
      let x := Hearing (holding [r]) f
      (x.live ∧ x.bus.rxq = f :: [] ∧ (f.accepted = some .clm ∨ f.accepted = some .cls)
          ∧ x.recordOfRound (roundField f.payload) = some r ∧ r.tentative = true ∧ r.bid.best = none ∧ 6345 < r.bid.key)
        ∧ (x.fct.cycle = none ∧ x.cnu.groups = [] ∧ x.bay? { carrier := 4, bay := 1 } = some (bay 1270 1 0 2)) ∧ x.NamesFresh := by
  unfold Station.NamesFresh
  decide +kernel

/-- R102, R111: a round lost gives its reservation back, and its record goes. -/
theorem test_round_lost :
    (let y := after .clmTaken (Hearing (holding [pickRec .tentative { bid with sent := true }]) (clm 6345))
     (y.clu.records.length, (y.bay? { carrier := 3, bay := 0 }).map (fun b => (b.count, b.reserved)))) = (0, some (4, 0)) := by
  decide +kernel

/-- R107, R108, R120: the round won, its PICK_STOP asked for, and the move to its carrier begun. -/
theorem test_round_won :
    (match exec .clsTaken ⟨Hearing (withOrder (holding [pickRec .tentative { bid with sent := true, best := some 6407 }])
        (order .opened [])) cls, []⟩ with
      | .next t => (t.station.clu.records.map (fun r => r.won), t.station.mpl.tasks.map (fun t => t.job),
          t.station.pins.drive)
      | _ => ([], [], .inactive)) = ([true], [pickStop], .move .forward 1) := by
  decide +kernel

/-- LOF of 2 tyres of article 100 for order 5120, line 1. -/
def lof : Frame := note 6 50 [20, 0, 1, 0, 0, 100, 2]

/-- POF of 2 tyres of article 100 and week 1270, number 901. -/
def pof (article : Byte) : Frame := note 7 50 [3, 0x85, 0, 0, article, 2, 0, 110, 0, 215, 0x04, 0xF6]

theorem witness_LineOfferBid :
    let x := withOrder (Hearing live lof) (order .opened [])
    let y := { x with bus := { x.bus with rxq := [] } }
    (x.live ∧ x.bus.rxq = lof :: [] ∧ lof.accepted = some .lof ∧ payloadField lof.payload 0 2 = 5120
        ∧ payloadField lof.payload 2 1 = 1 ∧ payloadField lof.payload 3 3 = 100 ∧ payloadField lof.payload 6 1 = 2)
      ∧ (y.lofTests 5120 1 100 2 = true
        ∧ y.pickSelection 100 2 = some [{ carrier := 3, bay := 0, qty := 2, week := 1262, taskMark := false }]
        ∧ (y.reserve 100 [{ carrier := 3, bay := 0, qty := 2, week := 1262, taskMark := false }]).1 = .accepted
        ∧ x.bus.accepts .clm = true ∧ ∀ r ∈ x.clu.records, r.serial < x.clu.nextSerial)
      ∧ y.lofTests 5120 3 100 2 = false ∧ y.pickSelection 101 2 = none := by
  decide +kernel

/-- The CLM refused: no slot is free. -/
theorem witness_LineOfferBid_refused :
    let x := noSlot (withOrder (Hearing live lof) (order .opened []))
    let y := { x with bus := { x.bus with rxq := [] } }
    (x.live ∧ x.bus.rxq = lof :: [] ∧ y.lofTests 5120 1 100 2 = true
        ∧ y.pickSelection 100 2 = some [{ carrier := 3, bay := 0, qty := 2, week := 1262, taskMark := false }]
        ∧ (y.reserve 100 [{ carrier := 3, bay := 0, qty := 2, week := 1262, taskMark := false }]).1 = .accepted
        ∧ x.bus.accepts .clm = false ∧ x.fct.cycle = none ∧ x.fct.infeed ≠ .ofRecord x.clu.nextSerial) ∧ x.NamesFresh := by
  unfold Station.NamesFresh
  decide +kernel

/-- R101, step 4: nothing of a bid whose CLM is refused remains. -/
theorem test_claim_refused :
    ([(Instr.lofTaken, noSlot (withOrder (Hearing live lof) (order .opened []))), (.pofTaken, noSlot (Hearing live (pof 100)))].map
      (fun z =>
        let y := after z.1 z.2
        (y.clu.records.length, y.bus.posts.length, decide (y.smap.carriers = live.smap.carriers))))
      = [(0, 12, true), (0, 12, true)] := by
  decide +kernel

def entry (c i qty : Nat) : SelEntry := { carrier := c, bay := i, qty := qty, week := 1262, taskMark := false }

/-- Each code of RESERVE with the entry before it fitting; its acceptance; an UNRESERVE with a bay that does not exist and
without. -/
theorem witness_LineOfferBid_reserve :
    ((live.bay? (entry 3 0 2).addr).any (fun b => decide (b.binding = some { article := 100, week := 1262 })
        && decide (askedOf [entry 3 0 2, entry 3 0 1] (entry 3 0 2).addr ≤ b.count - b.reserved)))
      ∧ ((live.reserve 100 [entry 3 0 2, entry 3 2 1]).1 = .noSuchBay ∧ live.bay? (entry 3 2 1).addr = none)
      ∧ ((live.reserve 100 [entry 3 0 2, entry 3 1 1]).1 = .wrongBinding
        ∧ (live.bay? (entry 3 1 1).addr).any (fun b => b.binding.isNone))
      ∧ ((live.reserve 100 [entry 3 0 2, entry 3 0 2]).1 = .short
        ∧ (live.bay? (entry 3 0 2).addr).any (fun b => decide (b.count - b.reserved < askedOf [entry 3 0 2, entry 3 0 2] (entry 3 0 2).addr)))
      ∧ ((live.reserve 100 [entry 3 0 2, entry 3 0 1]).1 = .accepted
        ∧ ((live.reserve 100 [entry 3 0 2, entry 3 0 1]).2.bay? (entry 3 0 2).addr).map (fun b => b.reserved) = some 4)
      ∧ ((live.unreserve [((entry 3 0 1).addr, 1), ((entry 3 2 1).addr, 1)]).bay? (entry 3 0 1).addr).map (fun b => b.reserved)
        = some 1
      ∧ ((live.unreserve [((entry 3 0 1).addr, 2)]).bay? (entry 3 0 1).addr).map (fun b => b.reserved) = some 0 := by
  decide +kernel

theorem witness_PutawayOfferBid :
    let x := Hearing live (pof 100)
    let y := { x with bus := { x.bus with rxq := [] } }
    (x.live ∧ x.bus.rxq = pof 100 :: [] ∧ (pof 100).accepted = some .pof ∧ payloadField (pof 100).payload 0 2 = 901
        ∧ payloadField (pof 100).payload 2 3 = 100 ∧ payloadField (pof 100).payload 10 2 = 1270)
      ∧ (y.pofTests 901 2 tyre = true ∧ (y.chosenBay tyre 1270 2).map (fun c => c.addr) = some { carrier := 4, bay := 1 }
        ∧ (y.expect { carrier := 4, bay := 1 } 1270 2 tyre).1 = .accepted ∧ x.bus.accepts .clm = true
        ∧ ∀ r ∈ x.clu.records, r.serial < x.clu.nextSerial)
      ∧ y.pofTests 901 9 tyre = false ∧ y.chosenBay tyre 1262 6 = none := by
  decide +kernel

theorem witness_PutawayOfferBid_refused :
    let x := noSlot (Hearing live (pof 100))
    let y := { x with bus := { x.bus with rxq := [] } }
    (x.live ∧ x.bus.rxq = pof 100 :: [] ∧ y.pofTests 901 2 tyre = true
        ∧ (y.chosenBay tyre 1270 2).map (fun c => c.addr) = some { carrier := 4, bay := 1 }
        ∧ (y.expect { carrier := 4, bay := 1 } 1270 2 tyre).1 = .accepted
        ∧ x.bus.accepts .clm = false ∧ x.fct.cycle = none ∧ x.fct.infeed ≠ .ofRecord x.clu.nextSerial ∧ x.cnu.groups = [])
      ∧ x.NamesFresh := by
  unfold Station.NamesFresh
  decide +kernel

/-- The boundary values of R99: each limit passes, and the next value does not. -/
theorem test_offer_limits :
    ([(20, 150, 8), (600, 400, 1), (19, 150, 8), (601, 150, 8), (20, 149, 8), (20, 401, 8), (20, 150, 9), (20, 150, 0)].map
      (fun z => live.pofTests 901 z.2.2 { code := 100, unitMass := z.1, pitch := z.2.1 }))
      = [true, true, false, false, false, false, false, false] := by
  decide +kernel

/-- Each code of EXPECT, and its acceptance; UNEXPECT of a bay that does not exist, of one whose carrier keeps stock, and of
the last incoming of an empty carrier. -/
theorem witness_PutawayOfferBid_expect :
    let other : Article := { code := 101, unitMass := 90, pitch := 200 }
    let full := { live with smap := { live.smap with articles := List.replicate 64 (some tyre) } }
    let x := (live.expect { carrier := 5, bay := 0 } 1270 1 other).2
    (live.bay? { carrier := 4, bay := 2 } = none ∧ (live.expect { carrier := 4, bay := 2 } 1270 1 tyre).1 = .noSuchBay)
      ∧ ((live.bay? { carrier := 4, bay := 1 }).any (fun b => decide (b.binding = some { article := 100, week := 1270 }) && decide (b.count ≠ 0))
        ∧ (live.expect { carrier := 4, bay := 1 } 1271 1 tyre).1 = .wrongBinding)
      ∧ ((full.bay? { carrier := 5, bay := 0 }).any (fun b => b.binding.isNone) ∧ full.smap.article? 101 = none
        ∧ none ∉ full.smap.articles ∧ (full.expect { carrier := 5, bay := 0 } 1270 1 other).1 = .tableFull)
      ∧ (¬ 1 + 2 + 3 ≤ capB 1200 215 ∧ (live.expect { carrier := 4, bay := 1 } 1270 3 tyre).1 = .noRoom)
      ∧ (1 + 2 + 2 ≤ capB 1200 215 ∧ (live.expect { carrier := 4, bay := 1 } 1270 2 tyre).1 = .accepted)
      ∧ (none ∈ live.smap.articles ∧ (live.expect { carrier := 5, bay := 0 } 1270 1 other).1 = .accepted
        ∧ x.smap.article? 101 = some other ∧ (x.bay? { carrier := 5, bay := 0 }).map (fun b => b.incoming) = some 1)
      ∧ ((live.unexpect { carrier := 4, bay := 1 } 2).bay? { carrier := 4, bay := 1 }).map (fun b => (b.incoming, b.binding.isSome))
        = some (0, true)
      ∧ ((x.unexpect { carrier := 5, bay := 0 } 1).bay? { carrier := 5, bay := 0 }).map (fun b => (b.incoming, b.binding.isSome))
        = some (0, false) := by
  decide +kernel

/-! ### Timers and retained writes -/

theorem witness_RecordTimersExpire :
    (let r := pickRec .tentative { bid with sent := true }
     let x := holding [r]
     x.live ∧ x.roundRecord (.pick 5120 1) = some r ∧ r.tentative = true ∧ r.bid.expired = false ∧ r.bid.close = none
        ∧ r.bid.closeOwed = false ∧ x.cfg.claimWindow ≤ (x.tick - r.bid.windowStart).toNat ∧ r.bid.sent = true
        ∧ x.bus.accepts .cls = true ∧ Kind.cls ∉ x.bus.owed ∧ (bidding false).NamesFresh)
      ∧ (bid.sent = false ∧ bid.claim = some 0 ∧ (bidding false).bus.canWithdraw 0 = true
        ∧ (bidding true).bus.canWithdraw 0 = false)
      ∧ ¬ live.cfg.claimWindow ≤ (live.tick - ({ bid with windowStart := 99981 } : Bid).windowStart).toNat
      ∧ (let r := putRec .loading 1 bid
        let x := { holding [r] with fct := { Fct.atStart with infeed := .ofRecord 1 } }
        x.live ∧ x.roundRecord (.putaway 901) = some r ∧ x.NamesFresh
          ∧ x.put? r.serial = some { number := 901, week := 1270, target := { carrier := 4, bay := 1 }, state := .loading
                                     arrived := 1, stored := 0, lastArrival := 90000, loadMark := false }
          ∧ PutState.loading ≠ .tentative ∧ x.cfg.infeedTimeout * 1000 ≤ (x.tick - 90000).toNat
          ∧ ¬ x.cfg.infeedTimeout * 1000 ≤ (x.tick - 95001).toNat) := by
  unfold Station.NamesFresh
  decide +kernel

/-- R110, R142: the infeed timeout ends the record, and its tyre at the infeed is SURPLUS. -/
theorem test_infeed_timeout :
    (match exec (.infeedTimeout 901) ⟨{ holding [putRec .loading 1 bid] with
        fct := { Fct.atStart with infeed := .ofRecord 1 } }, []⟩ with
      | .next t => (t.station.clu.records.length, t.station.fct.infeed, t.station.stc.lastFault)
      | _ => (9, .none, none)) = (0, .surplus, some .infeedSurplus) := by
  decide +kernel

/-- A write in flight of the record of carrier 3, and of the article slot 0. -/
def writing (newer : Bool) : Station :=
  let v := (shelf [bay 1262 5 0 0, Bay.empty] 0).image
  let w : WriteState CarrierImage := if newer then .writingNewerWaiting v else .writing v
  { live with smap := { live.smap with
      carriers := live.smap.carriers.modify 3 (fun k => { k with write := w })
      articleWrites := .writing (some tyre) :: List.replicate 63 .idle } }

theorem witness_RetainedWritesCompleteOrFail :
    (∀ newer ∈ [false, true],
        (writing newer).power = .on
          ∧ ((writing newer).smap.carriers[3]?).any (fun k =>
            decide (k.write = .writing (shelf [bay 1262 5 0 0, Bay.empty] 0).image
              ∨ k.write = .writingNewerWaiting (shelf [bay 1262 5 0 0, Bay.empty] 0).image)))
      ∧ ((writing true).smap.articleWrites[0]? = some (.writing (some tyre))
        ∧ (writing true).smap.articles[0]? = some (some tyre))
      ∧ ((writing true).smap.carriers[4]?).any (fun k => decide (k.write = .idle))
      ∧ ((writing true).retained.carriers[3]? = some Stored.failed
        ∧ (writing true).retained.articles[0]? = some Stored.failed) := by
  decide +kernel

/-- R19: the write in flight leaves its own values in the record, and the newer ones are written next. -/
theorem test_write_completes :
    (match exec (.retainedWriteComplete (.carrier 3)) ⟨writing true, []⟩ with
      | .next t => (decide (t.station.retained.carriers[3]? = some (.good (shelf [bay 1262 5 0 0, Bay.empty] 0).image)),
          (t.station.smap.carriers[3]?).map (fun k => k.write))
      | _ => (false, none)) = (true, some (.writing (shelf [bay 1262 4 1 0, Bay.empty] 0).image)) := by
  decide +kernel

theorem witness_HoldAndIdleTimersExpire :
    (let e := { order .opened [1] with holdStart := some 80000 }
     let x := withOrder live e
     x.live ∧ x.order? 5120 = some e ∧ e.state = .opened ∧ e.holdExpired = false ∧ e.holdStart = some 80000
        ∧ x.cfg.holdLimit * 1000 ≤ (x.tick - 80000).toNat ∧ e.abandon = none ∧ e.abandonOwed = none
        ∧ x.bus.accepts .abn = true ∧ Kind.abn ∉ x.bus.owed
        ∧ (noSlot x).bus.accepts .abn = false ∧ (noSlot x).bus.standing ≠ .withdrawn ∧ (noSlot x).order? 5120 = some e)
      ∧ (let e := { order .opened [1] with holdStart := some 80000 }
        (live.live ∧ live.order? 5120 = none ∧ (withOrder live { e with holdExpired := true }).live)
          ∧ ¬ (withOrder live e).cfg.holdLimit * 1000 ≤ ((80000 : Tick) - 80000).toNat
          ∧ (let x := withOrder live { e with abandonOwed := some .stockLost }
            x.live ∧ x.order? 5120 = some { e with abandonOwed := some .stockLost } ∧ e.holdExpired = false
              ∧ x.cfg.holdLimit * 1000 ≤ (x.tick - 80000).toNat))
      ∧ (let x := { live with adu := { live.adu with idleStart := some 70000, pointer := 15 } }
        x.live ∧ x.adu.idleStart = some 70000 ∧ x.cfg.idleDelay * 1000 ≤ (x.tick - 70000).toNat) := by
  decide +kernel

/-- R157, R161: the hold timer's ABN is posted with its cause, and with a full post table owed. -/
theorem test_hold_timer :
    (let x := withOrder live { order .opened [1] with holdStart := some 80000 }
     let y := after (.holdTimerExpiry 5120) x
     let z := after (.holdTimerExpiry 5120) (noSlot x)
     (y.bus.posts.map (fun p => (p.kind, p.payload)), z.bus.owed, z.cnu.orders.map (fun e => e.abandonOwed)))
      = ([(.abn, [20, 0, 1])], [.abn], [some .holdExpired]) := by
  decide +kernel

/-- R157: the timer expires once: the second expiry posts nothing. -/
theorem test_hold_timer_once :
    (let x := withOrder live { order .opened [1] with holdStart := some 80000, abandonOwed := some .stockLost }
     let y := after (.holdTimerExpiry 5120) x
     let z := { y with cnu := { y.cnu with orders := y.cnu.orders.map (fun (e : OrderEntry) => { e with abandonOwed := none }) } }
     (y.bus.posts, y.cnu.orders.map (fun e => e.holdExpired), (after (.holdTimerExpiry 5120) z).bus.posts)) = ([], [true], []) := by
  decide +kernel

/-! ### Motion -/

/-- A PICK_STOP held for the reversal dwell. -/
def held : Station :=
  let x := withTask { holding [pickRec .won bid] with cfg := { cfg with dwell := 1000 } } pickStop
  { x with mpl := { x.mpl with held := some { task := 0, dir := .forward, steps := 1, target := 3 } } }

/-- A move for the PICK_STOP, with the position given. -/
def moving (p : Nat) : Station :=
  let x := withTask (withOrder (holding [pickRec .won bid]) (order .opened [])) pickStop
  { x with mpl := { x.mpl with p := some p, move := some (move (some 0) false) } }

/-- The homing move of start. -/
def homing (seen : Bool) : Station :=
  { starting with
    cfg := cfg
    tick := 100000
    stc := { starting.stc with start := .homing }
    mpl := { starting.mpl with move := some (move none seen) } }

theorem witness_DwellAndMotionTimersExpire :
    (held.live ∧ held.mpl.held = some { task := 0, dir := .forward, steps := 1, target := 3 }
        ∧ held.mpl.lastInPos = some 99000 ∧ held.cfg.dwell ≤ (held.tick - 99000).toNat)
      ∧ ¬ held.cfg.dwell ≤ (held.tick - 99001).toNat
      ∧ ((homing false).power = .on ∧ (homing false).mpl.move = some (move none false)
        ∧ (move none false).limit ≤ ((homing false).tick - 90000).toNat ∧ (homing false).stc.start = .homing
        ∧ (homing false).bus.joined = false)
      ∧ ((moving 2).power = .on ∧ (moving 2).mpl.move = some (move (some 0) false)
        ∧ (moving 2).task? 0 = some (task pickStop) ∧ (task pickStop).removed = false
        ∧ 2600 ≤ ((moving 2).tick - 90000).toNat ∧ (moving 2).stc.start ≠ .homing)
      ∧ ((moving 2).tick - 97401).toNat < 2600 := by
  decide +kernel

theorem witness_HaltingFaultEffects :
    (∀ r ∈ (moving 2).clu.records, r.tentative = true → (moving 2).fct.infeed ≠ .ofRecord r.serial)
      ∧ (moving 2).stc.mode = .running ∧ ({ live.stc with mode := .service } : Stc).mode = .service
      ∧ (moving 2).mpl.move ≠ none ∧ (halted live).stc.mode = .halted ∧ (moving 2).NamesFresh
      ∧ ((moving 2).cnu.orders = [order .opened []] ∧ (order .opened []).state = .opened ∧ (order .opened []).abandon = none
        ∧ (order .opened []).abandonOwed = none ∧ ∀ r ∈ (moving 2).clu.records, r.pickOf 5120 [.won, .picking] = true)
      ∧ (∀ x ∈ [withTask live (.scan 3 .start), halted (withTask live (.scan 3 .start))], x.NamesFresh
        ∧ x.mpl.tasks = [task (.scan 3 .start)] ∧ (task (.scan 3 .start)).removed = false ∧ x.fct.task ≠ some 0
        ∧ x.stc.mode ≠ .starting ∧ (x.smap.carriers[3]?).isSome ∧ ∀ r ∈ x.clu.records, r.tentative = false) := by
  unfold Station.NamesFresh
  decide +kernel

/-- R162: a halt posts an ABN(STATION_HALTED) of the order whose record is WON. -/
theorem test_halt_abandons :
    (((moving 2).haltFault .motionTimeout).bus.posts.filter (fun p => p.kind = .abn)).map (fun p => p.payload) = [[20, 0, 3]] := by
  decide +kernel

theorem witness_PositionPulses :
    (live.power = .on ∧ (homing false).mpl.p = none ∧ live.mpl.p = some 2
        ∧ ({ live with stc := { live.stc with hold := .acked } } : Station).stc.hold = .acked
        ∧ (live.smap.carriers[3]?).isSome)
      ∧ (live.mpl.move = none ∧ ({ live.mpl with p := some 0 } : Mpl).p = some 0 ∧ live.mpl.p = some 2 ∧ 2 ≠ 0)
      ∧ ((moving 2).mpl.move = some (move (some 0) false) ∧ (move (some 0) false).task = some 0
        ∧ (moving 2).mpl.p = some 2 ∧ (moving 0).mpl.p = some 0)
      ∧ ((homing true).mpl.move = some (move none true) ∧ (move none true).task = none
        ∧ (move none true).homeSeen = true ∧ (move none false).homeSeen = false
        ∧ (homing false).mpl.move = some (move none false) ∧ (homing false).power = .on) := by
  decide +kernel

/-- R123: an INDEX at carrier 15 wraps to 0, forward, and at carrier 0 to 15, backward. -/
theorem test_index_wraps :
    [(Dir.forward, 15), (.backward, 0)].map (fun z =>
      match exec .index ⟨{ live with mpl := { live.mpl with p := some z.2, lastDir := z.1 } }, []⟩ with
      | .next t => t.station.mpl.p
      | _ => none) = [some 0, some 15] := by
  decide +kernel

/-- R124, R192: a HOME away from carrier 0 sets p to 0 and halts the station. -/
theorem test_home_mismatch :
    (match exec .home ⟨live, []⟩ with
      | .next t => (t.station.mpl.p, t.station.stc.mode, t.station.stc.homeMismatch, t.station.pins.fault)
      | _ => (none, .running, false, false)) = (some 0, .halted, true, true) := by
  decide +kernel

/-- A resume whose home check move has found HOME. -/
def resuming : Station :=
  { halted live with
    stc := { (halted live).stc with resume := true }
    mpl := { live.mpl with move := some (move none true) } }

/-- A resume whose home check move has found HOME, with a release that has failed. -/
def resumingRelease : Station :=
  withGroup (withOrder { resuming with mpl := { resuming.mpl with p := some 0 } } (order .releasing [1, 2])) (group .failed)

theorem witness_InPosEndsMove :
    (live.power = .on ∧ live.mpl.move = none)
      ∧ ((homing false).mpl.move = some (move none false) ∧ (move none false).homeSeen = false)
      ∧ ((homing true).power = .on ∧ (homing true).mpl.move = some (move none true) ∧ (homing true).stc.start = .homing
        ∧ (homing true).bus.joined = false ∧ (homing true).mpl.p = none)
      ∧ ((moving 3).power = .on ∧ (moving 3).mpl.move = some (move (some 0) false)
        ∧ (moving 3).task? 0 = some (task pickStop) ∧ (task pickStop).removed = false
        ∧ (moving 3).mpl.p = some (move (some 0) false).target ∧ (moving 3).stc.mode = .running
        ∧ ({ moving 3 with mpl := { (moving 3).mpl with move := none, lastInPos := some 100000 } } : Station).ready pickStop
          = true)
      ∧ ((allHeld (moving 3)).mpl.p = some (move (some 0) false).target ∧ (allHeld (moving 3)).stc.mode = .running
        ∧ (allHeld (moving 3)).task? 0 = some (task pickStop) ∧ (allHeld (moving 3)).ready pickStop = false)
      ∧ (let x := moving 3
        let y := { x with mpl := { x.mpl with tasks := [{ task pickStop with removed := true }] } }
        y.task? 0 = some { task pickStop with removed := true } ∧ y.mpl.move = x.mpl.move ∧ y.mpl.p = some 3)
      ∧ ((halted (moving 3)).stc.mode ≠ .running ∧ (halted (moving 3)).task? 0 = some (task pickStop))
      ∧ (moving 2).mpl.p ≠ some (move (some 0) false).target := by
  decide +kernel

theorem witness_InPosEndsMove_resume :
    (∀ x ∈ [resuming, resumingRelease], x.live ∧ x.stc.start = .done ∧ x.stc.mode = .halted ∧ x.stc.resume = true
        ∧ x.mpl.move = some (move none true) ∧ (move none true).task = none ∧ (move none true).homeSeen = true)
      ∧ ((∀ g ∈ resuming.cnu.groups, g.release ≠ .failed) ∧ (resuming.smap.carriers[15]?).isSome ∧ 15 < resuming.cfg.n)
      ∧ resumingRelease.cnu.groups.find? (fun h => h.release = .failed) = some (group .failed)
      ∧ resumingRelease.fct.pendingRelease = none ∧ resumingRelease.NamesFresh := by
  unfold Station.NamesFresh
  decide +kernel

/-- R160, R193: the release that failed is asked for again as the resume ends, and begins. -/
theorem test_release_again :
    (let y := after .inPos resumingRelease
     (y.stc.mode, y.fct.pendingRelease, y.fct.lane)) = (.running, some { order := 5120, count := 1 }, .releasing) := by
  decide +kernel

/-- R122, R126, R133: a move that ends at its carrier begins the TAKE cycle of its PICK_STOP. -/
theorem test_move_ends_at_target :
    (match exec .inPos ⟨moving 3, []⟩ with
      | .next t => (t.station.pins.extractor, t.station.fct.cycle.map (fun c => c.phase))
      | _ => (none, none)) = (some (.take, 0), some .approach) := by
  decide +kernel

/-! ### The face -/

/-- The PICK_STOP of a WON record at the face, with a TAKE cycle. -/
def taking (ph : Phase) (extended timedOut : Bool) : Station :=
  let x := withOrder (holding [pickRec .won { bid with sent := true }]) (order .opened [])
  working { x with mpl := { x.mpl with p := some 3 } } pickStop (cycle .take ph extended timedOut)

/-- The LOAD of a record with 2 tyres, at the face, with a STORE cycle. -/
def storing (timedOut : Bool) : Station :=
  let x := holding [putRec .loading 1 { bid with sent := true }]
  let x := working { x with mpl := { x.mpl with p := some 4 } } (.load 1 { carrier := 4, bay := 1 })
    { cycle .store .withdraw false timedOut with carrier := 4, bay := 1 }
  { x with fct := { x.fct with infeed := .ofRecord 1 } }

/-- The PUTBACK of a RETURNING group, at the face, with a RETURN cycle. -/
def returning : Station :=
  let x := withGroup (holding [pickRec .returning { bid with sent := true }])
    { group .clear with returning := true, putbackMark := true }
  working { x with mpl := { x.mpl with p := some 4 } } (.putback 5120 (some { carrier := 4, bay := 1 }))
    { cycle .ret .withdraw false false with carrier := 4, bay := 1 }

theorem witness_ExtractorPhases :
    (∀ z ∈ [(Phase.approach, false), (.engage, false), (.engage, true), (.withdraw, false)],
        (taking z.1 z.2 false).live ∧ (taking z.1 z.2 false).fct.cycle = some (cycle .take z.1 z.2 false)
          ∧ (cycle .take z.1 z.2 false).phase = z.1 ∧ (cycle .take z.1 z.2 false).extended = z.2)
      ∧ (let run := ((taking .engage true false).tick - (cycle .take .engage true false).started).toNat
        live.cfg.approach ≤ run ∧ live.cfg.engageMin ≤ run ∧ live.cfg.extensionMax ≠ 0
          ∧ live.cfg.engageMin + live.cfg.extensionMax ≤ run ∧ ({ live.cfg with extensionMax := 0 } : Config).extensionMax = 0)
      ∧ (live.tick - 99901).toNat < live.cfg.approach ∧ (live.tick - 99901).toNat < live.cfg.engageMin
      ∧ (live.tick - 99901).toNat < live.cfg.withdrawTime
      ∧ (live.tick - 98501).toNat < live.cfg.engageMin + live.cfg.extensionMax
      ∧ (cycle .take .withdraw false false).phase ≠ .engage := by
  decide +kernel

/-- A cycle that has begun with the IN_POS of its task's move. -/
theorem witness_ExtractorPhases_begun :
    let y := after .inPos (moving 3)
    (y.fct.cycle).map (fun c => (c.kind, c.phase)) = some (.take, .approach) ∧ (moving 3).fct.cycle = none := by
  decide +kernel

/-- A task handed to the face at carrier c. -/
def atFace (x : Station) (c : Nat) (job : Job) : Station :=
  let x := withTask { x with mpl := { x.mpl with p := some c } } job
  { x with fct := { x.fct with task := some 0, stage := .check } }

def headAt (x : Station) (occ fault : Bool) : Station :=
  { x with fct := { x.fct with laneFault := fault }, pins := { x.pins with headOcc := occ } }

/-- Before a TAKE: the cycle given, the task handed back, the stray stowed. -/
theorem witness_ExtractorPhases_take :
    let x := atFace (holding [pickRec .won bid]) 3 pickStop
    (x.stc.mode = .running ∧ x.pins.svcAck = false ∧ x.fct.lane = .idle ∧ x.fct.pendingRelease = none ∧ x.pins.headOcc = false
        ∧ x.mayTake (x.mpl.p.getD 3) = true ∧ x.bay? { carrier := 3, bay := 0 } = some (bay 1262 4 1 0)
        ∧ x.smap.article? 100 = some tyre ∧ (task pickStop).removed = false ∧ x.faceTask? = some (task pickStop))
      ∧ ((allHeld x).pins.headOcc = false ∧ (allHeld x).mayTake ((allHeld x).mpl.p.getD 3) = false)
      ∧ ((halted x).stc.mode ≠ .running ∧ (laneAt x .sweeping).fct.lane ≠ .idle)
      ∧ ((headAt x true true).pins.headOcc = true ∧ (headAt x true true).fct.laneFault = true)
      ∧ ((headAt x true false).pins.headOcc = true ∧ (headAt x true false).fct.laneFault = false) := by
  decide +kernel

/-- Before a STORE and before a RETURN: the cycle given, the task handed back, the tyre presented. -/
theorem witness_ExtractorPhases_store :
    let a : BayAddr := { carrier := 4, bay := 1 }
    let x := { atFace (holding [putRec .loading 1 bid]) 4 (.load 1 a) with fct := { live.fct with infeed := .ofRecord 1 } }
    let y := atFace (returned { carrier := 3, bay := 0 }) 4 (.putback 5120 (some a))
    (x.stc.mode = .running ∧ x.pins.svcAck = false ∧ x.fct.infeed = .ofRecord 1 ∧ x.mayStore (x.mpl.p.getD 4) = true
        ∧ (allHeld x).mayStore ((allHeld x).mpl.p.getD 4) = false)
      ∧ (y.stc.mode = .running ∧ y.pins.svcAck = false ∧ y.fct.lane = .idle ∧ y.fct.pendingRelease = none
        ∧ y.mayStore (y.mpl.p.getD 4) = true ∧ y.pins.headOcc = false ∧ y.fct.laneFault = false)
      ∧ ((headAt y true false).pins.headOcc = true ∧ (allHeld (headAt y true false)).mayStore (y.mpl.p.getD 4) = false)
      ∧ ((headAt y false true).pins.headOcc = false ∧ (headAt y false true).fct.laneFault = true) := by
  decide +kernel

/-- May TAKE and May STORE, answered yes and no. -/
theorem witness_ExtractorPhases_may :
    (live.mayTake 3 = true ∧ (retiredAt live 3).mayTake 3 = false) ∧ live.mayTake 16 = false
      ∧ (live.mayStore 3 = true ∧ (allHeld live).mayStore 3 = false) := by
  decide +kernel

/-- R132, R133: the extension keeps the start tick of ENGAGE. -/
theorem test_engage_start_kept :
    ((after (.engageMinimumEnd true) (taking .engage false false)).fct.cycle).map (fun c => (c.phase, c.extended, c.started))
      = some (.engage, true, 90000) := by
  decide +kernel

/-- The end of a TAKE for a group that stands on the lane, its release pending. -/
def takingMore : Station :=
  let x := withGroup (taking .withdraw false false) (group .requested)
  { x with fct := { x.fct with pendingRelease := some { order := 5120, count := 1 } } }

theorem witness_TakeCycleEnds :
    let x := taking .withdraw false false
    (x.live ∧ x.fct.cycle = some (cycle .take .withdraw false false) ∧ x.cfg.withdrawTime ≤ (x.tick - 90000).toNat
        ∧ (cycle .take .withdraw false false).timedOut = false ∧ x.faceTask? = some (task pickStop)
        ∧ (task pickStop).job = pickStop)
      ∧ (x.bay? { carrier := 3, bay := 0 }).isSome ∧ x.record? 0 = some (pickRec .won { bid with sent := true })
      ∧ x.NamesFresh ∧ (x.group? 5120).isNone ∧ (takingMore.group? 5120).isSome ∧ takingMore.NamesFresh
      ∧ (takingMore.live ∧ takingMore.fct.cycle = x.fct.cycle ∧ takingMore.faceTask? = x.faceTask?)
      ∧ takingMore.fct.pendingRelease = some { order := 5120, count := 1 } ∧ takingMore.fct.lane ≠ .releasing := by
  unfold Station.NamesFresh
  decide +kernel

/-- R136, R14, R154, R156: the tyre taken leaves the bay with 3 tyres, stands on the lane, and its record is readied. -/
theorem test_take_cycle :
    (match exec (.cycleEnd false) ⟨taking .withdraw false false, []⟩ with
      | .next t => ((t.station.bay? { carrier := 3, bay := 0 }).map (fun b => (b.count, b.reserved)),
          t.station.cnu.groups.map (fun g => g.tyres), t.station.bus.posts.map (fun p => (p.kind, p.payload)))
      | _ => (none, [], [])) = (some (3, 0), [[stagedTyre]], [(.rdy, [20, 0, 1])]) := by
  decide +kernel

/-- R154, R144: the tyre joins its order's group at the back, and the pending release counts it. -/
theorem test_take_joins :
    (let y := after (.cycleEnd false) takingMore
     (y.cnu.groups.map (fun g => g.tyres.length), y.fct.pendingRelease.map (fun r => r.count))) = ([2], some 2) := by
  decide +kernel

theorem witness_StoreAndReturnCyclesEnd :
    (let x := storing false
     x.live ∧ x.fct.cycle = some { cycle .store .withdraw false false with carrier := 4, bay := 1 }
        ∧ x.cfg.withdrawTime ≤ (x.tick - 90000).toNat
        ∧ x.faceTask? = some (task (.load 1 { carrier := 4, bay := 1 }))
        ∧ (x.smap.carriers[4]?).any (fun k => k.bays[1]? == some (bay 1270 1 0 2)) ∧ 1 ≤ (bay 1270 1 0 2).incoming
        ∧ x.record? 1 = some (putRec .loading 1 { bid with sent := true }) ∧ x.NamesFresh)
      ∧ ¬ (putRec .loading 1 bid).qty ≤ 0 + 1 ∧ (({ putRec .loading 1 bid with qty := 1 } : LineRec).qty ≤ 0 + 1)
      ∧ (let x := returning
        x.live ∧ x.fct.cycle = some { cycle .ret .withdraw false false with carrier := 4, bay := 1 }
          ∧ x.faceTask? = some (task (.putback 5120 (some { carrier := 4, bay := 1 })))
          ∧ (x.smap.carriers[4]?).any (fun k => k.bays[1]? == some (bay 1270 1 0 2))
          ∧ x.group? 5120 = some { group .clear with returning := true, putbackMark := true }
          ∧ (group .clear).tyres = stagedTyre :: [] ∧ stagedTyre.serial = some 0
          ∧ x.record? 0 = some (pickRec .returning { bid with sent := true }) ∧ x.NamesFresh) := by
  unfold Station.NamesFresh
  decide +kernel

/-- R141, R140: the tyre stored raises the count, and an occupancy sensor still asserted is a SURPLUS tyre. -/
theorem test_store_cycle :
    (match exec (.cycleEnd true) ⟨storing false, []⟩ with
      | .next t => ((t.station.bay? { carrier := 4, bay := 1 }).map (fun b => (b.count, b.incoming)), t.station.fct.infeed)
      | _ => (none, .none)) = (some (2, 1), .surplus) := by
  decide +kernel

/-- R146, R166: the last tyre returned ends the record and the group. -/
theorem test_return_cycle :
    (match exec (.cycleEnd false) ⟨returning, []⟩ with
      | .next t => ((t.station.bay? { carrier := 4, bay := 1 }).map (fun b => (b.count, b.incoming)),
          t.station.cnu.groups.length, t.station.clu.records.length)
      | _ => (none, 9, 9)) = (some (2, 1), 0, 0) := by
  decide +kernel

theorem witness_TimedOutCycleEnds :
    (let x := taking .withdraw true true
     x.live ∧ x.fct.cycle = some (cycle .take .withdraw true true) ∧ x.cfg.withdrawTime ≤ (x.tick - 90000).toNat
        ∧ (cycle .take .withdraw true true).timedOut = true ∧ x.faceTask? = some (task pickStop)
        ∧ (x.smap.carriers[3]?).isSome ∧ x.fct.timeoutMark = false ∧ x.NamesFresh
        ∧ x.record? 0 = some (pickRec .won { bid with sent := true }) ∧ x.bay? { carrier := 3, bay := 0 } = some (bay 1262 4 1 0)
        ∧ x.order? 5120 = some (order .opened []) ∧ (order .opened []).abandon = none ∧ (order .opened []).abandonOwed = none)
      ∧ ({ taking .withdraw true true with fct := { (taking .withdraw true true).fct with timeoutMark := true } }
          : Station).fct.timeoutMark = true
      ∧ (taking .withdraw true true).stc.mode = .running := by
  unfold Station.NamesFresh
  decide +kernel

/-- R138: the aborted stop gives its reservation back, and its order is abandoned as stock lost. -/
theorem test_aborted_stop :
    (let y := after (.cycleEnd false) (taking .withdraw true true)
     ((y.bay? { carrier := 3, bay := 0 }).map (fun b => (b.count, b.reserved)), (y.pick? 0).map (fun b => b.sel.map (fun e => e.qty)),
       (y.bus.posts.filter (fun p => p.kind = .abn)).map (fun p => p.payload), y.mpl.tasks.length))
      = (some (4, 0), some [0], [[20, 0, 2]], 0) := by
  decide +kernel

/-- R135, R32, R192: a second timeout in a row halts the station; the third fault of a carrier retires it. -/
theorem test_second_timeout :
    (let x := taking .withdraw true true
     let x := { x.updCarrier 3 (fun k => { k with faults := 2 }) with fct := { x.fct with timeoutMark := true } }
     match exec (.cycleEnd false) ⟨x, []⟩ with
      | .next t => (t.station.stc.mode, (t.station.smap.carriers[3]?).map (fun k =>
          (k.faults, k.locks.retired, k.locks.quarantine)), t.station.fct.timeoutMark)
      | _ => (.running, none, true)) = (.halted, some (3, true, true), false) := by
  decide +kernel

/-- A cycle that met EXTRACTOR_TIMEOUT. -/
def late (x : Station) : Station :=
  { x with fct := { x.fct with cycle := x.fct.cycle.map (fun (c : Cycle) => { c with timedOut := true }) } }

theorem witness_TimedOutCycleEnds_store :
    (∀ x ∈ [late (storing false), late returning],
        x.live ∧ x.fct.cycle.any (fun c => decide (c.phase = .withdraw ∧ c.timedOut = true ∧ c.carrier = 4)
          && decide (x.cfg.withdrawTime ≤ (x.tick - c.started).toNat)) = true
        ∧ (x.smap.carriers[4]?).isSome ∧ x.fct.timeoutMark = false ∧ x.NamesFresh ∧ x.bay? { carrier := 4, bay := 1 } ≠ none
        ∧ ∀ r ∈ x.clu.records, r.tentative = false)
      ∧ ((late (storing false)).faceTask?.map (fun t => t.job) = some (.load 1 { carrier := 4, bay := 1 })
        ∧ ((late (storing false)).put? 1).isSome ∧ (({ late (storing false) with clu := Clu.atStart } : Station).put? 1).isNone
        ∧ (late (storing false)).fct.infeed = .ofRecord 1)
      ∧ (late returning).faceTask?.map (fun t => t.job) = some (.putback 5120 (some { carrier := 4, bay := 1 }))
      ∧ (let g := { group .clear with returning := true, putbackMark := true }
        (late returning).group? 5120 = some g ∧ (late returning).cnu.groups.head? = some g ∧ g.returning = true
          ∧ g.release = .clear ∧ g.tyres ≠ []) := by
  unfold Station.NamesFresh
  decide +kernel

/-- R141, R140, R110: with the sensor clear after a STORE that timed out the arrival is withdrawn, and no STORE is counted.
R146: a RETURN that timed out is unexpected, and the putback asks for another bay. -/
theorem test_store_return_timeout :
    (let x := late (storing false)
     let y := after (.cycleEnd false) x
     let z := after (.cycleEnd false) (late returning)
     (y.fct.infeed, ((x.put? 1).map (fun b => b.arrived), (y.put? 1).map (fun b => (b.arrived, b.stored))),
       (z.bay? { carrier := 4, bay := 1 }).map (fun b => (b.count, b.incoming)),
       z.mpl.tasks.map (fun t => t.job), z.cnu.groups.map (fun g => g.tyres.length)))
      = (.none, (some 1, some (0, 0)), some (1, 1), [.putback 5120 (some { carrier := 3, bay := 0 })], [1]) := by
  decide +kernel

theorem witness_LaneSensorsEndCommands :
    (∀ l ∈ [Lane.stowing, .presenting, .idle], (laneAt live l).live ∧ (laneAt live l).fct.lane = l)
      ∧ (live.live ∧ live.fct.lane ≠ .releasing)
      ∧ (∀ n ∈ [0, 1],
        (releasing n).live ∧ (releasing n).fct.lane = .releasing
          ∧ (releasing n).fct.pendingRelease = some { order := 5120, count := 2 } ∧ (releasing n).fct.exitCount = n
          ∧ (releasing n).NamesFresh ∧ ∀ g ∈ (releasing n).cnu.groups, g.release ≠ .held) := by
  unfold Station.NamesFresh
  decide +kernel

/-- R144, R160: the second exit pulse completes the release of 2 tyres. -/
theorem test_release_complete :
    (match exec .laneExitPulse ⟨releasing 1, []⟩ with
      | .next t => (t.station.fct.lane, t.station.cnu.groups.length, t.station.cnu.orders.map (fun e => e.state),
          t.station.clu.records.length)
      | _ => (.releasing, 9, [], 9)) = (.idle, 0, [.closed], 0) := by
  decide +kernel

theorem witness_LaneTimerHalts :
    (∀ x ∈ [releasing 1, halted (releasing 1), laneAt live .stowing, laneAt (halted live) .sweeping],
        x.live ∧ x.fct.lane ≠ .idle ∧ x.cfg.releaseTimeout * 1000 ≤ (x.tick - x.fct.laneStarted).toNat
          ∧ x.stc.mode ≠ .starting ∧ x.stc.start = .done
          ∧ ∀ r ∈ x.clu.records, r.tentative = true → x.fct.infeed ≠ .ofRecord r.serial)
      ∧ (let x := releasing 1
        x.fct.lane = .releasing ∧ x.fct.pendingRelease = some { order := 5120, count := 2 } ∧ (x.group? 5120).isSome
          ∧ ∀ h ∈ x.cnu.groups, h.release ≠ .held)
      ∧ (laneAt live .stowing).fct.lane ≠ .releasing ∧ (halted live).stc.mode = .halted
      ∧ live.fct.lane = .idle
      ∧ ¬ live.cfg.releaseTimeout * 1000 ≤ (live.tick - 98001).toNat := by
  decide +kernel

/-- R143, R160, R192: a release that fails after one exit leaves one tyre, keeps its release flag, and halts the station; in
HALTED the fault is recorded alone. -/
theorem test_lane_timer :
    (let y := after .laneTimerExpiry (releasing 1)
     let z := after .laneTimerExpiry (laneAt (halted live) .stowing)
     ((y.stc.mode, y.fct.lane, y.cnu.groups.map (fun g => (g.tyres.length, g.releaseFlag))),
      (z.stc.mode, z.fct.lane, z.stc.lastFault)))
      = ((.halted, .idle, [(1, true)]), (.halted, .idle, some .releaseTimeout)) := by
  decide +kernel

theorem witness_InfeedCounts :
    (let x := holding [putRec .won 0 { bid with sent := true }]
     x.live ∧ x.fct.infeed = .none ∧ (x.arrivalRecord).map (fun z => z.1.serial) = some 1 ∧ x.NamesFresh)
      ∧ (live.live ∧ live.arrivalRecord = none ∧ ({ live.fct with infeed := .surplus } : Fct).infeed ≠ .none)
      ∧ (live.fct.storing = false
        ∧ (let x := { holding [putRec .loading 1 bid] with fct := { Fct.atStart with infeed := .ofRecord 1 } }
          x.live ∧ x.fct.storing = false ∧ x.fct.infeed = .ofRecord 1 ∧ (x.put? 1).isSome))
      ∧ ((storing false).live ∧ (storing false).fct.storing = true) := by
  unfold Station.NamesFresh
  decide +kernel

/-- R140, R141: a fall during a STORE cycle takes no arrival back, and without one it does. -/
theorem test_infeed_fall :
    (let x := { holding [putRec .loading 1 bid] with fct := { Fct.atStart with infeed := .ofRecord 1 } }
     let y := after .infeedOccFall (storing false)
     let z := after .infeedOccFall x
     ((y.fct.infeed, (y.put? 1).map (fun b => b.arrived)), (z.fct.infeed, (z.put? 1).map (fun b => b.arrived))))
      = ((.ofRecord 1, some 1), (.none, some 0)) := by
  decide +kernel

/-- R139, R109, R119: an arrival is counted, and its LOAD task begins the move to carrier 4. -/
theorem test_arrival :
    (match exec .infeedArrival ⟨holding [putRec .won 0 { bid with sent := true }], []⟩ with
      | .next t => (t.station.fct.infeed, t.station.mpl.tasks.map (fun t => t.job), t.station.pins.drive)
      | _ => (.none, [], .inactive)) =
      (.ofRecord 1, [.load 1 { carrier := 4, bay := 1 }], .move .forward 2) := by
  decide +kernel

/-- A reading in flight of bay 0 of carrier 3, of a START scan, or of a touch audit. -/
def scanning (p : Option Purpose) (discard : Bool) : Station :=
  let x := withTask { live with mpl := { live.mpl with p := some 3 } } (.scan 3 .start)
  { x with fct := { x.fct with
      task := some 0, stage := .reading
      gauge := some { carrier := 3, bay := 0, purpose := p, started := 99000, discard := discard } } }

theorem witness_GaugeReadings :
    (∀ z ∈ [(some Purpose.start, false), (none, false), (some .start, true)],
        (scanning z.1 z.2).live
          ∧ (scanning z.1 z.2).fct.gauge =
            some { carrier := 3, bay := 0, purpose := z.1, started := 99000, discard := z.2 })
      ∧ 1000 ≤ ((scanning none false).tick - 99000).toNat ∧ ((scanning none false).tick - 99001).toNat < 1000
      ∧ 0 + 1 < (scanning none false).cfg.b ∧ (scanning none false).cfg.b ≤ 1 + 1
      ∧ (scanning (some .start) false).fct.task = some 0 ∧ (live.bay? { carrier := 3, bay := 0 }).isSome := by
  decide +kernel

/-- A report posted, and owed where the post table is full; a scan that ends with its note clear and set; the grades of a touch
audit. -/
theorem witness_GaugeReadings_reports :
    (live.adu.owedReports.map (fun o => o.carrier)).Nodup ∧ (live.bus.accepts .arp = true ∧ Kind.arp ∉ live.bus.owed)
      ∧ ¬ ((readied 12 false).bus.accepts .arp = true ∧ Kind.arp ∉ (readied 12 false).bus.owed)
      ∧ (live.smap.carriers[3]?).isSome ∧ live.adu.note = false ∧ ({ live.adu with note := true } : Adu).note = true
      ∧ (live.carrier? 3).map (fun k => k.bays[0]?) = some (some (bay 1262 4 1 0))
      ∧ (∀ z ∈ [(860, Grade.clean), (645, .adjusted), (215, .discrepant), (4095, .unsure)],
        (live.grade (bay 1262 4 1 0) z.1).result.grade = z.2)
      ∧ (bay 1262 4 1 0).unsureOnce = false ∧ ({ bay 1262 4 1 0 with unsureOnce := true } : Bay).unsureOnce = true := by
  decide +kernel

/-- R178: a first UNSURE in a scan keeps UNVERIFIED and wants the scan again. -/
theorem test_scan_unsure :
    (let x := (scanning (some .start) false).putReason 3 .unverified true
     let y := after (.gaugeAnswer 0) (after (.gaugeAnswer 300) x)
     ((y.smap.carriers[3]?).map (fun k => k.locks.unverified), y.mpl.tasks.map (fun t => t.job)))
      = (some true, [.scan 3 .start]) := by
  decide +kernel

/-- R174 to R176, R178: a START scan of carrier 3 with 3 tyres of pitch 215 measured where 4 are recorded adjusts the count,
clears UNVERIFIED, and is reported. -/
theorem test_scan :
    (let x := (scanning (some .start) false).putReason 3 .unverified true
     match exec (.gaugeAnswer 645) ⟨x, []⟩ with
      | .next t =>
        match exec (.gaugeAnswer 0) t with
        | .next u => ((u.station.smap.carriers[3]?).map (fun k => (k.locks.unverified, k.bays.map (fun b => b.count))),
            u.station.bus.posts.map (fun p => p.payload))
        | _ => (none, [])
      | _ => (none, [])) = (some (false, [3, 0]), [[3, 0x24, 3, 0x10, 0]]) := by
  decide +kernel

theorem witness_GradeEffects :
    (∀ z ∈ [(860, Grade.clean), (645, .adjusted), (215, .discrepant), (4095, .unsure)],
        (live.grade (bay 1262 4 1 0) z.1).result.grade = z.2)
      ∧ (live.carrier? 3).map (fun k => k.bays[0]?) = some (some (bay 1262 4 1 0))
      ∧ (let g := (live.grade (bay 1262 4 1 0) 645).result
        (bay 1262 4 1 0).reserved ≤ g.measured ∧ g.measured ≠ 0
          ∧ g.measured + (bay 1262 4 1 0).incoming ≤ (live.bayCap (bay 1262 4 1 0)).getD 0)
      ∧ ({ bay 1262 4 1 0 with unsureOnce := true } : Bay).unsureOnce = true := by
  decide +kernel

/-- The records of order 5120 that hold a tyre of bay (3, 0): TENTATIVE, WON, and none cuttable. -/
theorem witness_GradeEffects_cut :
    (∀ x ∈ [withOrder (holding [pickRec .tentative bid]) (order .opened []),
          withOrder (holding [pickRec .won bid]) (order .opened []), withOrder (holding [pickRec .picking bid]) (order .opened [])],
        x.NamesFresh ∧ x.fct.cycle = none ∧ x.bay? { carrier := 3, bay := 0 } = some (bay 1262 4 1 0)
          ∧ (x.bay? { carrier := 3, bay := 0 }).bind x.bayCap = some 5
          ∧ ∀ r ∈ x.clu.records, r.pickOf 5120 [.tentative, .won, .picking] = true)
      ∧ (bay 1262 4 1 0).reserved - 0 = 1 ∧ (live.bay? { carrier := 3, bay := 0 }).isSome = true := by
  unfold Station.NamesFresh
  decide +kernel

/-- R16, R113, R158: a cut to no tyre takes the WON record of the bay, and an ABN of its order is posted; a PICKING record is
not cut, and the count stays at what it holds. -/
theorem test_cut :
    ([PickState.won, .picking].map (fun w =>
      let x := withOrder (holding [pickRec w bid]) (order .opened [])
      let y := x.adjust { carrier := 3, bay := 0 } 0
      (y.clu.records.length, y.bus.posts.map (fun p => p.kind),
        (y.bay? { carrier := 3, bay := 0 }).map (fun b => (b.count, b.reserved)))))
      = [(0, [.abn], some (0, 0)), (1, [], some (1, 1))] := by
  decide +kernel

theorem witness_ServiceRequest :
    (live.live ∧ live.stc.mode = .running ∧ live.stc.hold = .none ∧ live.pins.svcAck = false)
      ∧ ((halted live).live ∧ (halted live).stc.mode = .halted ∧ (halted live).stc.hold = .none
        ∧ (halted live).pins.svcAck = false)
      ∧ (let x := { live with stc := { live.stc with mode := .service, hold := .waiting } }
        x.live ∧ x.stc.hold = .waiting ∧ x.faceFree = true ∧ x.mpl.p = some 2 ∧ (x.smap.carriers[2]?).isSome
          ∧ x.stc.hold ≠ .none ∧ x.stc.mode = .service)
      ∧ (let x := bidding false
        x.live ∧ x.stc.mode = .running ∧ x.stc.hold = .none ∧ x.NamesFresh
          ∧ ∀ r ∈ x.clu.records, r.tentative = true ∧ r.bid.sent = false
          ∧ r.bid.expired = false ∧ r.bid.claim = some 0 ∧ x.bus.canWithdraw 0 = true)
      ∧ (let y := after .svcReqRise (scanning (some .start) false)
        y.live ∧ y.stc.hold = .waiting ∧ y.pins.svcAck = false) := by
  unfold Station.NamesFresh
  decide +kernel

/-- R191: the fall of SVC_REQ releases the hold and SVC_ACK, and the station is in RUNNING. -/
theorem test_service_ends :
    (let y := after .svcReqFall (after .svcReqRise live)
     (y.stc.mode, y.stc.hold, y.pins.svcAck)) = (.running, .none, false) := by
  decide +kernel

/-- R130, R191: as the hold ends the decision comes first, so that the SCAN asked for after it has not been passed over. -/
theorem test_service_end_decides :
    (let x := after .svcReqRise (withOrder (holding [pickRec .won bid]) (order .opened []))
     let y := after .svcReqFall x
     (y.mpl.move.map (fun m => m.target), y.mpl.tasks.map (fun t => (t.job, t.passed))))
      = (some 3, [(pickStop, 0), (.scan 2 .touched, 0)]) := by
  decide +kernel

/-- R130: a PRESENT that runs at the face does not keep it from being free. -/
theorem test_service_present :
    (let x := withTask (returned { carrier := 3, bay := 0 }) (.putback 5120 (some { carrier := 3, bay := 0 }))
     let y := after .svcReqRise { x with fct := { x.fct with task := some 0, stage := .presenting, lane := .presenting } }
     (y.stc.hold, y.fct.task, y.fct.lane)) = (.acked, none, .presenting) := by
  decide +kernel

/-- R189: with the face free, SVC_REQ is acknowledged at once, and the carrier at the face is TOUCHED. -/
theorem test_service :
    (match exec .svcReqRise ⟨live, []⟩ with
      | .next t => (t.station.stc.mode, t.station.stc.hold, t.station.pins.svcAck,
          (t.station.smap.carriers[2]?).map (fun k => k.locks.touched))
      | _ => (.running, .none, false, none)) = (.service, .acked, true, some true) := by
  decide +kernel

/-! ### Arithmetic, choices, invariants -/

theorem witness_ClaimFigures :
    (0 < 16 ∧ 15 < 16 ∧ 0 < 16) ∧ (0 < 1200 ∧ 1200 ≤ 1200 ∧ 1199 < 1200) ∧ (0 < 215 ∧ capB 1200 215 < 15) := by
  decide +kernel

theorem witness_ImbalanceIsLargest : balanceCase ≠ [] ∧ balanceCase.length % 2 = 0 ∧ 15 < balanceCase.length := by
  decide +kernel

theorem witness_PickSelectionCovers :
    1 ≤ 2 ∧ live.pickSelection 100 2 = some [{ carrier := 3, bay := 0, qty := 2, week := 1262, taskMark := false }]
      ∧ live.pickSelection 100 4 = some [
        { carrier := 3, bay := 0, qty := 3, week := 1262, taskMark := false },
        { carrier := 4, bay := 1, qty := 1, week := 1270, taskMark := false }]
      ∧ live.pickSelection 100 5 = none ∧ (allHeld live).pickSelection 100 1 = none := by
  decide +kernel

/-- R44: the oldest week first, then the shorter travel; a bay of 4 reserved tyres is no candidate. -/
theorem test_pick_order :
    (let x := { live with smap := { live.smap with
        carriers := ((live.smap.carriers.set 1 (shelf [bay 1270 1 0 0, Bay.empty] 110)).set 15
          (shelf [bay 1262 1 0 0, bay 1250 4 4 0] 550)) } }
     (x.pickSelection 100 6).map (fun l => l.map (fun e => (e.carrier, e.bay, e.qty))))
      = some [(3, 0, 3), (15, 0, 1), (1, 0, 1), (4, 1, 1)] := by
  decide +kernel

theorem witness_PickKeyWeighsAgeAndTravel :
    live.cfg.ka ≤ 15 ∧ live.cfg.kt ≤ 15 ∧ 1 ≤ live.cfg.station ∧ live.cfg.station ≤ 48 := by decide +kernel

theorem witness_PutawayBayChosen :
    let proposed := imbalanceOf (live.weights.modify 4 (fun w => w + 2 * tyre.unitMass))
    (live.mayStore 4 = true ∧ (bay 1270 1 0 2).binding = some { article := tyre.code, week := 1270 }
        ∧ 1 + 2 + 2 ≤ min 15 (live.cfg.h / tyre.pitch) ∧ proposed ≤ live.cfg.limit)
      ∧ ¬ 1 + 2 + 3 ≤ min 15 (live.cfg.h / tyre.pitch) ∧ (live.chosenBay tyre 1270 2).isSome := by
  decide +kernel

theorem witness_ReadingGraded :
    Bay.empty.binding = none ∧ (bay 1262 4 1 0).binding = some { article := 100, week := 1262 }
      ∧ live.smap.article? 100 = some tyre := by
  decide +kernel

theorem witness_DecisionChoosesBest :
    let x := withTask (withOrder (holding [pickRec .won bid]) (order .opened [])) pickStop
    (x.chosenTask = some (task pickStop) ∧ x.ready (task pickStop).job = true ∧ live.mpl.tasks = [])
      ∧ ((allHeld x).ready pickStop = false ∧ (storing false).ready (.load 1 { carrier := 4, bay := 1 }) = true
        ∧ live.ready (.load 1 { carrier := 4, bay := 1 }) = false
        ∧ returning.ready (.putback 5120 (some { carrier := 4, bay := 1 })) = true ∧ returning.ready (.putback 5120 none) = false
        ∧ live.ready (.scan 3 .start) = true)
      ∧ (live.acceptsTask (.scan 3 .start) = true ∧ (scanning none false).acceptsTask (.scan 3 .touched) = false)
      ∧ (∀ y ∈ [after .takeOut (holding [pickRec .won bid]), after .takeOut (holding [putRec .loading 1 bid])],
        y.live ∧ y.mpl.tasks.length < 24 ∧ y.clu.records.length = 1
          ∧ ∀ r ∈ y.clu.records, r.won = true ∨ (y.put? r.serial).any (fun b => b.state = .loading)) := by
  decide +kernel

/-- A LOADING record with a tyre at the infeed and its LOAD asked for, beside a SCAN that waits. -/
def arrived : Station :=
  let x := withTask (holding [(putRec .loading 1 bid).mapPut (fun b => { b with loadMark := true })]) (.scan 9 .start)
  { x with fct := { x.fct with infeed := .ofRecord 1 }, pins := { x.pins with infeedOcc := true } }

theorem witness_DecisionChoosesBest_events :
    (arrived.NamesFresh ∧ (arrived.put? 1).isSome)
      ∧ (let x := returned { carrier := 3, bay := 0 }
        let x := withTask x (.putback 5120 none)
        x.NamesFresh ∧ ∃ t ∈ x.mpl.tasks, ∃ old, t.job = .putback 5120 old ∧ old ≠ some { carrier := 3, bay := 0 }) := by
  unfold Station.NamesFresh
  refine ⟨by decide +kernel, by decide +kernel, task (.putback 5120 none), by decide +kernel, none, rfl, by decide +kernel⟩

/-- R120, R140: the planner decides on an arrival counted, not on one withdrawn: the waiting SCAN keeps waiting. -/
theorem test_arrival_withdrawn :
    (let empty := { arrived with
       fct := { arrived.fct with infeed := .none }, pins := { arrived.pins with infeedOcc := false } }
     [after .infeedOccFall arrived, after .infeedArrival empty].map (fun y =>
       ((y.put? 1).map (fun b => b.arrived), y.mpl.move.isSome))) = [(some 0, false), (some 2, true)] := by
  decide +kernel

/-- The planner may decide: no task ready; the chosen one at distance 0, in the last direction, against it with the dwell still
to run; a PUTBACK that is blocked. -/
theorem witness_DecisionChoosesBest_decision :
    let may := fun x : Station => x.stc.mode = .running ∧ x.stc.hold = .none ∧ x.mpl.move = none ∧ x.fct.task = none
      ∧ x.mpl.held = none ∧ x.mpl.p ≠ none
    let x := withTask (withOrder (holding [pickRec .won bid]) (order .opened [])) pickStop
    let back := { x with cfg := { cfg with dwell := 1001 }, mpl := { x.mpl with lastDir := .backward } }
    (may live ∧ live.chosenTask = none ∧ ¬ may (halted live))
      ∧ (may x ∧ x.chosenTask = some (task pickStop) ∧ x.mpl.p = some 2 ∧ pickStop.target = some 3
        ∧ min (forwardDistance 16 2 3) (backwardDistance 16 2 3) = 1 ∧ x.mpl.lastDir = .forward)
      ∧ min (forwardDistance 16 3 3) (backwardDistance 16 3 3) = 0
      ∧ (may back ∧ back.chosenTask = some (task pickStop) ∧ back.mpl.lastInPos = some 99000
        ∧ ¬ back.cfg.dwell ≤ (back.tick - 99000).toNat)
      ∧ (let y := allHeld (returned { carrier := 3, bay := 0 })
        y.blocked (.putback 5120 (some { carrier := 3, bay := 0 })) = some (5120, { carrier := 3, bay := 0 })) := by
  decide +kernel

/-- R118, R120: of two SCANs added by one request the first, added first, is chosen; the other is passed over. -/
theorem test_first_added_goes :
    (let y := after .arqByRange (Hearing live (control 10 7 [1, 5, 6, 0, 0, 0]))
     (y.mpl.tasks.map (fun t => (t.job, t.passed)), y.mpl.move.map (fun m => m.target)))
      = ([(.scan 5 .request, 0), (.scan 6 .request, 0)], some 5) := by
  decide +kernel

/-- Every station of a step that keeps the rules: the small station, with a command that answers a next state. -/
theorem witness_StepKeepsBusSound :
    live.bus.Sound ∧ ∃ t, step ⟨live, [.takeOut]⟩ = .next t := by
  refine ⟨?_, _, rfl⟩
  unfold Bus.Sound
  decide +kernel

theorem witness_StepKeepsModeRules :
    live.ModeRules ∧ (halted live).ModeRules ∧ (joining true true).ModeRules ∧ resuming.ModeRules
      ∧ ∃ t, step ⟨live, [.svcReqRise]⟩ = .next t := by
  refine ⟨?_, ?_, ?_, ?_, _, rfl⟩ <;> (unfold Station.ModeRules; decide +kernel)

/-- Every path of the table of R185: the mode after the command is another. -/
theorem witness_StepKeepsModeRules_paths :
    ([(Instr.powerLoss, live), (.join false, joining true false), (.join false, joining false false),
        (.join false, joining true true), (.svcReqRise, live), (.svcReqFall, after .svcReqRise live),
        (.home, live), (.inPos, resuming)].map (fun z => (z.2.stc.mode, (after z.1 z.2).stc.mode)))
      = [(.running, .starting), (.starting, .running), (.starting, .halted), (.starting, .service), (.running, .service),
        (.service, .running), (.running, .halted), (.halted, .running)] := by
  decide +kernel

theorem witness_StepKeepsPosition :
    live.ModeRules ∧ live.PositionRule ∧ ∃ t, step ⟨live, [.index]⟩ = .next t := by
  refine ⟨?_, ⟨by decide +kernel, ?_, fun h => nomatch h⟩, _, rfl⟩
  · unfold Station.ModeRules
    decide +kernel
  · rintro p h
    cases h
    decide +kernel

theorem witness_StepKeepsTables :
    ((bidding false).Limits ∧ (bidding false).NamesFresh ∧ (bidding false).LaneRule)
      ∧ ∃ t, step ⟨bidding false, [.takeOut]⟩ = .next t := by
  refine ⟨⟨?_, ?_, ?_⟩, _, rfl⟩
  · unfold Station.Limits
    decide +kernel
  · unfold Station.NamesFresh
    decide +kernel
  · refine ⟨by decide +kernel, ?_, ?_, ?_, by decide +kernel, by decide +kernel, by decide +kernel, by decide +kernel⟩
    · intro t h
      cases h
    on_goal 2 =>
      intro t h
      cases h
    intro r hr b hb
    rcases List.mem_cons.mp hr with rfl | hr
    · cases hb
      decide +kernel
    · cases hr

theorem witness_StepKeepsFaultCounts :
    live.FaultCounts ∧ live.BayRule ∧ ∃ t, step ⟨live, [.cctHold]⟩ = .next t := by
  refine ⟨⟨?_, ?_⟩, ?_, _, rfl⟩
  · unfold Carrier.FaultRule faultRule
    have h : ∀ k ∈ live.smap.carriers, (k.faults ≤ 3 ∧ (k.faults = 3 → k.locks.retired = true)) ∧ k.write = .idle := by
      decide +kernel
    intro k hk
    refine ⟨(h k hk).1, ?_⟩
    rw [(h k hk).2]
    trivial
  · have h : ∀ r ∈ live.retained.carriers, r = Stored.failed := by decide +kernel
    intro r hr
    rw [h r hr]
    trivial
  · unfold Station.BayRule
    decide +kernel

end Sys2Proof.Tests
end

section
/-! ### What only the commands themselves change -/

namespace Sys2Proof.Machine

/-- What no request between the blocks changes, nor anything else that a command brings about beyond its own report: the
supply, the clock, the configuration, the retained memory, the position, how far start has come, the join, and the
levels of the input lines. -/
structure Ground where
  power : Power
  tick : Tick
  cfg : Config
  retained : Retained
  p : Option Nat
  start : StartStep
  homed : Bool
  joined : Bool
  reset : Bool
  laneClear : Bool
  headOcc : Bool
  extBusy : Bool
  infeedOcc : Bool
  svcReq : Bool

/-- The ground is a part of the view, so that whatever keeps the view keeps it. -/
def View.ground (v : View) : Ground where
  power := v.power
  tick := v.tick
  cfg := v.cfg
  retained := v.retained
  p := v.p
  start := v.stc.start
  homed := v.stc.homed
  joined := v.bus.joined
  reset := v.pins.reset
  laneClear := v.pins.laneClear
  headOcc := v.pins.headOcc
  extBusy := v.pins.extBusy
  infeedOcc := v.pins.infeedOcc
  svcReq := v.pins.svcReq

/-- The ground of a station written out field by field. -/
@[simp] theorem ground_mk (power : Power) (tick : Tick) (cfg : Config) (stc : Stc) (bus : Bus) (smap : Smap)
    (retained : Retained) (clu : Clu) (mpl : Mpl) (fct : Fct) (cnu : Cnu) (adu : Adu) (pins : Pins) :
    (Station.mk power tick cfg stc bus smap retained clu mpl fct cnu adu pins).view.ground =
      ⟨power, tick, cfg, retained, mpl.p, stc.start, stc.homed, bus.joined, pins.reset, pins.laneClear, pins.headOcc,
        pins.extBusy, pins.infeedOcc, pins.svcReq⟩ := rfl

/-- The ground put together again from the fields of one station. -/
@[simp] theorem ground_eta (s : Station) :
    (⟨s.power, s.tick, s.cfg, s.retained, s.mpl.p, s.stc.start, s.stc.homed, s.bus.joined, s.pins.reset, s.pins.laneClear,
      s.pins.headOcc, s.pins.extBusy, s.pins.infeedOcc, s.pins.svcReq⟩ : Ground) = s.view.ground := rfl

theorem foldl_ground {α : Type} (f : Station → α → Station) (h : ∀ s x, (f s x).view.ground = s.view.ground)
    (l : List α) (s : Station) : (l.foldl f s).view.ground = s.view.ground := by
  induction l generalizing s with
  | nil => rfl
  | cons x xs ih => rw [List.foldl_cons, ih, h]

/-- `ground_of_view` turns a kept view, as a post leaves it, into a kept ground. -/
theorem ground_of_view {s t : Station} (h : t.view = s.view) : t.view.ground = s.view.ground := congrArg View.ground h

section
variable (s : Station)

/-! #### Stock Map and Lock Table -/

@[simp] theorem updCarrier_ground (c : Nat) (f : Carrier → Carrier) :
    (s.updCarrier c f).view.ground = s.view.ground := rfl

@[simp] theorem changeBay_ground (a : BayAddr) (f : Bay → Bay) : (s.changeBay a f).view.ground = s.view.ground := by
  unfold Station.changeBay
  exact foldl_ground _ (by simp) _ _

@[simp] theorem reserve_ground (article : Nat) (entries : List SelEntry) :
    (s.reserve article entries).2.view.ground = s.view.ground := by
  unfold Station.reserve
  split
  · rfl
  · exact foldl_ground _ (by simp) _ _

@[simp] theorem unreserve_ground (entries : List (BayAddr × Nat)) :
    (s.unreserve entries).view.ground = s.view.ground := by
  unfold Station.unreserve
  split
  · exact foldl_ground _ (by simp) _ _
  · rfl

@[simp] theorem takeReport_ground (a : BayAddr) : (s.takeReport a).view.ground = s.view.ground :=
  changeBay_ground _ _ _

@[simp] theorem storeReport_ground (a : BayAddr) : (s.storeReport a).view.ground = s.view.ground :=
  changeBay_ground _ _ _

@[simp] theorem setCountAfterCut_ground (a : BayAddr) (n : Nat) (d : Bool) :
    (s.setCountAfterCut a n d).view.ground = s.view.ground :=
  changeBay_ground _ _ _

@[simp] theorem putReason_ground (c : Nat) (r : Reason) (v : Bool) : (s.putReason c r v).view.ground = s.view.ground :=
  rfl

@[simp] theorem extractorFault_ground (c : Nat) : (s.extractorFault c).view.ground = s.view.ground := rfl

@[simp] theorem unretire_ground (c : Nat) : (s.unretire c).view.ground = s.view.ground := rfl

@[simp] theorem scanCompleted_ground (c : Nat) (u t : Bool) : (s.scanCompleted c u t).view.ground = s.view.ground := by
  unfold Station.scanCompleted
  split <;> rfl

/-! #### Records, orders, groups, posts -/

@[simp] theorem updRecord_ground (n : Nat) (f : LineRec → LineRec) : (s.updRecord n f).view.ground = s.view.ground := rfl

@[simp] theorem updBid_ground (n : Nat) (f : Bid → Bid) : (s.updBid n f).view.ground = s.view.ground := rfl

@[simp] theorem updPick_ground (n : Nat) (f : PickBody → PickBody) : (s.updPick n f).view.ground = s.view.ground := rfl

@[simp] theorem updPut_ground (n : Nat) (f : PutBody → PutBody) : (s.updPut n f).view.ground = s.view.ground := rfl

@[simp] theorem updOrder_ground (o : Nat) (f : OrderEntry → OrderEntry) : (s.updOrder o f).view.ground = s.view.ground :=
  rfl

@[simp] theorem updGroup_ground (o : Nat) (f : Group → Group) : (s.updGroup o f).view.ground = s.view.ground := rfl

@[simp] theorem freeSlot_ground (h : Nat) : (s.freeSlot h).view.ground = s.view.ground := rfl

@[simp] theorem unoweKind_ground (k : Kind) : (s.unoweKind k).view.ground = s.view.ground := rfl

@[simp] theorem trimOwedReadies_ground (l : List Nat) : (s.trimOwedReadies l).view.ground = s.view.ground := by
  induction l generalizing s with
  | nil => rfl
  | cons n rest ih =>
    unfold Station.trimOwedReadies
    split
    · rfl
    · simp [ih]

@[simp] theorem fillOwed_ground (k : Kind) : (s.fillOwed k).station.view.ground = s.view.ground := by
  cases k <;> simp only [Station.fillOwed, declined]
  case abn =>
    unfold Station.fillAbn
    split <;> rfl
  case rdy =>
    unfold Station.fillRdy
    dsimp only
    split
    · simp [declined]
    · split <;> simp [declined]
  case cls =>
    unfold Station.fillCls
    split <;> rfl
  case arp =>
    unfold Station.fillArp
    split <;> rfl
  case san =>
    unfold Station.fillSan
    split
    · rfl
    · split
      · rfl
      · split <;> rfl
  case sts =>
    unfold Station.fillSts
    split <;> rfl

@[simp] theorem offerKinds_ground (ks : List Kind) : (offerKinds s ks).view.ground = s.view.ground := by
  induction ks generalizing s with
  | nil => rfl
  | cons k ks ih =>
    unfold offerKinds
    dsimp only
    split
    · exact ih s
    · split
      · split <;> simp
      · simp [ih]

@[simp] theorem offerSlot_ground : s.offerSlot.view.ground = s.view.ground := by
  unfold Station.offerSlot
  split <;> simp

@[simp] theorem withdraw_ground (h : Option Nat) : (s.withdraw h).view.ground = s.view.ground := by
  unfold Station.withdraw
  split
  · rfl
  · split <;> simp

/-! #### The Claim Unit -/

@[simp] theorem raiseAbandon_ground (o : Nat) (c : Cause) : (s.raiseAbandon o c).view.ground = s.view.ground := by
  unfold Station.raiseAbandon
  split
  · rfl
  · split
    · split
      · rename_i h
        simpa using ground_of_view (post_view_of_eq h)
      · rename_i h
        simpa using ground_of_view (post_view_of_eq h)
    · rfl

@[simp] theorem keepNote_ground (r : LineRec) : (s.keepNote r).view.ground = s.view.ground := by
  unfold Station.keepNote
  split
  · rfl
  · split <;> rfl

@[simp] theorem withdrawBid_ground (r : LineRec) : (s.withdrawBid r).view.ground = s.view.ground := by
  unfold Station.withdrawBid
  split
  · split <;> simp
  · rfl

@[simp] theorem putawayEnded_ground (n : Nat) : (s.putawayEnded n).view.ground = s.view.ground := by
  unfold Station.putawayEnded
  split <;> simp

@[simp] theorem removeJobs_ground (m : Job → Bool) : (s.removeJobs m).view.ground = s.view.ground := rfl

@[simp] theorem dropOwnLine_ground (o l : Nat) : (s.dropOwnLine o l).view.ground = s.view.ground := rfl

@[simp] theorem dropRecord_ground (n : Nat) : (s.dropRecord n).view.ground = s.view.ground := by
  unfold Station.dropRecord
  split
  · rfl
  · dsimp only
    split
    · split <;> simp
    · simp

@[simp] theorem dropWhere_ground (p : LineRec → Bool) : (s.dropWhere p).view.ground = s.view.ground :=
  foldl_ground _ (by simp) _ _

@[simp] theorem dropTentativeOf_ground (o : Nat) : (s.dropTentativeOf o).view.ground = s.view.ground :=
  dropWhere_ground _ _

@[simp] theorem releasePick_ground (n : Nat) : (s.releasePick n).view.ground = s.view.ground := by
  unfold Station.releasePick
  split <;> simp

@[simp] theorem turnReturning_ground (n : Nat) : (s.turnReturning n).view.ground = s.view.ground := by
  unfold Station.turnReturning
  dsimp only
  split <;> simp

@[simp] theorem returnWhere_ground (p : LineRec → Bool) : (s.returnWhere p).view.ground = s.view.ground :=
  foldl_ground _ (by simp) _ _

@[simp] theorem abandonRecord_ground (n : Nat) : (s.abandonRecord n).view.ground = s.view.ground := by
  unfold Station.abandonRecord
  split
  · rfl
  · split <;> simp

@[simp] theorem abandonRecords_ground (o : Nat) : (s.abandonRecords o).view.ground = s.view.ground := by
  unfold Station.abandonRecords
  rw [returnWhere_ground]
  exact foldl_ground _ (by simp) _ _

@[simp] theorem cutWalk_ground (a : BayAddr) (l : List Nat) (excess : Nat) :
    (cutWalk a l excess s).view.ground = s.view.ground := by
  induction l generalizing excess s with
  | nil => rfl
  | cons n rest ih =>
    unfold cutWalk
    split
    · rfl
    · split
      · exact ih _ _
      · split
        · rw [ih]
          split <;> simp
        · exact ih _ _

@[simp] theorem cutTo_ground (a : BayAddr) (n : Nat) : (s.cutTo a n).view.ground = s.view.ground := by
  unfold Station.cutTo
  split <;> simp

@[simp] theorem adjust_ground (a : BayAddr) (n : Nat) : (s.adjust a n).view.ground = s.view.ground := by
  simp [Station.adjust]

@[simp] theorem setCount_ground (a : BayAddr) (n : Nat) : (s.setCount a n).view.ground = s.view.ground := by
  unfold Station.setCount
  split <;> simp

@[simp] theorem openRecord_ground (a q k : Nat) (b : RecBody) : (s.openRecord a q k b).view.ground = s.view.ground := by
  unfold Station.openRecord
  dsimp only
  split <;> simp

@[simp] theorem bidPick_ground (o l a q : Nat) : (s.bidPick o l a q).view.ground = s.view.ground := by
  unfold Station.bidPick
  split
  · rfl
  · rename_i sel _
    have h := reserve_ground s a sel
    split
    · simp_all
    · rfl

@[simp] theorem bidPutaway_ground (n w q : Nat) (a : Article) : (s.bidPutaway n w q a).view.ground = s.view.ground := by
  unfold Station.bidPutaway
  dsimp only
  split
  · rfl
  · rename_i x _
    have h := expect_view s x.addr w q ((s.smap.article? a.code).getD a)
    split
    · simp_all
    · rfl

@[simp] theorem hearClaim_ground (code : Nat × Nat) (key : Nat) : (s.hearClaim code key).view.ground = s.view.ground := by
  unfold Station.hearClaim
  split
  · rfl
  · split
    · dsimp only
      split <;> simp
    · rfl

@[simp] theorem postClose_ground (r : LineRec) : (s.postClose r).view.ground = s.view.ground := by
  unfold Station.postClose
  split
  · rename_i h
    simpa using ground_of_view (post_view_of_eq h)
  · rename_i h
    simpa using ground_of_view (post_view_of_eq h)

@[simp] theorem winRound_ground (r : LineRec) (own : Bool) : (s.winRound r own).view.ground = s.view.ground := by
  unfold Station.winRound
  dsimp only
  split
  · split <;> simp
  · split <;> simp

@[simp] theorem hearClose_ground (code : Nat × Nat) (own : Bool) : (s.hearClose code own).view.ground = s.view.ground := by
  unfold Station.hearClose
  split
  · rfl
  · split
    · split <;> simp
    · rfl

@[simp] theorem windowExpired_ground (r : LineRec) : (s.windowExpired r).view.ground = s.view.ground := by
  unfold Station.windowExpired
  split
  · simp
  · split <;> simp

@[simp] theorem claimsOnService_ground : s.claimsOnService.view.ground = s.view.ground := dropWhere_ground _ _

@[simp] theorem dropTentatives_ground : s.dropTentatives.view.ground = s.view.ground := dropWhere_ground _ _

@[simp] theorem claimsOnWithdrawal_ground : s.claimsOnWithdrawal.view.ground = s.view.ground := by
  simp [Station.claimsOnWithdrawal]

@[simp] theorem countArrival_ground (r : LineRec) : (s.countArrival r).view.ground = s.view.ground := rfl

/-! #### The Consolidation Unit -/

@[simp] theorem recordOrder_ground (o n : Nat) : (s.recordOrder o n).view.ground = s.view.ground := rfl

@[simp] theorem evict_ground (e : OrderEntry) : (s.evict e).view.ground = s.view.ground := by
  unfold Station.evict
  dsimp only
  split <;> simp

@[simp] theorem openOrder_ground (o n : Nat) : (s.openOrder o n).view.ground = s.view.ground := by
  unfold Station.openOrder
  split
  · rfl
  · split
    · rfl
    · split <;> simp

@[simp] theorem tyreTaken_ground (n : Nat) (a : BayAddr) : (s.tyreTaken n a).view.ground = s.view.ground := by
  unfold Station.tyreTaken
  split <;> rfl

@[simp] theorem raisePending_ground (o : Nat) : (s.raisePending o).view.ground = s.view.ground := by
  unfold Station.raisePending
  split
  · split <;> rfl
  · rfl

@[simp] theorem tyreStaged_ground (o : Nat) (t : Tyre) : (s.tyreStaged o t).view.ground = s.view.ground := by
  unfold Station.tyreStaged
  split <;> simp

@[simp] theorem requestRelease_ground (o : Nat) : (s.requestRelease o).view.ground = s.view.ground := by
  unfold Station.requestRelease
  split
  · rfl
  · split <;> rfl

@[simp] theorem requestHeld_ground : s.requestHeld.view.ground = s.view.ground := by
  unfold Station.requestHeld
  split <;> simp

@[simp] theorem requestFailed_ground : s.requestFailed.view.ground = s.view.ground :=
  foldl_ground _ (by simp) _ _

@[simp] theorem removeGroup_ground (o : Nat) : (s.removeGroup o).view.ground = s.view.ground := rfl

@[simp] theorem releaseComplete_ground (o : Nat) : (s.releaseComplete o).view.ground = s.view.ground := by
  simp [Station.releaseComplete]

@[simp] theorem releaseFailed_ground (o n : Nat) : (s.releaseFailed o n).view.ground = s.view.ground := by
  simp [Station.releaseFailed]

@[simp] theorem withdrawAbandon_ground (o : Nat) : (s.withdrawAbandon o).view.ground = s.view.ground := by
  unfold Station.withdrawAbandon
  split <;> simp

@[simp] theorem settleUnstaged_ground (o : Nat) : (s.settleUnstaged o).view.ground = s.view.ground := by
  unfold Station.settleUnstaged
  exact (foldl_ground _ (by simp) _ _).trans (dropWhere_ground _ _)

@[simp] theorem completeOrder_ground (o : Nat) : (s.completeOrder o).view.ground = s.view.ground := by
  unfold Station.completeOrder
  dsimp only
  split <;> simp

@[simp] theorem hearReady_ground (o l : Nat) (own : Bool) : (s.hearReady o l own).view.ground = s.view.ground := by
  unfold Station.hearReady
  split
  · rfl
  · split
    · dsimp only
      split
      · simp
      · split <;> simp
    · rfl

@[simp] theorem withdrawReadies_ground (o : Nat) : (s.withdrawReadies o).view.ground = s.view.ground := by
  unfold Station.withdrawReadies
  dsimp only
  rw [foldl_ground _ (by simp), updGroup_ground, foldl_ground _ (by simp), setOwedReadies_view]

@[simp] theorem hearAbandon_ground (o : Nat) : (s.hearAbandon o).view.ground = s.view.ground := by
  unfold Station.hearAbandon
  split <;> simp

@[simp] theorem abandonHalted_ground : s.abandonHalted.view.ground = s.view.ground :=
  foldl_ground _ (by simp) _ _

@[simp] theorem tyreReturned_ground (o : Nat) : (s.tyreReturned o).view.ground = s.view.ground := by
  unfold Station.tyreReturned
  split
  · rfl
  · split
    · rfl
    · dsimp only
      split
      · rw [removeGroup_ground]
        split
        · split <;> simp
        · simp
      · split
        · split <;> simp
        · simp

@[simp] theorem returnFailed_ground (o : Nat) : (s.returnFailed o).view.ground = s.view.ground := rfl

@[simp] theorem cnuWithdrawal_ground : s.cnuWithdrawal.view.ground = s.view.ground := rfl

@[simp] theorem cnuRejoin_ground : s.cnuRejoin.view.ground = s.view.ground := rfl

/-! #### The planner and Station Control -/

@[simp] theorem dropIfRemoved_ground (id : Nat) : (s.dropIfRemoved id).view.ground = s.view.ground := by
  unfold Station.dropIfRemoved
  split <;> rfl

@[simp] theorem stopMove_ground : s.stopMove.view.ground = s.view.ground := by
  unfold Station.stopMove
  split
  · rfl
  · dsimp only
    split <;> simp

@[simp] theorem dropScans_ground : s.dropScans.view.ground = s.view.ground := by
  unfold Station.dropScans
  simp only [ground_mk, ground_eta]
  exact foldl_ground _ (by simp) _ _

@[simp] theorem markMismatch_ground : s.markMismatch.view.ground = s.view.ground := by
  simp [Station.markMismatch]

@[simp] theorem enterHalted_ground : s.enterHalted.view.ground = s.view.ground := by
  simp [Station.enterHalted]

@[simp] theorem haltFault_ground (f : StationFault) : (s.haltFault f).view.ground = s.view.ground := by
  unfold Station.haltFault
  dsimp only
  split
  · rfl
  · split <;> simp
  · split <;> simp
  · split <;> split <;> simp

@[simp] theorem resumeComplete_ground : s.resumeComplete.view.ground = s.view.ground := by
  unfold Station.resumeComplete
  dsimp only
  simp [foldl_view Station.touch touch_view]

@[simp] theorem takeService_ground : s.takeService.view.ground = s.view.ground := by
  unfold Station.takeService
  split
  · split <;> simp
  · rfl

@[simp] theorem endService_ground : s.endService.view.ground = s.view.ground := by
  unfold Station.endService
  split
  · rfl
  · dsimp only
    split <;> simp

@[simp] theorem withdrawal_ground : s.withdrawal.view.ground = s.view.ground := by
  simp [Station.withdrawal, Bus.withdrawn]

@[simp] theorem standingChanged_ground : s.standingChanged.view.ground = s.view.ground := by
  unfold Station.standingChanged
  split <;> simp

@[simp] theorem setCounters_ground (t r : Nat) : (s.setCounters t r).view.ground = s.view.ground := by
  unfold Station.setCounters
  dsimp only
  split
  · simp
  · split <;> simp

@[simp] theorem countErrors_ground (t r : Nat) : (s.countErrors t r).view.ground = s.view.ground := by
  unfold Station.countErrors
  split <;> simp

@[simp] theorem countSuccess_ground (r : Role) : (s.countSuccess r).view.ground = s.view.ground := by
  cases r <;> simp [Station.countSuccess]

@[simp] theorem rejoined_ground : s.rejoined.view.ground = s.view.ground := by
  simp [Station.rejoined]

/-! #### The Audit Unit -/

@[simp] theorem markBay_ground (a : BayAddr) (g : Grade) (u : Bool) : (s.markBay a g u).view.ground = s.view.ground := rfl

@[simp] theorem applyGrade_ground (a : BayAddr) (x : Graded) : (s.applyGrade a x).view.ground = s.view.ground := by
  unfold Station.applyGrade
  split
  · rfl
  · rfl
  · simp
  · rfl
  · dsimp only
    split <;> rfl

@[simp] theorem postReport_ground (r : Report) : (s.postReport r).view.ground = s.view.ground := by
  unfold Station.postReport
  split
  · rename_i h
    exact ground_of_view (post_view_of_eq h)
  · rename_i h
    simpa using ground_of_view (post_view_of_eq h)

@[simp] theorem touchAudit_ground (a : BayAddr) (h : Nat) : (s.touchAudit a h).view.ground = s.view.ground := by
  unfold Station.touchAudit
  split
  · rfl
  · dsimp only
    split
    · simp
    · simp
    · simp
    · simp
    · split <;> simp

@[simp] theorem scanReading_ground (a : BayAddr) (h : Nat) : (s.scanReading a h).view.ground = s.view.ground := by
  unfold Station.scanReading
  split <;> simp

@[simp] theorem clearScanNotes_ground : s.clearScanNotes.view.ground = s.view.ground := rfl

@[simp] theorem scanComplete_ground (c : Nat) (p : Purpose) : (s.scanComplete c p).view.ground = s.view.ground := by
  unfold Station.scanComplete
  dsimp only
  split <;> simp

@[simp] theorem scanAbandoned_ground (c : Nat) : (s.scanAbandoned c).view.ground = s.view.ground := rfl

@[simp] theorem postAnswers_ground (fuel : Nat) : (s.postAnswers fuel).view.ground = s.view.ground := by
  induction fuel generalizing s with
  | zero => rfl
  | succ n ih =>
    unfold Station.postAnswers
    split
    · rfl
    · split
      · rfl
      · split
        · rfl
        · split
          · rename_i h
            exact ground_of_view (post_view_of_eq h)
          · rename_i h
            simpa [ih] using ground_of_view (post_view_of_eq h)

@[simp] theorem beginAnswer_ground (a : Nat) : (s.beginAnswer a).view.ground = s.view.ground := by
  simp [Station.beginAnswer]

@[simp] theorem takeQuery_ground (a : Nat) : (s.takeQuery a).view.ground = s.view.ground := by
  unfold Station.takeQuery
  split <;> simp

@[simp] theorem answerSent_ground : s.answerSent.view.ground = s.view.ground := rfl

@[simp] theorem afterAnswer_ground (l : Bool) : (s.afterAnswer l).view.ground = s.view.ground := by
  unfold Station.afterAnswer
  split
  · split <;> simp
  · simp

@[simp] theorem setDue_ground (c : Nat) (d : Due) : (s.setDue c d).view.ground = s.view.ground := rfl

@[simp] theorem idleExpired_ground : s.idleExpired.view.ground = s.view.ground := rfl

/-! #### The Face Controller -/

@[simp] theorem laneIdle_ground : s.laneIdle.view.ground = s.view.ground := rfl

@[simp] theorem timeoutFault_ground : s.timeoutFault.view.ground = s.view.ground := by
  unfold Station.timeoutFault
  split <;> simp

@[simp] theorem cycleTimedOut_ground (t : Task) (c : Cycle) : (s.cycleTimedOut t c).view.ground = s.view.ground := by
  simp [Station.cycleTimedOut]

@[simp] theorem settleAbort_ground (p : PickStop) : (s.settleAbort p).view.ground = s.view.ground := by
  unfold Station.settleAbort
  split <;> simp

@[simp] theorem updTask_ground (id : Nat) (f : Task → Task) : (s.updTask id f).view.ground = s.view.ground := rfl

@[simp] theorem takeEnd_ground (t : Task) (p : PickStop) (c : Cycle) : (s.takeEnd t p c).view.ground = s.view.ground := by
  unfold Station.takeEnd
  dsimp only
  split
  · simp
  · split <;> simp

@[simp] theorem surplus_ground : s.surplus.view.ground = s.view.ground := by simp [Station.surplus]

@[simp] theorem infeedEmptied_ground : s.infeedEmptied.view.ground = s.view.ground := by
  unfold Station.infeedEmptied
  split <;> rfl

@[simp] theorem endLoad_ground (t : Task) : (s.endLoad t).view.ground = s.view.ground := by
  unfold Station.endLoad
  split <;> rfl

@[simp] theorem storeEnd_ground (t : Task) (n : Nat) (a : BayAddr) (c : Cycle) :
    (s.storeEnd t n a c).view.ground = s.view.ground := by
  unfold Station.storeEnd
  dsimp only
  split
  · split <;> split <;> simp
  · split <;> split <;> (try split) <;> simp

@[simp] theorem returnEnd_ground (t : Task) (o : Nat) (d : Option BayAddr) (c : Cycle) :
    (s.returnEnd t o d c).view.ground = s.view.ground := by
  unfold Station.returnEnd
  split
  · simp
  · dsimp only
    split <;> simp

@[simp] theorem cycleEnded_ground (c : Cycle) : (s.cycleEnded c).view.ground = s.view.ground := by
  unfold Station.cycleEnded
  dsimp only
  split
  · rfl
  · split <;> simp

@[simp] theorem arrival_ground : s.arrival.view.ground = s.view.ground := by
  unfold Station.arrival
  split
  · split <;> simp
  · simp
  · simp

@[simp] theorem readingEnded_ground (g : Reading) (h : Nat) : (s.readingEnded g h).view.ground = s.view.ground := by
  unfold Station.readingEnded
  dsimp only
  split
  · simp
  · split
    · split <;> simp
    · split
      · simp
      · split <;> simp

@[simp] theorem laneTimedOut_ground : s.laneTimedOut.view.ground = s.view.ground := by
  unfold Station.laneTimedOut
  dsimp only
  split
  · split <;> simp [Station.laneIdle, Pins.lane]
  · simp [Station.laneIdle, Pins.lane]

@[simp] theorem exitPulse_ground : s.exitPulse.view.ground = s.view.ground := by
  unfold Station.exitPulse
  split
  · dsimp only
    split
    · split <;> simp [Station.laneIdle, Pins.lane]
    · rfl
  · rfl

end
end Sys2Proof.Machine
end

section
/-! ### What the commands of the bus, the face and the timers leave of the ground -/

namespace Sys2Proof.Machine

section
variable (s : Station)

theorem startOpportunity_ground (f : Station → Station) (hf : ∀ s, (f s).view.ground = s.view.ground) :
    (s.startOpportunity f).view.ground = s.view.ground := by
  unfold Station.startOpportunity
  split
  · dsimp only
    split
    · simp [hf]
    · rfl
  · rfl

@[simp] theorem beginFrame_ground (p : Post) : (s.beginFrame p).view.ground = s.view.ground := rfl

theorem takeOut_ground : s.takeOut.view.ground = s.view.ground := by
  unfold Station.takeOut
  split
  · rfl
  · split <;> rfl

@[simp] theorem claimNotSent_ground (h : Nat) : (s.claimNotSent h).view.ground = s.view.ground := by
  unfold Station.claimNotSent
  dsimp only
  split <;> simp

theorem resend_ground : s.resend.view.ground = s.view.ground := by
  unfold Station.resend
  split
  · rfl
  · split <;> simp

theorem loseArbitration_ground : s.loseArbitration.view.ground = s.view.ground := by
  unfold Station.loseArbitration
  split <;> rfl

@[simp] theorem noteSent_ground (p : Post) : (s.noteSent p).view.ground = s.view.ground := by
  unfold Station.noteSent
  split
  case h_1 => split <;> rfl
  all_goals rfl

@[simp] theorem afterSent_ground (p : Post) : (s.afterSent p).view.ground = s.view.ground := by
  unfold Station.afterSent
  split
  case h_1 =>
    split
    · split <;> simp
    · rfl
  case h_2 => simp
  all_goals rfl

@[simp] theorem appendFrame_ground (f : Frame) (r : Role) : (s.appendFrame f r).view.ground = s.view.ground := rfl

theorem sentCompleted_ground (p : Post) : (s.sentCompleted p).view.ground = s.view.ground := by
  simp [Station.sentCompleted]

theorem receivedCompleted_ground (f : Frame) : (s.receivedCompleted f).view.ground = s.view.ground := by
  simp [Station.receivedCompleted]

theorem signalError_ground (r : Role) (e : BusError) (t c : Nat) : (s.signalError r e t c).view.ground = s.view.ground := by
  simp [Station.signalError]

theorem signalAgain_ground : s.signalAgain.view.ground = s.view.ground := by
  unfold Station.signalAgain
  split <;> rfl

theorem dominantRun_ground (r : Role) : (s.dominantRun r).view.ground = s.view.ground := by
  cases r <;> simp [Station.dominantRun]

theorem approachEnded_ground : s.approachEnded.view.ground = s.view.ground := by
  unfold Station.approachEnded
  split
  · split <;> rfl
  · rfl

theorem engageMinimumEnded_ground : s.engageMinimumEnded.view.ground = s.view.ground := by
  unfold Station.engageMinimumEnded
  split
  · split
    · split
      · rfl
      · split <;> rfl
    · rfl
  · rfl

theorem busyCleared_ground : s.busyCleared.view.ground = s.view.ground := by
  unfold Station.busyCleared
  split
  · split <;> rfl
  · rfl

theorem extensionEnded_ground : s.extensionEnded.view.ground = s.view.ground := by
  unfold Station.extensionEnded
  split
  · split <;> rfl
  · rfl

theorem withdrawEnded_ground : s.withdrawEnded.view.ground = s.view.ground := by
  unfold Station.withdrawEnded
  split
  · split <;> simp
  · rfl

theorem headCleared_ground : s.headCleared.view.ground = s.view.ground := by
  unfold Station.headCleared
  split <;> rfl

theorem headAsserted_ground : s.headAsserted.view.ground = s.view.ground := by
  unfold Station.headAsserted
  split <;> rfl

theorem laneExpired_ground : s.laneExpired.view.ground = s.view.ground := by
  unfold Station.laneExpired
  split <;> simp

theorem infeedFell_ground : s.infeedFell.view.ground = s.view.ground := by
  unfold Station.infeedFell
  split <;> simp

theorem gaugeAnswered_ground (h : Nat) : (s.gaugeAnswered h).view.ground = s.view.ground := by
  unfold Station.gaugeAnswered
  split <;> simp

theorem gaugeTimedOut_ground : s.gaugeTimedOut.view.ground = s.view.ground := by
  unfold Station.gaugeTimedOut
  split
  · split <;> simp
  · rfl

theorem endDwell_ground : s.endDwell.view.ground = s.view.ground := by
  unfold Station.endDwell
  split
  · split <;> rfl
  · rfl

/-! #### Notices -/

theorem takeNotice_ground (k : Kind) (test : List Byte → Bool) (f : Frame → Station → Station)
    (hf : ∀ x s, (f x s).view.ground = s.view.ground) : (s.takeNotice k test f).view.ground = s.view.ground := by
  unfold Station.takeNotice
  split
  · split
    · exact hf _ _
    · rfl
  · rfl

@[simp] theorem hearWeek_ground (w : Nat) : (s.hearWeek w).view.ground = s.view.ground := rfl

theorem hearLineOffer_ground (p : List Byte) : (s.hearLineOffer p).view.ground = s.view.ground := by
  unfold Station.hearLineOffer
  dsimp only
  split <;> simp

theorem hearPutawayOffer_ground (p : List Byte) : (s.hearPutawayOffer p).view.ground = s.view.ground := by
  unfold Station.hearPutawayOffer
  dsimp only
  split <;> simp

theorem putEach_ground (cs : List Nat) (r : Reason) (v : Bool) : (s.putEach cs r v).view.ground = s.view.ground :=
  foldl_ground _ (by simp) _ _

theorem takeSetCount_ground (p : List Byte) : (s.takeSetCount p).view.ground = s.view.ground := by
  unfold Station.takeSetCount
  dsimp only
  split <;> simp

theorem takeResume_ground (p : List Byte) : (s.takeResume p).view.ground = s.view.ground := by
  unfold Station.takeResume
  split <;> rfl

theorem requestEach_ground (cs : List Nat) : (s.requestEach cs).view.ground = s.view.ground :=
  foldl_ground _ (by simp) _ _

theorem holdExpires_ground (e : OrderEntry) : (s.holdExpires e).view.ground = s.view.ground := by
  simp [Station.holdExpires]

end

/-! ### The position rule -/

/-- The position rule looks at the ground alone. -/
theorem positionRule_of_ground {s t : Station} (h : t.view.ground = s.view.ground) (hp : s.PositionRule) :
    t.PositionRule := by
  have hcfg : t.cfg = s.cfg := congrArg Ground.cfg h
  have hpos : t.mpl.p = s.mpl.p := congrArg Ground.p h
  have hstart : t.stc.start = s.stc.start := congrArg Ground.start h
  unfold Station.PositionRule
  rw [hcfg, hpos, hstart]
  exact hp

/-- At step 1 of start there is no position (R188), and N is at the low end of its range (log entry 1). -/
theorem atStart_positionRule (p : Power) (r : Retained) (i : Pins) : (Station.atStart p r i).PositionRule :=
  ⟨(by decide : 16 ≤ Config.atReset.n ∧ Config.atReset.n ≤ 96 ∧ Config.atReset.n % 2 = 0), nofun, fun _ => rfl⟩

theorem whenOn_positionRule {s : Station} {f : Station → Station} (hf : s.PositionRule → (f s).PositionRule)
    (hp : s.PositionRule) : (s.whenOn f).PositionRule := by
  unfold Station.whenOn
  split
  · exact hf hp
  · exact hp

theorem whenJoined_positionRule {s : Station} {f : Station → Station} (hf : s.PositionRule → (f s).PositionRule)
    (hp : s.PositionRule) : (s.whenJoined f).PositionRule := by
  unfold Station.whenJoined
  split
  · exact hf hp
  · exact hp

section
variable {x : Station} {q : List Instr} {t : State}

/-- What follows within the event of a command keeps the position rule that the command's own change keeps. -/
theorem answer_positionRule {f : Station → Station} (h : State.answer ⟨x, q⟩ f = .next t)
    (hf : (f x).PositionRule) : t.station.PositionRule := by
  cases h
  exact positionRule_of_ground (ground_of_view (settle_view _ _)) hf

/-- A command of a powered station. -/
theorem powered_positionRule {f : Station → Station} (h : State.answer ⟨x, q⟩ (fun y => y.whenOn f) = .next t)
    (hp : x.PositionRule) (hf : x.PositionRule → (f x).PositionRule) : t.station.PositionRule :=
  answer_positionRule h (whenOn_positionRule hf hp)

/-- A command of a station on the bus. -/
theorem onBus_positionRule {f : Station → Station} (h : State.answer ⟨x, q⟩ (fun y => y.whenJoined f) = .next t)
    (hp : x.PositionRule) (hf : x.PositionRule → (f x).PositionRule) : t.station.PositionRule :=
  answer_positionRule h (whenJoined_positionRule hf hp)

/-- A command of a station on the bus whose own change keeps the ground. -/
theorem joined_positionRule {f : Station → Station} (h : State.answer ⟨x, q⟩ (fun y => y.whenJoined f) = .next t)
    (hp : x.PositionRule) (hf : ∀ s, (f s).view.ground = s.view.ground) : t.station.PositionRule :=
  onBus_positionRule h hp (positionRule_of_ground (hf x))

/-- A command that begins the station again at step 1 of start. -/
theorem restart_positionRule {p : Station → Power} {r : Station → Retained} {i : Station → Pins}
    (h : State.answer ⟨x, q⟩ (fun y => Station.atStart (p y) (r y) (i y)) = .next t) : t.station.PositionRule :=
  answer_positionRule h (atStart_positionRule _ _ _)

/-- A command that takes the level of an input line, and acts on a powered station. -/
theorem poweredLine_positionRule {g : Station → Pins} {f : Station → Station}
    (h : State.answer ⟨x, q⟩ (fun y => ({ y with pins := g y } : Station).whenOn f) = .next t)
    (hp : x.PositionRule) (hf : ∀ s : Station, s.PositionRule → (f s).PositionRule) : t.station.PositionRule :=
  answer_positionRule h (whenOn_positionRule (hf _) hp)

/-- A command that takes the level of an input line, and whose own change keeps the ground but for it. -/
theorem line_positionRule {g : Station → Pins} {f : Station → Station}
    (h : State.answer ⟨x, q⟩ (fun y => ({ y with pins := g y } : Station).whenJoined f) = .next t)
    (hp : x.PositionRule) (hf : ∀ s, (f s).view.ground = s.view.ground) : t.station.PositionRule :=
  answer_positionRule h (whenJoined_positionRule (positionRule_of_ground (hf _)) hp)

/-- A command that takes a notice whose action keeps the ground. -/
theorem notice_positionRule {k : Kind} {test : List Byte → Bool} {f : Frame → Station → Station}
    (h : State.answer ⟨x, q⟩ (fun y => y.whenJoined (fun y => y.takeNotice k test f)) = .next t)
    (hp : x.PositionRule) (hf : ∀ n s, (f n s).view.ground = s.view.ground) : t.station.PositionRule :=
  joined_positionRule h hp (fun s => takeNotice_ground s _ _ _ hf)

end

/-- A position given after step 1 of start: one of the N carriers. -/
theorem positionRule_setPosition {s : Station} {q : Nat} (hp : s.PositionRule) (hq : q < s.cfg.n)
    (hs : s.stc.start ≠ .configRead) (m : Mpl) (hm : m.p = some q) : ({ s with mpl := m } : Station).PositionRule := by
  refine ⟨hp.1, ?_, fun h => absurd h hs⟩
  rintro p (h : m.p = some p)
  cases hm.symm.trans h
  exact hq

theorem clampCarriers_range (v : Nat) : 16 ≤ clampCarriers v ∧ clampCarriers v ≤ 96 ∧ clampCarriers v % 2 = 0 := by
  unfold clampCarriers clampTo
  omega

end Sys2Proof.Machine
end

section
/-! ### The commands that change the position, the configuration or the step of start -/

namespace Sys2Proof.Machine

/-! #### Changes of the Stock Map alone -/

/-- `t` is `s` but for the Stock Map. -/
def OnlySmap (s t : Station) : Prop := t = { s with smap := t.smap }

theorem OnlySmap.refl (s : Station) : OnlySmap s s := rfl

theorem OnlySmap.trans {s t u : Station} (h₁ : OnlySmap s t) (h₂ : OnlySmap t u) : OnlySmap s u := by
  unfold OnlySmap at h₁ h₂ ⊢
  rw [h₂, h₁]

theorem OnlySmap.clu {s t : Station} (h : OnlySmap s t) : t.clu = s.clu := by
  unfold OnlySmap at h
  rw [h]

theorem foldl_onlySmap {α : Type} (f : Station → α → Station) (h : ∀ s x, OnlySmap s (f s x)) (l : List α) (s : Station) :
    OnlySmap s (l.foldl f s) := by
  induction l generalizing s with
  | nil => exact .refl s
  | cons x xs ih => exact (h s x).trans (ih _)

theorem testArticle_onlySmap (s : Station) (code : Nat) : OnlySmap s (s.testArticle code) := by
  unfold Station.testArticle
  split
  · rfl
  · split <;> rfl

theorem changeBay_onlySmap (s : Station) (a : BayAddr) (f : Bay → Bay) : OnlySmap s (s.changeBay a f) :=
  OnlySmap.trans (t := (s.updCarrier a.carrier _).recompute a.carrier) rfl (foldl_onlySmap _ testArticle_onlySmap _ _)

/-- The retained load writes the header and makes the Stock Map; nothing else changes (R21). -/
theorem retainedLoad_eq (s : Station) :
    s.retainedLoad = { s with
      retained := { s.retained with header := .good { n := s.cfg.n, b := s.cfg.b, h := s.cfg.h } }
      smap := s.retainedLoad.smap } := by
  have h := foldl_onlySmap Station.testArticle testArticle_onlySmap
  unfold OnlySmap at h
  unfold Station.retainedLoad
  dsimp only
  rw [h]

/-! #### Motion -/

theorem stepPosition_lt {n : Nat} (hn : 0 < n) (d : Dir) (p : Nat) : stepPosition n d p < n := by
  cases d <;> exact Nat.mod_lt _ hn

/-- A station that has a position is past step 1 of start (R188). -/
theorem start_ne_configRead {s : Station} {p : Nat} (hp : s.PositionRule) (h : s.mpl.p = some p) :
    s.stc.start ≠ .configRead := fun hs => by
  rw [hp.2.2 hs] at h
  cases h

/-- A resume is in progress only after start (R193, R188). -/
theorem start_done_of_resume {s : Station} (hm : s.ModeRules) (h : s.stc.resume = true) : s.stc.start = .done := by
  obtain ⟨hstart, hresume, -⟩ := hm
  by_contra hs
  rw [hresume h] at hstart
  cases hstart.mpr hs

/-- A step of start that is past step 1 keeps the rule. -/
theorem positionRule_setStart {s : Station} (hp : s.PositionRule) (c : Stc) (hc : c.start ≠ .configRead) :
    ({ s with stc := c } : Station).PositionRule :=
  ⟨hp.1, hp.2.1, fun h => absurd h hc⟩

theorem indexPulse_positionRule {s : Station} (hp : s.PositionRule) : s.indexPulse.PositionRule := by
  unfold Station.indexPulse
  split
  · exact hp
  · rename_i p hsome
    have hq : stepPosition s.cfg.n s.mpl.indexDir p < s.cfg.n := stepPosition_lt (by have := hp.1; omega) _ _
    have hstep := positionRule_setPosition hp hq (start_ne_configRead hp hsome)
      { s.mpl with p := some (stepPosition s.cfg.n s.mpl.indexDir p) } rfl
    dsimp only
    split
    · exact positionRule_of_ground (by simp) hstep
    · exact hstep

theorem homePulse_positionRule {s : Station} (hp : s.PositionRule) : s.homePulse.PositionRule := by
  have hn : 0 < s.cfg.n := by have := hp.1; omega
  unfold Station.homePulse
  split
  · split
    · exact hp
    · unfold Station.homeFound
      cases hsome : s.mpl.p with
      | none => exact ⟨hp.1, nofun, fun _ => rfl⟩
      | some p => exact positionRule_setPosition hp hn (start_ne_configRead hp hsome) { s.mpl with p := _, move := _ } rfl
  · split
    · exact hp
    · exact hp
    · rename_i p _ hsome
      have hzero := positionRule_setPosition hp hn (start_ne_configRead hp hsome) { s.mpl with p := some 0 } rfl
      exact positionRule_of_ground (by simp) hzero

theorem motionFailed_positionRule {s : Station} (hp : s.PositionRule) : s.motionFailed.PositionRule := by
  unfold Station.motionFailed
  split
  · exact positionRule_setStart hp _ nofun
  · exact positionRule_of_ground (haltFault_ground _ _) hp

theorem motionExpired_positionRule {s : Station} (hp : s.PositionRule) : s.motionExpired.PositionRule := by
  unfold Station.motionExpired
  split
  · split
    · exact motionFailed_positionRule (positionRule_of_ground (stopMove_ground s) hp)
    · exact hp
  · exact hp

theorem homeCheckDone_positionRule {s : Station} (hm : s.ModeRules) (hp : s.PositionRule) :
    s.homeCheckDone.PositionRule := by
  have hq : s.mpl.p.getD 0 < s.cfg.n := by
    cases hsome : s.mpl.p with
    | none => exact (by have := hp.1; omega : 0 < s.cfg.n)
    | some p => exact hp.2.1 p hsome
  unfold Station.homeCheckDone
  dsimp only
  split
  · rename_i hs
    have hs : s.stc.start = .homing := hs
    have hfound := positionRule_setPosition hp hq (by rw [hs]; nofun) { s.moveEnded.mpl with lastDir := .forward, p := _ } rfl
    exact positionRule_setStart hfound _ nofun
  · split
    · rename_i hr
      have hs : s.stc.start ≠ .configRead := by rw [start_done_of_resume hm hr]; nofun
      have hfound := positionRule_setPosition hp hq hs { s.moveEnded.mpl with lastDir := .forward, p := _ } rfl
      exact positionRule_of_ground (resumeComplete_ground _) hfound
    · exact hp

theorem taskMoveDone_ground (s : Station) (m : Move) (id : Nat) : (s.taskMoveDone m id).view.ground = s.view.ground := by
  have hm : s.moveEnded.view.ground = s.view.ground := rfl
  unfold Station.taskMoveDone
  dsimp only
  split
  · simp [hm]
  · split
    · rfl
    · split
      · rfl
      · split <;> simp [hm]

theorem inPosition_positionRule {s : Station} (hm : s.ModeRules) (hp : s.PositionRule) : s.inPosition.PositionRule := by
  unfold Station.inPosition
  split
  · exact hp
  · split
    · split
      · exact homeCheckDone_positionRule hm hp
      · exact hp
    · exact positionRule_of_ground (taskMoveDone_ground s _ _) hp

/-! #### Start -/

theorem endLaneWait_positionRule {s : Station} (hp : s.PositionRule) : s.endLaneWait.PositionRule := by
  unfold Station.endLaneWait
  split
  · exact positionRule_of_ground (ground_of_view (giveMove_view _ _ _ _ _))
      (positionRule_setStart hp { s.stc with start := .homing } nofun)
  · exact hp

theorem endSweep_ground (s : Station) : s.endSweep.view.ground = s.view.ground := by
  unfold Station.endSweep
  split <;> rfl

/-- Step 1 of start ends with an N in its range (R186) and no position. -/
theorem configured_positionRule {s : Station} (hp : s.PositionRule) (hs : s.stc.start = .configRead) (read : ConfigRead) :
    (s.configured read).PositionRule := by
  unfold Station.configured
  dsimp only
  rw [retainedLoad_eq]
  refine endLaneWait_positionRule ⟨clampCarriers_range read.carriers, ?_, nofun⟩
  rintro p (h : s.mpl.p = some p)
  rw [hp.2.2 hs] at h
  cases h

/-- The join ends start and brings the station onto the bus; the rest of the ground stays (R188). -/
theorem startEnds_ground (s : Station) :
    s.startEnds.view.ground = ({ s with
      stc := { s.stc with start := .done }, bus := { s.bus with joined := true } } : Station).view.ground := by
  unfold Station.startEnds
  dsimp only
  split <;> split <;> split <;> simp

theorem startEnds_positionRule {s : Station} (hp : s.PositionRule) : s.startEnds.PositionRule :=
  positionRule_of_ground (startEnds_ground s) ⟨hp.1, hp.2.1, nofun⟩

end Sys2Proof.Machine
end

section
/-! ### Every step keeps the position among the N carriers -/

namespace Sys2Proof.Machine

section
variable {x : Station} {q : List Instr} {t : State}

theorem configReadEnd_positionRule (read : ConfigRead) (h : exec (.configReadEnd read) ⟨x, q⟩ = .next t)
    (hp : x.PositionRule) : t.station.PositionRule := by
  refine powered_positionRule h hp (fun _ => ?_)
  split
  · rename_i hs
    split
    · exact positionRule_setStart hp _ nofun
    · exact configured_positionRule hp hs read
  · exact hp

theorem join_positionRule (occupied : Bool) (h : exec (.join occupied) ⟨x, q⟩ = .next t)
    (hp : x.PositionRule) : t.station.PositionRule := by
  refine powered_positionRule h hp (fun _ => ?_)
  split
  · exact startEnds_positionRule hp
  · exact hp

theorem resetRelease_positionRule (h : exec .resetRelease ⟨x, q⟩ = .next t) (hp : x.PositionRule) :
    t.station.PositionRule := by
  refine answer_positionRule h ?_
  dsimp only
  split
  · exact atStart_positionRule _ _ _
  · exact hp

theorem retainedWriteComplete_positionRule (r : RetainedId) (h : exec (.retainedWriteComplete r) ⟨x, q⟩ = .next t)
    (hp : x.PositionRule) : t.station.PositionRule := by
  refine powered_positionRule h hp (fun _ => ?_)
  unfold Station.completeWrite
  split
  · split <;> exact hp
  · split <;> exact hp

theorem frameCompleted_positionRule (bits : List Bool) (h : exec (.frameCompleted bits) ⟨x, q⟩ = .next t)
    (hp : x.PositionRule) : t.station.PositionRule := by
  refine joined_positionRule h hp (fun s => ?_)
  split
  · split
    · exact sentCompleted_ground _ _
    · split
      · exact receivedCompleted_ground _ _
      · rfl
  · rfl

theorem frameError_positionRule (error : BusError) (h : exec (.frameError error) ⟨x, q⟩ = .next t)
    (hp : x.PositionRule) : t.station.PositionRule := by
  refine joined_positionRule h hp (fun s => ?_)
  split
  · split
    · exact signalAgain_ground s
    · split
      · exact signalError_ground _ _ _ _ _
      · rfl
  · rfl

theorem rejoin_positionRule (stretches : List Nat) (h : exec (.rejoin stretches) ⟨x, q⟩ = .next t)
    (hp : x.PositionRule) : t.station.PositionRule := by
  refine joined_positionRule h hp (fun s => ?_)
  split
  · dsimp only
    split
    · exact rejoined_ground s
    · rfl
  · rfl

/-- Every command keeps the position rule in a station within the mode rules. -/
theorem exec_positionRule (c : Instr) (hm : x.ModeRules) (hp : x.PositionRule) (h : exec c ⟨x, q⟩ = .next t) :
    t.station.PositionRule := by
  cases c with
  | powerUp =>
    unfold exec execPowerUp at h
    exact restart_positionRule h
  | powerLoss =>
    unfold exec execPowerLoss at h
    exact restart_positionRule h
  | resetAssert =>
    unfold exec execResetAssert at h
    exact poweredLine_positionRule h hp (fun _ _ => atStart_positionRule _ _ _)
  | resetRelease => exact resetRelease_positionRule h hp
  | configReadEnd read => exact configReadEnd_positionRule read h hp
  | laneClearAsserted =>
    exact poweredLine_positionRule (g := fun y => { y.pins with laneClear := true }) h hp
      (fun _ hx => positionRule_of_ground (endSweep_ground _) (endLaneWait_positionRule hx))
  | laneClearFall => exact answer_positionRule (f := fun y => { y with pins := { y.pins with laneClear := false } }) h hp
  | join occupied => exact join_positionRule occupied h hp
  | motionTimerExpiry => exact powered_positionRule h hp motionExpired_positionRule
  | index => exact powered_positionRule h hp indexPulse_positionRule
  | home => exact powered_positionRule h hp homePulse_positionRule
  | inPos => exact powered_positionRule h hp (inPosition_positionRule hm)
  | retainedWriteComplete r => exact retainedWriteComplete_positionRule r h hp
  | takeOut => exact joined_positionRule h hp (fun s => startOpportunity_ground s _ takeOut_ground)
  | frameResend => exact joined_positionRule h hp (fun s => startOpportunity_ground s _ resend_ground)
  | arbitrationLost => exact joined_positionRule h hp loseArbitration_ground
  | frameCompleted bits => exact frameCompleted_positionRule bits h hp
  | frameError error => exact frameError_positionRule error h hp
  | dominantRun16 =>
    refine joined_positionRule h hp (fun s => ?_)
    split
    · rfl
    · exact dominantRun_ground s _
  | delaySignal heard => exact joined_positionRule h hp (fun s => by dsimp only; split <;> rfl)
  | rejoin stretches => exact rejoin_positionRule stretches h hp
  | elevenRecessiveBitsAfterRejoin => exact joined_positionRule h hp (fun s => by split <;> rfl)
  | noticeRejected => exact joined_positionRule h hp (fun s => by split <;> rfl)
  | statusFrameDiscarded => exact joined_positionRule h hp (fun s => by split <;> rfl)
  | abnTaken => exact notice_positionRule h hp (fun _ s => hearAbandon_ground s _)
  | rdyTaken => exact notice_positionRule h hp (fun _ s => hearReady_ground s _ _ _)
  | clsTaken => exact notice_positionRule h hp (fun _ s => hearClose_ground s _ _)
  | clmTaken => exact notice_positionRule h hp (fun _ s => hearClaim_ground s _ _)
  | opnTaken => exact notice_positionRule h hp (fun _ s => openOrder_ground (s.hearWeek _) _ _)
  | lofTaken => exact notice_positionRule h hp (fun _ s => hearLineOffer_ground s _)
  | pofTaken => exact notice_positionRule h hp (fun _ s => hearPutawayOffer_ground s _)
  | cctHold => exact notice_positionRule h hp (fun _ s => putEach_ground s _ _ _)
  | cctUnhold => exact notice_positionRule h hp (fun _ s => putEach_ground s _ _ _)
  | cctHoldAll => exact notice_positionRule h hp (fun _ s => putEach_ground s _ _ _)
  | cctUnholdAll => exact notice_positionRule h hp (fun _ s => putEach_ground s _ _ _)
  | cctRetire => exact notice_positionRule h hp (fun _ s => putEach_ground s _ _ _)
  | cctUnretire => exact notice_positionRule h hp (fun _ s => foldl_ground _ unretire_ground _ s)
  | cctClearQuarantine => exact notice_positionRule h hp (fun _ s => putEach_ground s _ _ _)
  | cctSetCount => exact notice_positionRule h hp (fun _ s => takeSetCount_ground s _)
  | sctResume => exact notice_positionRule h hp (fun _ s => takeResume_ground s _)
  | arqByRange => exact notice_positionRule h hp (fun _ s => requestEach_ground s _)
  | arqByArticle => exact notice_positionRule h hp (fun _ s => requestEach_ground s _)
  | sqyTaken =>
    refine notice_positionRule h hp (fun _ s => ?_)
    split
    · exact takeQuery_ground s _
    · rfl
  | claimWindowExpiry round =>
    refine joined_positionRule h hp (fun s => ?_)
    split
    · split <;> simp
    · rfl
  | infeedTimeout putaway =>
    refine joined_positionRule h hp (fun s => ?_)
    split
    · split <;> simp
    · rfl
  | holdTimerExpiry order =>
    refine joined_positionRule h hp (fun s => ?_)
    split
    · split
      · exact holdExpires_ground s _
      · rfl
    · rfl
  | idleTimerExpiry => exact joined_positionRule h hp (fun s => by split <;> rfl)
  | reversalDwellExpiry => exact joined_positionRule h hp endDwell_ground
  | approachEnd => exact joined_positionRule h hp approachEnded_ground
  | engageMinimumEnd busy =>
    refine onBus_positionRule h hp (fun hx => positionRule_of_ground (engageMinimumEnded_ground _) ?_)
    exact hx
  | extBusyClear =>
    exact line_positionRule (g := fun y => { y.pins with extBusy := false }) h hp busyCleared_ground
  | extensionMaximumExpiry => exact joined_positionRule h hp extensionEnded_ground
  | cycleEnd occupied =>
    refine onBus_positionRule h hp (fun hx => positionRule_of_ground (withdrawEnded_ground _) ?_)
    exact hx
  | headOccClear =>
    exact line_positionRule (g := fun y => { y.pins with headOcc := false }) h hp headCleared_ground
  | headOccAsserted =>
    exact line_positionRule (g := fun y => { y.pins with headOcc := true }) h hp headAsserted_ground
  | laneTimerExpiry => exact joined_positionRule h hp laneExpired_ground
  | laneExitPulse => exact joined_positionRule h hp exitPulse_ground
  | infeedArrival =>
    exact line_positionRule (g := fun y => { y.pins with infeedOcc := true }) h hp arrival_ground
  | infeedOccFall =>
    exact line_positionRule (g := fun y => { y.pins with infeedOcc := false }) h hp infeedFell_ground
  | gaugeAnswer height => exact joined_positionRule h hp (fun s => gaugeAnswered_ground s _)
  | gaugeReadTimeout => exact joined_positionRule h hp gaugeTimedOut_ground
  | svcReqRise =>
    exact line_positionRule (g := fun y => { y.pins with svcReq := true }) h hp takeService_ground
  | svcReqFall =>
    exact line_positionRule (g := fun y => { y.pins with svcReq := false }) h hp endService_ground

theorem idleTick_positionRule (hp : x.PositionRule) : x.idleTick.PositionRule :=
  whenOn_positionRule (f := fun s => { s with tick := s.tick + 1 }) id hp

end

/-- Settles O57: the commands, case by case, by what each leaves of the ground; the idle tick leaves the position. -/
theorem stepKeepsPosition : Obligations.StepKeepsPosition := by
  rintro ⟨x, q⟩ t hm hp h
  cases q with
  | nil =>
    cases h
    exact idleTick_positionRule hp
  | cons c rest => exact exec_positionRule c hm hp h

end Sys2Proof.Machine
end

section
/-! ### The claim figures (R1, R3, R42, R50) -/

namespace Sys2Proof.Machine

/-! #### Distances -/

theorem forwardDistance_of_le {n p c : Nat} (hc : c < n) (h : p ≤ c) : forwardDistance n p c = c - p := by
  unfold forwardDistance
  rw [show c + n - p = c - p + n by omega, Nat.add_mod_right, Nat.mod_eq_of_lt (by omega)]

theorem forwardDistance_of_lt {n p c : Nat} (hp : p < n) (h : c < p) : forwardDistance n p c = c + n - p :=
  Nat.mod_eq_of_lt (by omega)

/-- Backward from the position to the carrier is forward from the carrier to the position. -/
theorem backwardDistance_eq_forwardDistance (n p c : Nat) : backwardDistance n p c = forwardDistance n c p := rfl

/-- Going the forward distance from `p` leads to `c` (R1). -/
theorem add_forwardDistance_mod {n p c : Nat} (hp : p < n) (hc : c < n) : (p + forwardDistance n p c) % n = c := by
  rcases Nat.lt_or_ge c p with h | h
  · rw [forwardDistance_of_lt hp h, show p + (c + n - p) = c + n by omega, Nat.add_mod_right, Nat.mod_eq_of_lt hc]
  · rw [forwardDistance_of_le hc h, show p + (c - p) = c by omega, Nat.mod_eq_of_lt hc]

/-- The two distances of two carriers that differ go once around the carousel. -/
theorem forwardDistance_add_backwardDistance {n p c : Nat} (hp : p < n) (hc : c < n) (h : c ≠ p) :
    forwardDistance n p c + backwardDistance n p c = n := by
  rw [backwardDistance_eq_forwardDistance]
  rcases Nat.lt_or_gt_of_ne h with h | h
  · rw [forwardDistance_of_lt hp h, forwardDistance_of_le hp h.le]
    omega
  · rw [forwardDistance_of_le hc h.le, forwardDistance_of_lt hc h]
    omega

theorem forwardDistance_self {n p : Nat} (hp : p < n) : forwardDistance n p p = 0 := by
  rw [forwardDistance_of_le hp le_rfl, Nat.sub_self]

theorem two_mul_travelDistance_le {n p c : Nat} (hp : p < n) (hc : c < n) : 2 * travelDistance n p c ≤ n := by
  unfold travelDistance
  by_cases h : c = p
  · rw [h, forwardDistance_self hp]
    omega
  · have := forwardDistance_add_backwardDistance hp hc h
    omega

theorem travelDistance_eq_zero_iff {n p c : Nat} (hp : p < n) (hc : c < n) : travelDistance n p c = 0 ↔ c = p := by
  constructor
  · intro h
    have hforward := add_forwardDistance_mod hp hc
    have hbackward := add_forwardDistance_mod hc hp
    unfold travelDistance at h
    rw [backwardDistance_eq_forwardDistance] at h
    rcases Nat.min_eq_zero_iff.mp h with h | h
    · rwa [h, Nat.add_zero, Nat.mod_eq_of_lt hp, eq_comm] at hforward
    · rwa [h, Nat.add_zero, Nat.mod_eq_of_lt hc] at hbackward
  · rintro rfl
    rw [travelDistance, forwardDistance_self hp, Nat.zero_min]

/-! #### Legality, balance fraction, stack capacity -/

theorem legal_iff (s : Station) (i : Nat) : s.legal i = true ↔ i ≤ s.cfg.limit ∨ i ≤ s.smap.imbalance := by
  simp [Station.legal]

theorem balanceFraction_of_le {i l : Nat} (hl : 0 < l) (h : l ≤ i) : balanceFraction i l = 255 :=
  Nat.min_eq_left ((Nat.le_div_iff_mul_le hl).mpr (by omega))

theorem balanceFraction_of_lt {i l : Nat} (h : i < l) : balanceFraction i l = i * 255 / l :=
  Nat.min_eq_right (Nat.div_le_of_le_mul (Nat.mul_le_mul_right 255 h.le))

theorem capB_mul_le (h pitch : Nat) : capB h pitch * pitch ≤ h :=
  (Nat.mul_le_mul_right pitch (Nat.min_le_right _ _)).trans (Nat.div_mul_le_self h pitch)

theorem lt_capB_succ_mul {h pitch : Nat} (hp : 0 < pitch) (hc : capB h pitch < 15) : h < (capB h pitch + 1) * pitch := by
  have hcap : capB h pitch = h / pitch := by unfold capB at hc ⊢; omega
  rw [hcap]
  exact Nat.lt_mul_of_div_lt (Nat.lt_succ_self _) hp

/-- Settles O48. -/
theorem claimFigures : Obligations.ClaimFigures := by
  refine ⟨?_, legal_iff, ?_, ?_⟩
  · intro n p c _ hp hc
    exact ⟨add_forwardDistance_mod hp hc, add_forwardDistance_mod hc hp, rfl, two_mul_travelDistance_le hp hc,
      travelDistance_eq_zero_iff hp hc⟩
  · intro i l hl
    exact ⟨Nat.min_le_left _ _, balanceFraction_of_le hl, balanceFraction_of_lt⟩
  · intro h pitch hp
    exact ⟨Nat.min_le_left _ _, capB_mul_le h pitch, lt_capB_succ_mul hp⟩

end Sys2Proof.Machine
end

section
/-! ### Retained writes (R19, R20) -/

namespace Sys2Proof.Machine

/-! #### A write completes -/

/-- A write in flight ends with its own values in the record; with newer values waiting a write of the present ones
begins. -/
theorem completed_of_busy {α : Type} [DecidableEq α] {w : WriteState α} {v : α} (present : α)
    (h : w = .writing v ∨ w = .writingNewerWaiting v) :
    w.completed present = some (v, if w = .writing v then .idle else .writing present) := by
  rcases h with rfl | rfl
  · simp [WriteState.completed]
  · simp [WriteState.completed]

theorem completeWrite_carrier {x : Station} {c : Nat} {k : Carrier} {v : CarrierImage} (hk : x.smap.carriers[c]? = some k)
    (hw : k.write = .writing v ∨ k.write = .writingNewerWaiting v) :
    x.completeWrite (.carrier c) = { x with
      retained := { x.retained with carriers := x.retained.carriers.set c (Stored.good v) }
      smap := { x.smap with carriers := x.smap.carriers.set c { k with
          write := if k.write = .writing v then .idle else .writing k.image } } } := by
  simp [Station.completeWrite, Station.carrier?, hk, completed_of_busy k.image hw, List.modify_eq_set_getElem?]

theorem completeWrite_article {x : Station} {i : Nat} {w : WriteState (Option Article)} {v e : Option Article}
    (hi : x.smap.articleWrites[i]? = some w) (he : x.smap.articles[i]? = some e)
    (hw : w = .writing v ∨ w = .writingNewerWaiting v) :
    x.completeWrite (.article i) = { x with
      retained := { x.retained with articles := x.retained.articles.set i (Stored.good v) }
      smap := { x.smap with articleWrites :=
        x.smap.articleWrites.set i (if w = .writing v then .idle else .writing e) } } := by
  simp [Station.completeWrite, hi, he, completed_of_busy e hw]

theorem completeWrite_idle {x : Station} {c : Nat} {k : Carrier} (hk : x.smap.carriers[c]? = some k)
    (hw : k.write = .idle) : x.completeWrite (.carrier c) = x := by
  simp [Station.completeWrite, Station.carrier?, hk, hw, WriteState.completed]

/-- RETAINED_WRITE_COMPLETE at a powered station, with what follows within the event. -/
theorem exec_retainedWriteComplete {x u : Station} (q : List Instr) (r : RetainedId) (hon : x.power = .on)
    (hu : x.completeWrite r = u) :
    exec (.retainedWriteComplete r) ⟨x, q⟩ = .next ⟨u.settle x, q⟩ ∧ (u.settle x).view = u.view := by
  subst hu
  refine ⟨?_, settle_view _ _⟩
  simp [exec, execRetainedWriteComplete, State.answer, Station.whenOn, hon]

/-! #### Writes abandoned -/

/-- What a loss leaves of the records, place by place; a record with no write state stays (R20). -/
theorem getElem?_abandonList {α : Type} [DecidableEq α] (ws : List (WriteState α)) (rs : List (Stored α)) (i : Nat) :
    (abandonList ws rs)[i]? =
      rs[i]?.map (fun r => if ∃ w, ws[i]? = some w ∧ w ≠ .idle then .failed else r) := by
  induction rs generalizing ws i with
  | nil => cases ws <;> simp [abandonList]
  | cons r rs ih =>
    cases ws with
    | nil => simp [abandonList]
    | cons w ws =>
      cases i with
      | zero => cases w <;> simp [abandonList, abandonOne]
      | succ i => simpa [abandonList] using ih ws i

/-- Settles O32. -/
theorem retainedWritesCompleteOrFail : Obligations.RetainedWritesCompleteOrFail := by
  refine ⟨fun x q hon => ⟨?_, ?_, ?_⟩, fun x => ⟨rfl, ?_, ?_⟩⟩
  · intro c k v hk hw
    exact exec_retainedWriteComplete q _ hon (completeWrite_carrier hk hw)
  · intro i w v e hi he hw
    exact exec_retainedWriteComplete q _ hon (completeWrite_article hi he hw)
  · intro c k hk hw
    exact exec_retainedWriteComplete q _ hon (completeWrite_idle hk hw)
  · intro c r hr
    simp [Station.abandonWrites, getElem?_abandonList, hr]
  · intro i r hr
    simp [Station.abandonWrites, getElem?_abandonList, hr]

end Sys2Proof.Machine
end

section
/-! ### The retained load (R21, R37) -/

namespace Sys2Proof.Machine

/-! #### The article table -/

/-- No two slots of the table hold one code (R3). -/
def CodesDistinct (table : List (Option Article)) : Prop :=
  ∀ (i j : Nat) (a b : Article), table[i]? = some (some a) → table[j]? = some (some b) → a.code = b.code → i = j

/-- The entry of a code that stands in the table of distinct codes (R3). -/
theorem article?_eq_some_iff {m : Smap} (hm : CodesDistinct m.articles) (code : Nat) (a : Article) :
    m.article? code = some a ↔ ∃ i : Nat, m.articles[i]? = some (some a) ∧ a.code = code := by
  have hfound : ∀ b, m.article? code = some b → ∃ i : Nat, m.articles[i]? = some (some b) ∧ b.code = code := by
    intro b hb
    obtain ⟨e, he, hb⟩ := List.exists_of_findSome?_eq_some hb
    have he : e ∈ m.articles := he
    obtain ⟨rfl, hcode⟩ := Option.filter_eq_some_iff.mp hb
    obtain ⟨i, hi⟩ := List.getElem?_of_mem he
    exact ⟨i, hi, beq_iff_eq.mp hcode⟩
  refine ⟨hfound a, ?_⟩
  rintro ⟨i, hi, hcode⟩
  cases hb : m.article? code with
  | none =>
    have hnone := List.findSome?_eq_none_iff.mp hb _ (List.mem_of_getElem? hi)
    simp [hcode] at hnone
  | some b =>
    obtain ⟨j, hj, hbcode⟩ := hfound b hb
    have hij := hm i j a b hi hj (hcode.trans hbcode.symm)
    rw [hij, hj] at hi
    exact Option.some.inj hi

/-- No record below `i` is good with an entry of the code. -/
def NoLower (rs : List (Stored (Option Article))) (code i : Nat) : Prop :=
  ∀ j, j < i → ∀ b, rs[j]? = some (.good (some b)) → b.code ≠ code

theorem noLower_zero (rs : List (Stored (Option Article))) (code : Nat) : NoLower rs code 0 :=
  fun _ hj => absurd hj (Nat.not_lt_zero _)

theorem noLower_cons_succ (r : Stored (Option Article)) (rs : List (Stored (Option Article))) (code i : Nat) :
    NoLower (r :: rs) code (i + 1) ↔ (∀ b, r = .good (some b) → b.code ≠ code) ∧ NoLower rs code i := by
  constructor
  · intro h
    exact ⟨fun b hb => h 0 (by omega) b (by simp [hb]), fun j hj b hb => h (j + 1) (by omega) b (by simpa using hb)⟩
  · rintro ⟨hzero, hsucc⟩ j hj b hb
    cases j with
    | zero => exact hzero b (by simpa using hb)
    | succ j => exact hsucc j (by omega) b (by simpa using hb)

/-- A slot gets its entry from a good record under a good header, unless a lower slot names the code (R21 step 2). -/
theorem getElem?_loadArticles (trusted : Bool) (rs : List (Stored (Option Article))) (seen : List Nat) (i : Nat)
    (a : Article) :
    (loadArticles trusted seen rs)[i]? = some (some a) ↔
      trusted = true ∧ rs[i]? = some (.good (some a)) ∧ a.code ∉ seen ∧ NoLower rs a.code i := by
  induction rs generalizing seen i with
  | nil => simp [loadArticles]
  | cons r rs ih =>
    match r with
    | .failed => cases i <;> simp [loadArticles, ih, noLower_cons_succ]
    | .good none => cases i <;> simp [loadArticles, ih, noLower_cons_succ]
    | .good (some b) =>
      by_cases hb : trusted = true ∧ b.code ∉ seen
      · cases i with
        | zero =>
          simp only [loadArticles, hb, noLower_zero]
          grind
        | succ i =>
          have hcons : (loadArticles trusted seen (.good (some b) :: rs))[i + 1]? =
              (loadArticles trusted (b.code :: seen) rs)[i]? := by simp [loadArticles, hb]
          rw [hcons, ih, noLower_cons_succ]
          simp only [List.getElem?_cons_succ, List.mem_cons]
          grind
      · cases i with
        | zero =>
          simp only [loadArticles]
          grind
        | succ i =>
          have hcons : (loadArticles trusted seen (.good (some b) :: rs))[i + 1]? =
              (loadArticles trusted seen rs)[i]? := by simp [loadArticles, hb]
          rw [hcons, ih, noLower_cons_succ]
          simp only [List.getElem?_cons_succ]
          grind

theorem loadArticles_distinct (trusted : Bool) (rs : List (Stored (Option Article))) :
    CodesDistinct (loadArticles trusted [] rs) := by
  intro i j a b hi hj hcode
  obtain ⟨-, hri, -, hlowi⟩ := (getElem?_loadArticles _ _ _ _ _).mp hi
  obtain ⟨-, hrj, -, hlowj⟩ := (getElem?_loadArticles _ _ _ _ _).mp hj
  rcases Nat.lt_trichotomy i j with h | h | h
  · exact absurd hcode (hlowj i h a hri)
  · exact h
  · exact absurd hcode.symm (hlowi j h b hrj)

/-! #### The entries removed (R4) -/

/-- `t` is `s` without the entries of these codes, a write of each slot freed begun. -/
structure EntriesRemoved (codes : List Nat) (s t : Station) : Prop where
  carriers : t.smap.carriers = s.smap.carriers
  article : ∀ (i : Nat) (a : Article),
    t.smap.articles[i]? = some (some a) ↔ s.smap.articles[i]? = some (some a) ∧ a.code ∉ codes
  freed : ∀ (i : Nat) (a : Article), s.smap.articles[i]? = some (some a) → a.code ∈ codes →
    t.smap.articleWrites[i]? = (s.smap.articleWrites[i]?).map (fun w => w.trigger none)
  kept : ∀ i : Nat, (∀ a, s.smap.articles[i]? = some (some a) → a.code ∉ codes) →
    t.smap.articleWrites[i]? = s.smap.articleWrites[i]?

theorem EntriesRemoved.nil (s : Station) : EntriesRemoved [] s s := by
  constructor <;> simp

theorem EntriesRemoved.distinct {codes : List Nat} {s t : Station} (h : EntriesRemoved codes s t)
    (hs : CodesDistinct s.smap.articles) : CodesDistinct t.smap.articles := fun i j a b hi hj =>
  hs i j a b ((h.article i a).mp hi).1 ((h.article j b).mp hj).1

theorem EntriesRemoved.cons {code : Nat} {codes : List Nat} {s t u : Station} (h₁ : EntriesRemoved [code] s t)
    (h₂ : EntriesRemoved codes t u) : EntriesRemoved (code :: codes) s u where
  carriers := h₂.carriers.trans h₁.carriers
  article i a := by
    rw [h₂.article, h₁.article]
    simp [and_assoc]
  freed i a hi hmem := by
    by_cases hc : a.code = code
    · rw [h₂.kept i, h₁.freed i a hi (by simp [hc])]
      intro b hb
      obtain ⟨hb, hbc⟩ := (h₁.article i b).mp hb
      rw [hi] at hb
      cases hb
      simp [hc] at hbc
    · have ht : t.smap.articles[i]? = some (some a) := (h₁.article i a).mpr ⟨hi, by simpa using hc⟩
      rw [h₂.freed i a ht (by simpa [hc] using hmem), h₁.kept i]
      intro b hb
      rw [hi] at hb
      cases hb
      simpa using hc
  kept i hi := by
    rw [h₂.kept i, h₁.kept i]
    · exact fun a ha => fun hmem => hi a ha (by simp [List.mem_singleton.mp hmem])
    · exact fun a ha => fun hmem => hi a ((h₁.article i a).mp ha).1 (by simp [hmem])

/-- The test of R4 removes the entry of a code that nothing needs. -/
theorem testArticle_removes {s : Station} {code : Nat} (hs : CodesDistinct s.smap.articles)
    (hneed : s.articleNeeded code = false) : EntriesRemoved [code] s (s.testArticle code) := by
  unfold Station.testArticle
  rw [if_neg (by simp [hneed])]
  split
  · rename_i slot hslot
    obtain ⟨hlt, hmatch, -⟩ := List.findIdx?_eq_some_iff_getElem.mp hslot
    obtain ⟨a₀, ha₀, hcode⟩ : ∃ a, s.smap.articles[slot]? = some (some a) ∧ a.code = code := by
      rw [List.getElem?_eq_getElem hlt]
      cases hslot : s.smap.articles[slot] with
      | none => simp [hslot] at hmatch
      | some a => exact ⟨a, rfl, by simpa [hslot] using hmatch⟩
    have hone : ∀ (i : Nat) (a : Article), s.smap.articles[i]? = some (some a) → (a.code = code ↔ i = slot) := by
      intro i a hi
      constructor
      · intro h
        exact hs i slot a a₀ hi ha₀ (h.trans hcode.symm)
      · rintro rfl
        rw [hi] at ha₀
        cases ha₀
        exact hcode
    constructor
    · rfl
    · intro i a
      by_cases hi : i = slot
      · subst hi
        have hempty : (s.putArticle i none).smap.articles[i]? = some none := by simp [Station.putArticle, hlt]
        rw [hempty]
        refine iff_of_false nofun ?_
        rintro ⟨ha, hc⟩
        exact hc (by simp [(hone i a ha).mpr rfl])
      · have hsame : (s.putArticle slot none).smap.articles[i]? = s.smap.articles[i]? := by
          simp [Station.putArticle, Ne.symm hi]
        rw [hsame]
        exact ⟨fun ha => ⟨ha, fun hc => hi ((hone i a ha).mp (by simpa using hc))⟩, fun h => h.1⟩
    · intro i a hi hc
      have : i = slot := (hone i a hi).mp (by simpa using hc)
      subst this
      simp [Station.putArticle]
    · intro i hi
      have hne : slot ≠ i := by
        rintro rfl
        exact hi a₀ ha₀ (by simp [hcode])
      simp [Station.putArticle, hne]
  · rename_i hnone
    have hno : ∀ (i : Nat) (a : Article), s.smap.articles[i]? = some (some a) → a.code ≠ code := by
      intro i a hi hc
      have hfalse := List.findIdx?_eq_none_iff.mp hnone _ (List.mem_of_getElem? hi)
      simp [hc] at hfalse
    constructor
    · rfl
    · intro i a
      simpa using hno i a
    · intro i a hi hc
      exact absurd (List.mem_singleton.mp hc) (hno i a hi)
    · exact fun _ _ => rfl

theorem foldl_testArticle_removes {s : Station} {codes : List Nat} (hs : CodesDistinct s.smap.articles)
    (hneed : ∀ code ∈ codes, s.articleNeeded code = false) :
    EntriesRemoved codes s (codes.foldl (fun t code => t.testArticle code) s) := by
  induction codes generalizing s with
  | nil => exact .nil s
  | cons code codes ih =>
    have hone := testArticle_removes hs (hneed code (by simp))
    refine hone.cons (ih (hone.distinct hs) (fun c hc => ?_))
    have hkeep : ∀ c, (s.testArticle code).articleNeeded c = s.articleNeeded c := by
      intro c
      have hclu : (s.testArticle code).clu = s.clu := (testArticle_onlySmap s code).clu
      simp [Station.articleNeeded, hone.carriers, hclu]
    rw [hkeep]
    exact hneed c (by simp [hc])

end Sys2Proof.Machine
end

section
/-! ### The carriers that the retained load makes, and what it leaves (R21, R37, R5, R7) -/

namespace Sys2Proof.Machine

/-! #### Trust in a record -/

/-- A bay's record is trusted where its article has an entry under which the count fits (R21 step 3). -/
theorem bayImage_trusted_iff {m : Smap} (hm : CodesDistinct m.articles) (z : BayImage) (h : Nat) :
    z.trusted m h = true ↔ ∀ w, z.binding = some w →
      ∃ (i : Nat) (a : Article), m.articles[i]? = some (some a) ∧ a.code = w.article ∧ z.count ≤ capB h a.pitch := by
  unfold BayImage.trusted
  cases hz : z.binding with
  | none => simp
  | some w =>
    constructor
    · intro htrust w' hw
      cases hw
      cases ha : m.article? w.article with
      | none => simp [ha] at htrust
      | some a =>
        obtain ⟨i, hi, hcode⟩ := (article?_eq_some_iff hm _ _).mp ha
        exact ⟨i, a, hi, hcode, by simpa [ha] using htrust⟩
    · intro hex
      obtain ⟨i, a, hi, hcode, hcount⟩ := hex w rfl
      have ha := (article?_eq_some_iff hm _ _).mpr ⟨i, hi, hcode⟩
      simp [ha, hcount]

theorem trustedImage_good_eq_some_iff (trusted : Bool) (m : Smap) (cfg : Config) (r x : CarrierImage) :
    trustedImage trusted m cfg (.good r) = some x ↔
      r = x ∧ trusted = true ∧ r.bays.length = cfg.b ∧ ∀ z ∈ r.bays, z.trusted m cfg.h = true := by
  simp [trustedImage]
  tauto

section
variable {trusted : Bool} {m : Smap} {cfg : Config} {recs : List (Stored CarrierImage)} {c : Nat} {r : Stored CarrierImage}

theorem getElem?_loadCarriers_of_trusted {x : CarrierImage} (hc : c < cfg.n) (hr : recs[c]? = some r)
    (ht : trustedImage trusted m cfg r = some x) :
    (loadCarriers trusted m cfg recs)[c]? = some x.carrier.dropAtLoad := by
  simp [loadCarriers, hc, hr, ht]

theorem getElem?_loadCarriers_of_untrusted (hc : c < cfg.n) (hr : recs[c]? = some r)
    (ht : trustedImage trusted m cfg r = none) :
    (loadCarriers trusted m cfg recs)[c]? = some (Carrier.untrusted cfg.b) := by
  simp [loadCarriers, hc, hr, ht]

end

/-! #### The carrier of one record -/

/-- What every carrier has after the load (R7, R21 step 4, R37). -/
structure Carrier.Fresh (k : Carrier) : Prop where
  unverified : k.locks.unverified = true
  audit : k.locks.audit = false
  touched : k.locks.touched = false
  due : k.due = .none
  rescan : k.rescan = none
  bays : ∀ b ∈ k.bays, b.reserved = 0 ∧ b.incoming = 0 ∧ b.grade = .none ∧ b.unsureOnce = false

theorem bayImage_bay_idle (z : BayImage) : z.bay.idle = true ↔ z.binding = none ∨ z.count = 0 := by
  by_cases h : z.binding = none <;> simp [BayImage.bay, Bay.idle, h]

theorem empty_of_no_stock {r : CarrierImage} (h : ¬ ∃ z ∈ r.bays, z.binding ≠ none ∧ z.count ≠ 0) :
    ∀ z ∈ r.bays, z.binding = none ∨ z.count = 0 := by
  intro z hz
  by_contra hno
  exact h ⟨z, hz, not_or.mp hno⟩

/-- A trusted record with a tyre in a bound bay gives its bays as they are. -/
theorem dropAtLoad_of_stock {r : CarrierImage} (h : ∃ z ∈ r.bays, z.binding ≠ none ∧ z.count ≠ 0) :
    r.carrier.dropAtLoad = r.carrier := by
  obtain ⟨z, hz, hbound, hcount⟩ := h
  have hkeep : dropIdle r.carrier.bays = r.carrier.bays := by
    unfold dropIdle
    rw [if_neg]
    intro hall
    rcases (bayImage_bay_idle z).mp (List.all_eq_true.mp hall _ (List.mem_map_of_mem hz)) with h | h
    · exact hbound h
    · exact hcount h
  simp [Carrier.dropAtLoad, hkeep]

/-- A trusted record with no tyre in a bound bay loses its bindings, with a write where it had one (R6, R21 step 4). -/
theorem dropAtLoad_of_empty {r : CarrierImage} (h : ∀ z ∈ r.bays, z.binding = none ∨ z.count = 0) :
    r.carrier.dropAtLoad =
      let k : Carrier := { r.carrier with bays := r.bays.map (fun z => z.bay.unbind) }
      { k with write := if ∀ z ∈ r.bays, z.binding = none then .idle else .writing k.image } := by
  have hdrop : dropIdle r.carrier.bays = r.bays.map (fun z => z.bay.unbind) := by
    unfold dropIdle
    rw [if_pos]
    · simp [CarrierImage.carrier, Function.comp_def]
    · rw [List.all_eq_true]
      intro b hb
      obtain ⟨z, hz, rfl⟩ := List.mem_map.mp hb
      exact (bayImage_bay_idle z).mpr (h z hz)
  have himage : ({ r.carrier with bays := r.bays.map (fun z => z.bay.unbind) } : Carrier).image = r.carrier.image ↔
      ∀ z ∈ r.bays, z.binding = none := by
    simp [Carrier.image, CarrierImage.carrier, BayImage.bay, Bay.unbind, eq_comm]
  unfold Carrier.dropAtLoad
  dsimp only
  rw [hdrop]
  by_cases hnone : ∀ z ∈ r.bays, z.binding = none
  · rw [if_pos (himage.mpr hnone), if_pos hnone]
    rfl
  · rw [if_neg (fun hi => hnone (himage.mp hi)), if_neg hnone]
    rfl

theorem carrier_fresh (r : CarrierImage) : r.carrier.Fresh where
  unverified := rfl
  audit := rfl
  touched := rfl
  due := rfl
  rescan := rfl
  bays := by
    intro b hb
    obtain ⟨z, -, rfl⟩ := List.mem_map.mp hb
    exact ⟨rfl, rfl, rfl, rfl⟩

theorem dropAtLoad_fresh (r : CarrierImage) : r.carrier.dropAtLoad.Fresh := by
  by_cases h : ∃ z ∈ r.bays, z.binding ≠ none ∧ z.count ≠ 0
  · rw [dropAtLoad_of_stock h]
    exact carrier_fresh r
  · rw [dropAtLoad_of_empty (empty_of_no_stock h)]
    refine ⟨rfl, rfl, rfl, rfl, rfl, ?_⟩
    intro b hb
    obtain ⟨z, -, rfl⟩ := List.mem_map.mp hb
    exact ⟨rfl, rfl, rfl, rfl⟩

theorem untrusted_fresh (b : Nat) : (Carrier.untrusted b).Fresh := by
  refine ⟨rfl, rfl, rfl, rfl, rfl, ?_⟩
  intro x hx
  rw [List.eq_of_mem_replicate hx]
  exact ⟨rfl, rfl, rfl, rfl⟩

theorem loadCarriers_fresh {trusted : Bool} {m : Smap} {cfg : Config} {recs : List (Stored CarrierImage)} :
    ∀ k ∈ loadCarriers trusted m cfg recs, k.Fresh := by
  intro k hk
  obtain ⟨r, -, rfl⟩ := List.mem_map.mp hk
  split
  · exact dropAtLoad_fresh _
  · exact untrusted_fresh _

/-! #### The load as a whole -/

/-- The Stock Map once the article and the carrier records are read, before an entry is removed (R21 steps 2 and 3). -/
def Station.recordsRead (s : Station) : Smap :=
  let good := s.retained.headerGood s.cfg
  let m : Smap := {
    carriers := [], articles := loadArticles good [] s.retained.articles
    articleWrites := List.replicate 64 .idle, imbalance := 0 }
  { m with carriers := loadCarriers good m s.cfg s.retained.carriers }

/-- The station at that moment, its header written. -/
def Station.withRecordsRead (s : Station) : Station :=
  { s with
    retained := { s.retained with header := .good { n := s.cfg.n, b := s.cfg.b, h := s.cfg.h } }
    smap := s.recordsRead }

/-- The station once the entries that no bay is bound to are removed. -/
def Station.withEntriesTested (s : Station) : Station :=
  s.recordsRead.unboundCodes.foldl (fun t code => t.testArticle code) s.withRecordsRead

/-- The load ends with the masses and the imbalance (R21 step 4). -/
theorem retainedLoad_smap (s : Station) :
    let t := s.withEntriesTested.smap
    s.retainedLoad.smap.carriers = t.carriers.map (fun k => { k with mass := t.carrierMass k })
      ∧ s.retainedLoad.smap.articles = t.articles ∧ s.retainedLoad.smap.articleWrites = t.articleWrites :=
  ⟨rfl, rfl, rfl⟩

theorem recordsRead_distinct (s : Station) : CodesDistinct s.recordsRead.articles := loadArticles_distinct _ _

theorem headerGood_iff (s : Station) :
    s.retained.headerGood s.cfg = true ↔ s.retained.header = .good { n := s.cfg.n, b := s.cfg.b, h := s.cfg.h } := by
  simp [Retained.headerGood]

/-- The record of slot `i` gives it the entry `a` (R21 step 2). -/
def Station.slotEntry (s : Station) (i : Nat) (a : Article) : Prop :=
  s.retained.header = .good { n := s.cfg.n, b := s.cfg.b, h := s.cfg.h }
    ∧ s.retained.articles[i]? = some (.good (some a)) ∧ NoLower s.retained.articles a.code i

theorem recordsRead_article_iff (s : Station) (i : Nat) (a : Article) :
    s.recordsRead.articles[i]? = some (some a) ↔ s.slotEntry i a := by
  refine (getElem?_loadArticles _ _ _ _ _).trans ?_
  simp [Station.slotEntry, headerGood_iff]

/-- A bay of the carriers is bound to the code. -/
def boundIn (carriers : List Carrier) (code : Nat) : Prop :=
  ∃ k ∈ carriers, ∃ b ∈ k.bays, ∃ w, b.binding = some { article := code, week := w }

theorem any_boundTo_iff (carriers : List Carrier) (code : Nat) :
    carriers.any (fun k => k.bays.any (fun b => b.boundTo code)) = true ↔ boundIn carriers code := by
  have hbay : ∀ b : Bay, b.boundTo code = true ↔ ∃ w, b.binding = some { article := code, week := w } := by
    intro b
    unfold Bay.boundTo
    cases b.binding with
    | none => simp
    | some x => cases x; simp
  simp [boundIn, hbay]

theorem boundIn_map_mass (carriers : List Carrier) (f : Carrier → Nat) (code : Nat) :
    boundIn (carriers.map (fun k => { k with mass := f k })) code ↔ boundIn carriers code := by
  simp [boundIn]

theorem mem_unboundCodes_iff (m : Smap) (code : Nat) :
    code ∈ m.unboundCodes ↔ (∃ (i : Nat) (a : Article), m.articles[i]? = some (some a) ∧ a.code = code)
      ∧ ¬ boundIn m.carriers code := by
  rw [← any_boundTo_iff]
  rw [Smap.unboundCodes, List.mem_filterMap]
  constructor
  · rintro ⟨e, hmem, he⟩
    obtain ⟨i, hi⟩ := List.getElem?_of_mem hmem
    obtain ⟨a, rfl, ha⟩ := Option.bind_eq_some_iff.mp he
    split at ha
    · cases ha
    · rename_i hb
      cases ha
      exact ⟨⟨i, a, hi, rfl⟩, hb⟩
  · rintro ⟨⟨i, a, hi, rfl⟩, hb⟩
    exact ⟨some a, List.mem_of_getElem? hi, if_neg hb⟩

/-- The entries that no bay is bound to are removed, and no other (R21 step 4, R4). -/
theorem withEntriesTested_removes {s : Station} (hs : s.clu.records = []) :
    EntriesRemoved s.recordsRead.unboundCodes s.withRecordsRead s.withEntriesTested := by
  refine foldl_testArticle_removes (recordsRead_distinct s) (fun code hcode => ?_)
  have hunbound := ((mem_unboundCodes_iff _ _).mp hcode).2
  rw [← any_boundTo_iff, Bool.not_eq_true] at hunbound
  have hrec : s.withRecordsRead.clu.records = [] := hs
  rw [Station.articleNeeded, hrec, List.any_nil, Bool.or_false]
  exact hunbound

theorem retainedLoad_carriers {s : Station} (hs : s.clu.records = []) :
    s.retainedLoad.smap.carriers =
      s.recordsRead.carriers.map (fun k => { k with mass := s.retainedLoad.smap.carrierMass k }) := by
  obtain ⟨hcarriers, harticles, -⟩ := retainedLoad_smap s
  have hmass : ∀ k, s.retainedLoad.smap.carrierMass k = s.withEntriesTested.smap.carrierMass k := fun k => rfl
  rw [hcarriers, (withEntriesTested_removes hs).carriers]
  rfl

theorem retainedLoad_bound_iff {s : Station} (hs : s.clu.records = []) (code : Nat) :
    boundIn s.retainedLoad.smap.carriers code ↔ boundIn s.recordsRead.carriers code := by
  rw [retainedLoad_carriers hs]
  exact boundIn_map_mass _ _ _

theorem retainedLoad_article_iff {s : Station} (hs : s.clu.records = []) (i : Nat) (a : Article) :
    s.retainedLoad.smap.articles[i]? = some (some a) ↔
      s.slotEntry i a ∧ boundIn s.retainedLoad.smap.carriers a.code := by
  rw [retainedLoad_bound_iff hs, ← recordsRead_article_iff]
  refine ((withEntriesTested_removes hs).article i a).trans (and_congr_right fun ha => ?_)
  rw [mem_unboundCodes_iff]
  constructor
  · intro h
    by_contra hb
    exact h ⟨⟨i, a, ha, rfl⟩, hb⟩
  · exact fun hb h => h.2 hb

/-- Of the 64 slots, those whose entry no bay is bound to are being written; the others are IDLE (R21 step 4). -/
theorem retainedLoad_articleWrites {s : Station} (hs : s.clu.records = []) {i : Nat} (hi : i < 64) :
    ((∃ a, s.slotEntry i a ∧ ¬ boundIn s.retainedLoad.smap.carriers a.code)
        ∧ s.retainedLoad.smap.articleWrites[i]? = some (.writing none))
      ∨ (¬ (∃ a, s.slotEntry i a ∧ ¬ boundIn s.retainedLoad.smap.carriers a.code)
        ∧ s.retainedLoad.smap.articleWrites[i]? = some .idle) := by
  have hremoved := withEntriesTested_removes hs
  have hidle : s.withRecordsRead.smap.articleWrites[i]? = some .idle := by
    exact List.getElem?_replicate_of_lt hi
  by_cases h : ∃ a, s.slotEntry i a ∧ ¬ boundIn s.retainedLoad.smap.carriers a.code
  · refine .inl ⟨h, ?_⟩
    obtain ⟨a, ha, hb⟩ := h
    have harticle := (recordsRead_article_iff s i a).mpr ha
    rw [retainedLoad_bound_iff hs] at hb
    have hfreed := hremoved.freed i a harticle ((mem_unboundCodes_iff _ _).mpr ⟨⟨i, a, harticle, rfl⟩, hb⟩)
    rw [hidle] at hfreed
    exact hfreed
  · refine .inr ⟨h, (hremoved.kept i (fun a ha hc => h ?_)).trans hidle⟩
    refine ⟨a, (recordsRead_article_iff s i a).mp ha, ?_⟩
    rw [retainedLoad_bound_iff hs]
    exact ((mem_unboundCodes_iff _ _).mp hc).2

/-- A carrier record that is trusted (R21 step 3). -/
def Station.trustedRecord (s : Station) (r : CarrierImage) : Prop :=
  s.retained.header = .good { n := s.cfg.n, b := s.cfg.b, h := s.cfg.h } ∧ r.bays.length = s.cfg.b
    ∧ ∀ z ∈ r.bays, ∀ w, z.binding = some w →
      ∃ i a, s.slotEntry i a ∧ a.code = w.article ∧ z.count ≤ capB s.cfg.h a.pitch

/-- A carrier that the load makes, from the one that its record gives: the mass alone is computed after (R8). -/
theorem retainedLoad_getElem? {s : Station} (hs : s.clu.records = []) {c : Nat} {k : Carrier}
    (hk : s.recordsRead.carriers[c]? = some k) :
    s.retainedLoad.smap.carriers[c]? = some { k with mass := s.retainedLoad.smap.carrierMass k } := by
  rw [retainedLoad_carriers hs, List.getElem?_map, hk]
  rfl

/-- The record of a carrier is taken exactly where it is trusted. -/
theorem trustedImage_eq_some_iff (s : Station) (r : Stored CarrierImage) (x : CarrierImage) :
    trustedImage (s.retained.headerGood s.cfg) { s.recordsRead with carriers := [] } s.cfg r = some x ↔
      r = .good x ∧ s.trustedRecord x := by
  cases r with
  | failed => simp [trustedImage]
  | good r =>
    rw [trustedImage_good_eq_some_iff, headerGood_iff, Stored.good.injEq]
    refine and_congr_right ?_
    rintro rfl
    have hdistinct : CodesDistinct ({ s.recordsRead with carriers := [] } : Smap).articles := recordsRead_distinct s
    simp only [bayImage_trusted_iff hdistinct, recordsRead_article_iff]
    rfl

theorem recordsRead_of_trusted {s : Station} {c : Nat} {r : CarrierImage} (hc : c < s.cfg.n)
    (hr : s.retained.carriers[c]? = some (.good r)) (ht : s.trustedRecord r) :
    s.recordsRead.carriers[c]? = some r.carrier.dropAtLoad :=
  getElem?_loadCarriers_of_trusted hc hr ((trustedImage_eq_some_iff s _ r).mpr ⟨rfl, ht⟩)

theorem recordsRead_of_untrusted {s : Station} {c : Nat} {r : Stored CarrierImage} (hc : c < s.cfg.n)
    (hr : s.retained.carriers[c]? = some r) (ht : ∀ x, r = .good x → ¬ s.trustedRecord x) :
    s.recordsRead.carriers[c]? = some (Carrier.untrusted s.cfg.b) := by
  refine getElem?_loadCarriers_of_untrusted hc hr (Option.eq_none_iff_forall_not_mem.mpr fun x hx => ?_)
  obtain ⟨hgood, htrust⟩ := (trustedImage_eq_some_iff s r x).mp hx
  exact ht x hgood htrust

/-- What a trusted record gives its carrier: all of it where a bound bay holds a tyre, and no binding otherwise. -/
theorem dropAtLoad_spec (r : CarrierImage) :
    let k := r.carrier.dropAtLoad
    k.faults = r.faults
      ∧ k.locks = { LockSet.empty with
          unverified := true, quarantine := r.quarantine, held := r.held, retired := r.retired }
      ∧ k.bays.map (fun b => b.count) = r.bays.map (fun z => if z.binding = none then 0 else z.count)
      ∧ ((∃ z ∈ r.bays, z.binding ≠ none ∧ z.count ≠ 0) →
          k.bays.map (fun b => b.binding) = r.bays.map (fun z => z.binding) ∧ k.write = .idle)
      ∧ ((∀ z ∈ r.bays, z.binding = none ∨ z.count = 0) → (∀ b ∈ k.bays, b.binding = none)
          ∧ k.write = if ∀ z ∈ r.bays, z.binding = none then .idle else .writing k.image) := by
  by_cases h : ∃ z ∈ r.bays, z.binding ≠ none ∧ z.count ≠ 0
  · rw [dropAtLoad_of_stock h]
    refine ⟨rfl, rfl, by simp [CarrierImage.carrier, BayImage.bay], fun _ => ⟨by simp [CarrierImage.carrier, BayImage.bay], rfl⟩,
      fun hall => ?_⟩
    obtain ⟨z, hz, hbound, hcount⟩ := h
    exact absurd (hall z hz) (by simp [hbound, hcount])
  · rw [dropAtLoad_of_empty (empty_of_no_stock h)]
    refine ⟨rfl, rfl, by simp [BayImage.bay, Bay.unbind], fun hex => absurd hex h, fun _ => ⟨?_, rfl⟩⟩
    intro b hb
    obtain ⟨z, -, rfl⟩ := List.mem_map.mp hb
    rfl

theorem retainedLoad_fresh {s : Station} (hs : s.clu.records = []) :
    ∀ k ∈ s.retainedLoad.smap.carriers, k.Fresh ∧ k.mass = s.retainedLoad.smap.carrierMass k := by
  intro k hk
  rw [retainedLoad_carriers hs] at hk
  obtain ⟨k', hk', rfl⟩ := List.mem_map.mp hk
  obtain ⟨hun, hau, hto, hdue, hre, hbays⟩ := loadCarriers_fresh k' hk'
  exact ⟨⟨hun, hau, hto, hdue, hre, hbays⟩, rfl⟩

theorem retainedLoad_length {s : Station} (hs : s.clu.records = []) (hn : s.cfg.n ≤ s.retained.carriers.length) :
    s.retainedLoad.smap.carriers.length = s.cfg.n := by
  rw [retainedLoad_carriers hs, List.length_map]
  simp [Station.recordsRead, loadCarriers, hn]

/-- Settles O6: clause by clause, from the carriers and the entries that the records give. -/
theorem retainedLoadLeaves : Obligations.RetainedLoadLeaves := by
  intro x hx
  have hwrites := fun (i : Nat) (hi : i < 64) => retainedLoad_articleWrites hx hi
  refine ⟨?_, retainedLoad_length hx, ?_, ?_, ?_, retainedLoad_article_iff hx, ?_, ?_, rfl⟩
  · rw [retainedLoad_eq]
  · intro k hk
    obtain ⟨⟨hun, hau, hto, hdue, hre, hbays⟩, hmass⟩ := retainedLoad_fresh hx k hk
    exact ⟨⟨hun, hau, hto, hdue, hre, hmass⟩, hbays⟩
  · intro c r hc hr ht
    exact ⟨_, retainedLoad_getElem? hx (recordsRead_of_trusted hc hr ht), dropAtLoad_spec r⟩
  · intro c r hc hr ht
    exact ⟨_, retainedLoad_getElem? hx (recordsRead_of_untrusted hc hr ht), rfl, rfl, rfl, rfl⟩
  · intro i hi
    rcases hwrites i hi with ⟨-, h⟩ | ⟨-, h⟩
    · exact .inl h
    · exact .inr h
  · intro i hi
    rcases hwrites i hi with ⟨hex, h⟩ | ⟨hno, h⟩
    · exact iff_of_true h hex
    · exact iff_of_false (by rw [h]; nofun) hno

end Sys2Proof.Machine
end

section
/-! ### Bays after a change, RESERVE and UNRESERVE (R5, R6, R10, R11) -/

namespace Sys2Proof.Machine

/-! #### One change of a bay -/

@[simp] theorem testArticle_carriers (s : Station) (code : Nat) :
    (s.testArticle code).smap.carriers = s.smap.carriers := by
  unfold Station.testArticle
  split
  · rfl
  · split <;> rfl

theorem foldl_testArticle_carriers (codes : List Nat) (s : Station) :
    (codes.foldl (fun t code => t.testArticle code) s).smap.carriers = s.smap.carriers := by
  induction codes generalizing s with
  | nil => rfl
  | cons code codes ih => rw [List.foldl_cons, ih, testArticle_carriers]

/-- The carriers after a change of one bay: the drop of R6, the write trigger and the mass at its carrier alone. -/
theorem changeBay_carriers (s : Station) (a : BayAddr) (f : Bay → Bay) :
    (s.changeBay a f).smap.carriers =
      ((s.updCarrier a.carrier (fun k => { k with bays := dropIdle (k.bays.modify a.bay f) })).recompute
        a.carrier).smap.carriers :=
  foldl_testArticle_carriers _ _

theorem recompute_bays (s : Station) (c c' : Nat) :
    ((s.recompute c).carrier? c').map (fun k => k.bays) = (s.carrier? c').map (fun k => k.bays) := by
  simp only [Station.carrier?, Station.recompute, List.getElem?_modify]
  cases s.smap.carriers[c']? with
  | none => rfl
  | some k => by_cases hc : c = c' <;> simp [hc]

theorem updCarrier_bays (s : Station) (c c' : Nat) (f : Carrier → Carrier) :
    ((s.updCarrier c f).carrier? c').map (fun k => k.bays) =
      (s.carrier? c').map (fun k => if c = c' then (f k).bays else k.bays) := by
  simp only [Station.carrier?, Station.updCarrier, List.getElem?_modify]
  cases s.smap.carriers[c']? with
  | none => rfl
  | some k =>
    by_cases hc : c = c'
    · by_cases himage : (f k).image = k.image <;> simp [hc, himage]
    · simp [hc]

theorem changeBay_bays (s : Station) (a : BayAddr) (f : Bay → Bay) (c : Nat) :
    ((s.changeBay a f).carrier? c).map (fun k => k.bays) = (s.carrier? c).map (fun k =>
      if a.carrier = c then dropIdle (k.bays.modify a.bay f) else k.bays) := by
  rw [Station.carrier?, changeBay_carriers]
  exact (recompute_bays _ _ _).trans (updCarrier_bays _ _ _ _)

theorem bay?_eq (s : Station) (a : BayAddr) :
    s.bay? a = ((s.carrier? a.carrier).map (fun k => k.bays)).bind (fun bays => bays[a.bay]?) := by
  simp [Station.bay?, Option.bind_map]

theorem getElem?_dropIdle (bays : List Bay) (i : Nat) :
    (dropIdle bays)[i]? = bays[i]?.map (fun b => if bays.all (fun b => b.idle) then b.unbind else b) := by
  unfold dropIdle
  split <;> simp

/-- The bay of the change, and every other bay, but for the bindings that go with the drop of R6. -/
theorem bay?_changeBay (s : Station) (a a' : BayAddr) (f : Bay → Bay) :
    ∃ drop : Bool, (s.changeBay a f).bay? a' =
        (s.bay? a').map (fun b => let b' := if a' = a then f b else b; if drop then b'.unbind else b')
      ∧ (drop = true → ∀ b, s.bay? a = some b → (f b).idle = true) := by
  rw [bay?_eq, changeBay_bays, bay?_eq]
  cases hk : s.carrier? a'.carrier with
  | none => exact ⟨false, rfl, nofun⟩
  | some k =>
    by_cases hc : a.carrier = a'.carrier
    · refine ⟨(k.bays.modify a.bay f).all (fun b => b.idle), ?_, ?_⟩
      · have haddr : a' = a ↔ a.bay = a'.bay := by
          cases a; cases a'
          simp_all [eq_comm]
        simp only [Option.map_some, Option.bind_some, hc, if_true, getElem?_dropIdle, List.getElem?_modify, haddr]
        cases k.bays[a'.bay]? <;> rfl
      · intro hall b hb
        rw [bay?_eq, hc, hk] at hb
        refine List.all_eq_true.mp hall _ (List.mem_of_getElem? (i := a.bay) ?_)
        rw [List.getElem?_modify, show k.bays[a.bay]? = some b from hb]
        simp
    · refine ⟨false, ?_, nofun⟩
      have haddr : a' ≠ a := fun h => hc (by rw [h])
      simp [hc, haddr]

/-- Count, reserved and incoming of a bay (R5). -/
def Bay.figures (b : Bay) : Nat × Nat × Nat := (b.count, b.reserved, b.incoming)

theorem figures_changeBay (s : Station) (a a' : BayAddr) {f : Bay → Bay} {g : Nat × Nat × Nat → Nat × Nat × Nat}
    (hg : ∀ b, (f b).figures = g b.figures) :
    ((s.changeBay a f).bay? a').map Bay.figures =
      ((s.bay? a').map Bay.figures).map (fun x => if a' = a then g x else x) := by
  obtain ⟨drop, hbay, -⟩ := bay?_changeBay s a a' f
  have hunbind : ∀ b : Bay, b.unbind.figures = b.figures := fun _ => rfl
  rw [hbay, Option.map_map, Option.map_map]
  refine Option.map_congr fun b _ => ?_
  by_cases ha : a' = a <;> cases drop <;> simp [ha, hg, hunbind]

/-- A change that leaves its bay with a tyre or a promise drops no binding. -/
theorem bay?_changeBay_of_busy (s : Station) (a a' : BayAddr) {f : Bay → Bay} {b : Bay} (ha : s.bay? a = some b)
    (hf : (f b).idle = false) :
    (s.changeBay a f).bay? a' = (s.bay? a').map (fun b => if a' = a then f b else b) := by
  obtain ⟨drop, hbay, hdrop⟩ := bay?_changeBay s a a' f
  cases drop with
  | false => exact hbay
  | true =>
    rw [hdrop rfl b ha] at hf
    cases hf

/-! #### UNRESERVE -/

/-- The quantity that a list of an UNRESERVE gives back of one bay. -/
def givenBack (entries : List (BayAddr × Nat)) (a : BayAddr) : Nat :=
  ((entries.filter (fun e => e.1 = a)).map (fun e => e.2)).sum

theorem givenBack_cons (e : BayAddr × Nat) (entries : List (BayAddr × Nat)) (a : BayAddr) :
    givenBack (e :: entries) a = (if a = e.1 then e.2 else 0) + givenBack entries a := by
  unfold givenBack
  by_cases h : e.1 = a
  · simp [h]
  · simp [h, Ne.symm h]

/-- An entry of quantity 0 gives nothing back. -/
theorem givenBack_filter_ne_zero (entries : List (BayAddr × Nat)) (a : BayAddr) :
    givenBack (entries.filter (fun e => e.2 ≠ 0)) a = givenBack entries a := by
  induction entries with
  | nil => rfl
  | cons e entries ih =>
    by_cases h : e.2 = 0
    · rw [List.filter_cons_of_neg (by simp [h]), ih, givenBack_cons, h]
      simp
    · rw [List.filter_cons_of_pos (by simp [h]), givenBack_cons, givenBack_cons, ih]

/-- The reserved of one bay falls by an entry's quantity, to no less than 0 (R11). -/
def Station.unreserveOne (s : Station) (e : BayAddr × Nat) : Station :=
  s.changeBay e.1 (fun b => { b with reserved := b.reserved - e.2 })

theorem unreserve_of_exist {s : Station} {entries : List (BayAddr × Nat)} (h : ∀ e ∈ entries, s.bay? e.1 ≠ none) :
    s.unreserve entries = (entries.filter (fun e => e.2 ≠ 0)).foldl Station.unreserveOne s := by
  unfold Station.unreserve
  rw [if_pos]
  · rfl
  · rw [List.all_eq_true]
    exact fun e he => Option.isSome_iff_ne_none.mpr (h e he)

theorem unreserve_of_missing {s : Station} {entries : List (BayAddr × Nat)} {e : BayAddr × Nat} (he : e ∈ entries)
    (h : s.bay? e.1 = none) : s.unreserve entries = s := by
  unfold Station.unreserve
  rw [if_neg]
  intro hall
  have hsome := List.all_eq_true.mp hall e he
  rw [h] at hsome
  cases hsome

theorem foldl_unreserveOne_figures (entries : List (BayAddr × Nat)) (s : Station) (a : BayAddr) :
    ((entries.foldl Station.unreserveOne s).bay? a).map Bay.figures =
      ((s.bay? a).map Bay.figures).map (fun x => (x.1, x.2.1 - givenBack entries a, x.2.2)) := by
  induction entries generalizing s with
  | nil => rw [List.foldl_nil]; cases s.bay? a <;> rfl
  | cons e entries ih =>
    have hone := figures_changeBay s e.1 a (f := fun b => { b with reserved := b.reserved - e.2 })
      (g := fun x => (x.1, x.2.1 - e.2, x.2.2)) (fun _ => rfl)
    rw [List.foldl_cons, ih, Station.unreserveOne, hone, Option.map_map]
    refine Option.map_congr fun x _ => ?_
    rw [givenBack_cons]
    by_cases h : a = e.1
    · simp [h, Nat.sub_sub]
    · simp [h]

theorem unreserve_onlySmap (s : Station) (entries : List (BayAddr × Nat)) : OnlySmap s (s.unreserve entries) := by
  unfold Station.unreserve
  split
  · exact foldl_onlySmap _ (fun _ _ => changeBay_onlySmap _ _ _) _ _
  · exact .refl s

/-- UNRESERVE gives back the quantities of a list whose bays exist (R11). -/
theorem unreserve_bay? {s : Station} {entries : List (BayAddr × Nat)} (h : ∀ e ∈ entries, s.bay? e.1 ≠ none) {a : BayAddr}
    {b : Bay} (hb : s.bay? a = some b) :
    ∃ b', (s.unreserve entries).bay? a = some b' ∧ b'.count = b.count ∧ b'.incoming = b.incoming
      ∧ b'.reserved = b.reserved - givenBack entries a := by
  have hfigures := foldl_unreserveOne_figures (entries.filter (fun e => e.2 ≠ 0)) s a
  rw [← unreserve_of_exist h, givenBack_filter_ne_zero, hb] at hfigures
  obtain ⟨b', hb', hx⟩ := Option.map_eq_some_iff.mp hfigures
  simp only [Bay.figures, Prod.mk.injEq] at hx
  obtain ⟨hcount, hreserved, hincoming⟩ := hx
  exact ⟨b', hb', hcount, hincoming, hreserved⟩

/-! #### RESERVE -/

/-- The bay of an entry exists, is bound to the article and has what the entries ask of it available (R10). -/
def Station.fits (s : Station) (article : Nat) (entries : List SelEntry) (e : SelEntry) : Prop :=
  ∃ b w, s.bay? e.addr = some b ∧ b.binding = some { article := article, week := w }
    ∧ askedOf entries e.addr ≤ b.count - b.reserved

theorem boundTo_iff (b : Bay) (article : Nat) :
    b.boundTo article = true ↔ ∃ w, b.binding = some { article := article, week := w } := by
  unfold Bay.boundTo
  cases b.binding with
  | none => simp
  | some x => cases x; simp

section
variable {s : Station} {article : Nat} {entries : List SelEntry} {e : SelEntry}

theorem reserveCheck_accepted_iff : s.reserveCheck article entries e = .accepted ↔ s.fits article entries e := by
  unfold Station.reserveCheck Station.fits
  cases s.bay? e.addr with
  | none => simp
  | some b =>
    have hbound := boundTo_iff b article
    by_cases hb : b.boundTo article = true
    · obtain ⟨w, hw⟩ := hbound.mp hb
      by_cases ha : askedOf entries e.addr ≤ b.count - b.reserved <;> simp [hb, ha, hw]
    · have hno : ∀ w, b.binding ≠ some { article := article, week := w } := fun w hw => hb (hbound.mpr ⟨w, hw⟩)
      simp [hb, hno]

theorem reserveCheck_of_noSuchBay (h : s.bay? e.addr = none) : s.reserveCheck article entries e = .noSuchBay := by
  simp [Station.reserveCheck, h]

theorem reserveCheck_of_wrongBinding {b : Bay} (h : s.bay? e.addr = some b)
    (hb : ∀ w, b.binding ≠ some { article := article, week := w }) :
    s.reserveCheck article entries e = .wrongBinding := by
  have hbound : ¬ b.boundTo article = true := fun hb' => by
    obtain ⟨w, hw⟩ := (boundTo_iff b article).mp hb'
    exact hb w hw
  simp [Station.reserveCheck, h, hbound]

theorem reserveCheck_of_short {b : Bay} (h : s.bay? e.addr = some b)
    (hb : ∃ w, b.binding = some { article := article, week := w }) (ha : b.count - b.reserved < askedOf entries e.addr) :
    s.reserveCheck article entries e = .short := by
  simp [Station.reserveCheck, h, (boundTo_iff b article).mpr hb, Nat.not_le.mpr ha]

/-- The first entry that does not fit gives the answer, and nothing changes (R10). -/
theorem reserve_of_first_failing {before after : List SelEntry} (hentries : entries = before ++ e :: after)
    (hbefore : ∀ d ∈ before, s.fits article entries d) (he : s.reserveCheck article entries e ≠ .accepted) :
    s.reserve article entries = (s.reserveCheck article entries e, s) := by
  have hfind : entries.find? (fun d => s.reserveCheck article entries d ≠ .accepted) = some e := by
    refine List.find?_eq_some_iff_append.mpr ⟨by simpa using he, before, after, hentries, fun d hd => ?_⟩
    simpa using reserveCheck_accepted_iff.mpr (hbefore d hd)
  simp only [Station.reserve, hfind]

/-- The reserved of one bay rises by an entry's quantity (R10). -/
def Station.reserveOne (s : Station) (e : SelEntry) : Station :=
  s.changeBay e.addr (fun b => { b with reserved := b.reserved + e.qty })

theorem reserve_of_fits (h : ∀ e ∈ entries, s.fits article entries e) :
    s.reserve article entries = (.accepted, entries.foldl Station.reserveOne s) := by
  have hfind : entries.find? (fun d => s.reserveCheck article entries d ≠ .accepted) = none := by
    refine List.find?_eq_none.mpr fun d hd => ?_
    simpa using reserveCheck_accepted_iff.mpr (h d hd)
  simp only [Station.reserve, hfind]
  rfl

/-- A RESERVE is accepted only where every entry fits. -/
theorem fits_of_reserve_accepted {t : Station} (h : s.reserve article entries = (.accepted, t)) :
    (∀ e ∈ entries, s.fits article entries e) ∧ t = entries.foldl Station.reserveOne s := by
  have hfits : ∀ e ∈ entries, s.fits article entries e := by
    unfold Station.reserve at h
    split at h
    · rename_i e he
      have hne := List.find?_some he
      simp only [Prod.mk.injEq] at h
      simp [h.1] at hne
    · rename_i hnone
      intro e he
      have hacc := List.find?_eq_none.mp hnone e he
      exact reserveCheck_accepted_iff.mp (by simpa using hacc)
  rw [reserve_of_fits hfits] at h
  simp only [Prod.mk.injEq, true_and] at h
  exact ⟨hfits, h.symm⟩

end

theorem foldl_reserveOne_onlySmap (entries : List SelEntry) (s : Station) :
    OnlySmap s (entries.foldl Station.reserveOne s) :=
  foldl_onlySmap _ (fun _ _ => changeBay_onlySmap _ _ _) _ _

theorem addr_eq_iff (e : SelEntry) (a : BayAddr) :
    (e.carrier == a.carrier && e.bay == a.bay) = true ↔ a = e.addr := by
  cases a
  simp only [SelEntry.addr, Bool.and_eq_true, beq_iff_eq, BayAddr.mk.injEq]
  exact and_congr eq_comm eq_comm

theorem askedOf_cons (e : SelEntry) (entries : List SelEntry) (a : BayAddr) :
    askedOf (e :: entries) a = (if a = e.addr then e.qty else 0) + askedOf entries a := by
  unfold askedOf
  by_cases h : a = e.addr
  · rw [List.filter_cons, if_pos ((addr_eq_iff e a).mpr h)]
    simp [h]
  · rw [List.filter_cons, if_neg (fun h' => h ((addr_eq_iff e a).mp h'))]
    simp [h]

/-- Entries of bays that exist, each with a quantity, raise the reserved of each bay by what they ask of it (R10). -/
theorem foldl_reserveOne_bay? {entries : List SelEntry} {s : Station}
    (h : ∀ e ∈ entries, s.bay? e.addr ≠ none ∧ 1 ≤ e.qty) (a : BayAddr) :
    (entries.foldl Station.reserveOne s).bay? a =
      (s.bay? a).map (fun b => { b with reserved := b.reserved + askedOf entries a }) := by
  induction entries generalizing s with
  | nil => simp [askedOf]
  | cons e entries ih =>
    obtain ⟨hexists, hqty⟩ := h e (by simp)
    obtain ⟨b₀, hb₀⟩ := Option.ne_none_iff_exists'.mp hexists
    have hone : ∀ a', (s.reserveOne e).bay? a' =
        (s.bay? a').map (fun b => if a' = e.addr then { b with reserved := b.reserved + e.qty } else b) := fun a' =>
      bay?_changeBay_of_busy s e.addr a' hb₀ (by
        have : b₀.reserved + e.qty ≠ 0 := by omega
        simp [Bay.idle]
        omega)
    rw [List.foldl_cons, ih, hone, Option.map_map]
    · refine Option.map_congr fun b _ => ?_
      rw [askedOf_cons]
      by_cases ha : a = e.addr
      · simp [ha, Nat.add_assoc]
      · simp [ha]
    · intro d hd
      obtain ⟨hd, hq⟩ := h d (by simp [hd])
      rw [hone]
      exact ⟨by simpa using hd, hq⟩

end Sys2Proof.Machine
end

section
/-! ### The posts that follow within an event: RDY and STS alone (R93, R156) -/

namespace Sys2Proof.Machine

/-- The posts but for the RDYs and STSs, which are all that the settling of an event posts (R93, R156). -/
def Bus.otherPosts (b : Bus) : List Post := b.posts.filter (fun p => decide (p.kind ≠ .rdy ∧ p.kind ≠ .sts))

theorem OnlySmap.bus {s t : Station} (h : OnlySmap s t) : t.bus = s.bus := by
  unfold OnlySmap at h
  rw [h]

theorem foldl_otherPosts {α : Type} (f : Station → α → Station) (h : ∀ s x, (f s x).bus.otherPosts = s.bus.otherPosts)
    (l : List α) (s : Station) : (l.foldl f s).bus.otherPosts = s.bus.otherPosts := by
  induction l generalizing s with
  | nil => rfl
  | cons x xs ih => rw [List.foldl_cons, ih, h]

section
variable (s : Station)

/-! #### What posts nothing -/

@[simp] theorem changeBay_bus (a : BayAddr) (f : Bay → Bay) : (s.changeBay a f).bus = s.bus :=
  (changeBay_onlySmap s a f).bus

@[simp] theorem expect_bus (addr : BayAddr) (week qty : Nat) (a : Article) : (s.expect addr week qty a).2.bus = s.bus := by
  unfold Station.expect
  dsimp only
  split
  · rfl
  · split
    · rfl
    · split
      · rfl
      · split
        · rw [changeBay_bus]
          split
          · unfold Station.createArticle
            split <;> rfl
          · rfl
        · rfl

@[simp] theorem unexpect_bus (a : BayAddr) (q : Nat) : (s.unexpect a q).bus = s.bus := by
  unfold Station.unexpect
  split <;> simp

@[simp] theorem touch_bus (c : Nat) : (s.touch c).bus = s.bus := by
  unfold Station.touch
  dsimp only
  split
  · split <;> rfl
  · rfl

@[simp] theorem addTask_bus (j : Job) : (s.addTask j).bus = s.bus := by
  cases j <;> rfl

@[simp] theorem markWant_bus (w : ClaimWant) : (s.markWant w).bus = s.bus := by
  unfold Station.markWant
  split <;> rfl

@[simp] theorem setRescan_bus (c : Nat) (p : Option Purpose) : (s.setRescan c p).bus = s.bus := rfl

@[simp] theorem tryDest_bus (t : Tyre) : (s.tryDest t).2.bus = s.bus := by
  unfold Station.tryDest
  split
  · rfl
  · rename_i d _
    have hb := expect_bus s d t.week 1 (s.tyreArticle t)
    split
    · rename_i h; rw [h] at hb; exact hb
    · rename_i h; rw [h] at hb; exact hb

@[simp] theorem expectDest_bus (t : Tyre) : (s.expectDest t).2.bus = s.bus := by
  have hb := tryDest_bus s t
  unfold Station.expectDest
  split
  · rename_i h; rw [h] at hb; exact hb
  · rename_i h; rw [h] at hb; rw [tryDest_bus]; exact hb

@[simp] theorem startTask_bus (t : Task) : (s.startTask t).bus = s.bus := by
  unfold Station.startTask
  dsimp only
  split
  · unfold Station.atTarget
    split <;> rfl
  · split <;> split <;> rfl

@[simp] theorem stow_bus : s.stow.bus = s.bus := by
  unfold Station.stow
  split <;> rfl

@[simp] theorem faceCheck_bus (t : Task) : (s.faceCheck t).bus = s.bus := by
  unfold Station.faceCheck
  split
  · unfold Station.pickStep
    split_ifs
    on_goal 5 => exact stow_bus s
    all_goals rfl
  · unfold Station.loadStep
    split_ifs <;> rfl
  · unfold Station.putbackStep
    split <;> split_ifs <;> rfl
  · unfold Station.scanStep
    split <;> rfl

@[simp] theorem faceAdvance_bus : s.faceAdvance.bus = s.bus := by
  unfold Station.faceAdvance
  split
  · rfl
  · split
    · simp
    · rfl
    · split <;> simp
    · split <;> simp
    · split <;> simp
    · split <;> rfl

@[simp] theorem resumeMove_bus : s.resumeMove.bus = s.bus := by
  unfold Station.resumeMove
  split <;> rfl

@[simp] theorem acknowledge_bus : s.acknowledge.bus = s.bus := by
  unfold Station.acknowledge
  split
  · dsimp only
    split <;> simp
  · rfl

@[simp] theorem serveDrive_bus (old : Station) : (s.serveDrive old).bus = s.bus := by
  have hrelease : s.beginRelease.bus = s.bus := by
    unfold Station.beginRelease
    split_ifs <;> rfl
  unfold Station.serveDrive Station.beginSweep
  dsimp only
  split_ifs <;> exact hrelease

/-! #### What posts -/

/-- A post of one of the two kinds leaves the other posts. -/
theorem post_otherPosts {k : Kind} (hk : k = .rdy ∨ k = .sts) (p : List Byte) :
    (s.post k p).2.bus.otherPosts = s.bus.otherPosts := by
  unfold Station.post
  split
  · rcases hk with rfl | rfl <;> simp [Bus.otherPosts, Station.addPost]
  · unfold Station.oweKind
    split <;> rfl

theorem post_otherPosts_of_eq {s t : Station} {k : Kind} {p : List Byte} {h : Option Nat} (hk : k = .rdy ∨ k = .sts)
    (e : s.post k p = (h, t)) : t.bus.otherPosts = s.bus.otherPosts := by
  have := post_otherPosts s hk p
  rwa [e] at this

@[simp] theorem statusTrigger_otherPosts : s.statusTrigger.bus.otherPosts = s.bus.otherPosts := by
  unfold Station.statusTrigger
  split
  · rfl
  · split
    · rename_i h; exact post_otherPosts_of_eq (.inr rfl) h
    · rename_i u h
      have hu : u.bus.otherPosts = s.bus.otherPosts := post_otherPosts_of_eq (.inr rfl) h
      exact hu

@[simp] theorem nonHaltingFault_otherPosts (f : StationFault) :
    (s.nonHaltingFault f).bus.otherPosts = s.bus.otherPosts :=
  statusTrigger_otherPosts _

@[simp] theorem postReady_otherPosts (n : Nat) : (s.postReady n).bus.otherPosts = s.bus.otherPosts := by
  unfold Station.postReady
  split
  · rfl
  · split
    · split
      · rename_i u h
        have hu : u.bus.otherPosts = s.bus.otherPosts := post_otherPosts_of_eq (.inl rfl) h
        exact hu
      · rename_i u h
        have hu : u.bus.otherPosts = s.bus.otherPosts := post_otherPosts_of_eq (.inl rfl) h
        exact hu
    · rfl

@[simp] theorem postReadies_otherPosts : s.postReadies.bus.otherPosts = s.bus.otherPosts :=
  foldl_otherPosts _ (fun t n => postReady_otherPosts t n) _ _

@[simp] theorem markStuck_otherPosts (o : Nat) (d : Option BayAddr) :
    (s.markStuck o d).bus.otherPosts = s.bus.otherPosts := by
  unfold Station.markStuck
  split
  · rfl
  · split <;> simp

@[simp] theorem askPutback_otherPosts (o : Nat) (d : Option BayAddr) :
    (s.askPutback o d).bus.otherPosts = s.bus.otherPosts := by
  unfold Station.askPutback
  dsimp only
  split <;> simp

@[simp] theorem startPutback_otherPosts : s.startPutback.bus.otherPosts = s.bus.otherPosts := by
  unfold Station.startPutback
  split
  · rfl
  · split
    · rfl
    · split <;> simp

@[simp] theorem servePutback_otherPosts : s.servePutback.bus.otherPosts = s.bus.otherPosts := by
  unfold Station.servePutback
  split
  · rfl
  · split
    · rfl
    · split
      · dsimp only
        rw [askPutback_otherPosts, expectDest_bus]
        split <;> simp
      · rfl

@[simp] theorem rechooseStuck_otherPosts : s.rechooseStuck.bus.otherPosts = s.bus.otherPosts := by
  unfold Station.rechooseStuck
  split
  · rfl
  · split
    · rfl
    · rename_i t _ _
      have hb := expectDest_bus s t
      split
      · rfl
      · rename_i h
        rw [h] at hb
        dsimp only at hb ⊢
        split <;> simp [hb]

@[simp] theorem blockedPutback_otherPosts (o : Nat) (d : BayAddr) :
    (s.blockedPutback o d).bus.otherPosts = s.bus.otherPosts := by
  unfold Station.blockedPutback
  split <;> simp

@[simp] theorem decision_otherPosts : s.decision.bus.otherPosts = s.bus.otherPosts := by
  unfold Station.decision
  split
  · dsimp only
    rw [foldl_otherPosts Station.reportBlocked (fun t x => blockedPutback_otherPosts t x.1 x.2)]
    split
    · rfl
    · rw [startTask_bus]
      rfl
  · rfl

@[simp] theorem decideAfter_otherPosts (before : Station) :
    (s.decideAfter before).bus.otherPosts = s.bus.otherPosts := by
  unfold Station.decideAfter
  split <;> simp

@[simp] theorem serveClaims_otherPosts (fuel : Nat) : (s.serveClaims fuel).bus.otherPosts = s.bus.otherPosts := by
  induction fuel generalizing s with
  | zero => rfl
  | succ n ih =>
    unfold Station.serveClaims
    split
    · rfl
    · split
      · rw [ih, decision_otherPosts, markWant_bus, addTask_bus]
      · rfl

@[simp] theorem serveAudit_otherPosts (byCarrier : Bool) (fuel : Nat) :
    (s.serveAudit byCarrier fuel).bus.otherPosts = s.bus.otherPosts := by
  induction fuel generalizing s with
  | zero => rfl
  | succ n ih =>
    unfold Station.serveAudit
    split
    · split
      · rfl
      · rw [ih, decision_otherPosts, setRescan_bus, addTask_bus]
    · rfl

@[simp] theorem serveLane_otherPosts (old : Station) : (s.serveLane old).bus.otherPosts = s.bus.otherPosts := by
  unfold Station.serveLane
  dsimp only
  rw [decideAfter_otherPosts, servePutback_otherPosts]
  split <;> simp [Station.beginPutback]

@[simp] theorem settleRound_otherPosts (old : Station) : (s.settleRound old).bus.otherPosts = s.bus.otherPosts := by
  unfold Station.settleRound
  dsimp only
  split <;> simp [Station.serveTasks]

theorem settleRounds_otherPosts (fuel : Nat) (old : Station) :
    (settleRounds fuel old s).bus.otherPosts = s.bus.otherPosts := by
  induction fuel generalizing old s with
  | zero => rfl
  | succ n ih =>
    rw [settleRounds]
    split
    · rfl
    · rw [ih, settleRound_otherPosts]

/-- What follows within an event posts RDYs and STSs alone, and takes no post away. -/
@[simp] theorem settle_otherPosts (old : Station) : (s.settle old).bus.otherPosts = s.bus.otherPosts := by
  unfold Station.settle
  split
  · exact settleRounds_otherPosts s 16 old
  · rfl

end
end Sys2Proof.Machine
end

section
/-! ### The line offer: its tests, a bid made, a bid refused (R98, R100, R101) -/

namespace Sys2Proof.Machine

/-! #### The frame at the head -/

/-- A notice of its kind at the head of the queue is removed and taken (R73, R82). -/
theorem takeNotice_of_accepted {s : Station} {k : Kind} {f : Frame} {rest : List Frame} (test : List Byte → Bool)
    (g : Frame → Station → Station) (hq : s.bus.rxq = f :: rest) (hf : f.accepted = some k) (ht : test f.payload = true) :
    s.takeNotice k test g = g f { s with bus := { s.bus with rxq := rest } } := by
  have hhead : s.headNotice k = some f := by simp [Station.headNotice, hq, hf, Option.filter]
  simp [Station.takeNotice, hhead, Station.dropHead, hq, ht]

/-- A station on the bus acts. -/
theorem whenJoined_of_live {s : Station} (hs : s.live) (f : Station → Station) : s.whenJoined f = f s := if_pos hs

theorem exec_lofTaken {x : Station} (q : List Instr) {f : Frame} {rest : List Frame} (hx : x.live)
    (hq : x.bus.rxq = f :: rest) (hf : f.accepted = some .lof) :
    exec .lofTaken ⟨x, q⟩ =
      .next ⟨(({ x with bus := { x.bus with rxq := rest } } : Station).hearLineOffer f.payload).settle x, q⟩ := by
  unfold exec execLofTaken State.answer
  dsimp only
  rw [whenJoined_of_live hx, takeNotice_of_accepted _ _ hq hf rfl]

/-! #### The tests -/

theorem tailOrNone_iff (s : Station) (order : Nat) :
    s.tailOrNone order = true ↔
      ∀ g, s.group? order = some g → ∃ l, s.cnu.groups.getLast? = some l ∧ l.order = order := by
  unfold Station.tailOrNone
  cases s.group? order with
  | none => simp
  | some g => cases s.cnu.groups.getLast? <;> simp

theorem standing_bids_iff (st : Standing) : st.bids = true ↔ st = .active ∨ st = .caution := by
  cases st <;> simp [Standing.bids]

theorem mayBid_iff (s : Station) :
    s.mayBid = true ↔ s.stc.mode = .running ∧ (s.bus.standing = .active ∨ s.bus.standing = .caution)
      ∧ s.clu.records.length < 24 ∧ (s.bus.posts.filter (fun p => p.kind.claimClass)).length < 8 := by
  rw [Station.mayBid, Bool.and_eq_true, Bool.and_eq_true, Bool.and_eq_true, standing_bids_iff, decide_eq_true_iff,
    decide_eq_true_iff, decide_eq_true_iff, and_assoc, and_assoc]
  rfl

/-- The order's entry is OPEN and the line is one of its lines, neither ready nor own (R98). -/
theorem order_any_iff (s : Station) (order line : Nat) :
    (s.order? order).any (fun e =>
        decide (line ≤ e.lineCount) && e.state = .opened && !e.ready.contains line && !e.own.contains line) = true ↔
      ∃ e, s.order? order = some e ∧ line ≤ e.lineCount ∧ e.state = .opened ∧ line ∉ e.ready ∧ line ∉ e.own := by
  cases s.order? order <;> simp [and_assoc]

theorem lofTests_iff (s : Station) (order line article qty : Nat) :
    s.lofTests order line article qty = true ↔
      (1 ≤ qty ∧ qty ≤ 8) ∧ article ≠ 0 ∧ (1 ≤ line ∧ line ≤ 16)
        ∧ (∃ e, s.order? order = some e ∧ line ≤ e.lineCount ∧ e.state = .opened ∧ line ∉ e.ready ∧ line ∉ e.own)
        ∧ (∀ r ∈ s.clu.records, r.round ≠ .pick order line)
        ∧ s.stc.mode = .running ∧ (s.bus.standing = .active ∨ s.bus.standing = .caution)
        ∧ s.clu.records.length < 24 ∧ (s.bus.posts.filter (fun p => p.kind.claimClass)).length < 8
        ∧ (∀ g, s.group? order = some g → ∃ l, s.cnu.groups.getLast? = some l ∧ l.order = order)
        ∧ ∀ g ∈ s.cnu.groups, g.stuck = false := by
  have hround : s.holdsRound (.pick order line) = false ↔ ∀ r ∈ s.clu.records, r.round ≠ .pick order line := by
    simp [Station.holdsRound]
  have hstuck : s.cnu.groups.any (fun g => g.stuck) = false ↔ ∀ g ∈ s.cnu.groups, g.stuck = false := by
    simp
  rw [Station.lofTests, Bool.and_eq_true, Bool.and_eq_true, Bool.and_eq_true, Bool.and_eq_true, Bool.and_eq_true,
    order_any_iff, tailOrNone_iff, mayBid_iff, Bool.not_eq_true', hround, Bool.not_eq_true', hstuck, decide_eq_true_iff]
  tauto

/-! #### A bid made -/

/-- The record is made and its CLM posted (R101 steps 3 and 4). -/
theorem openRecord_of_accepted {s : Station} (article qty key : Nat) (body : RecBody)
    (hfresh : ∀ r ∈ s.clu.records, r.serial < s.clu.nextSerial) (hclm : s.bus.accepts .clm = true) :
    let r : LineRec := {
      serial := s.clu.nextSerial, article := article, qty := qty
      bid := { s.newBid key with claim := some s.bus.nextHandle }, body := body }
    s.openRecord article qty key body = { s with
      bus := { s.bus with
        posts := s.bus.posts ++ [{
          handle := s.bus.nextHandle, kind := .clm, key := BitVec.ofNat 20 key, payload := r.round.bytes, onBus := false }]
        nextHandle := s.bus.nextHandle + 1 }
      clu := { s.clu with records := s.clu.records ++ [r], nextSerial := s.clu.nextSerial + 1 } } := by
  have hold : ∀ f : LineRec → LineRec,
      s.clu.records.map (fun r => if r.serial = s.clu.nextSerial then f r else r) = s.clu.records := by
    intro f
    exact (List.map_congr_left fun r hr => if_neg (Nat.ne_of_lt (hfresh r hr))).trans (List.map_id' _)
  dsimp only
  unfold Station.openRecord
  dsimp only
  rw [if_pos hclm]
  simp only [Station.addPost, Station.updBid, Station.updRecord, List.map_append, hold]
  simp [LineRec.round]

end Sys2Proof.Machine
end

section
/-! ### A bid whose CLM is refused leaves nothing (R101 step 4) -/

namespace Sys2Proof.Machine

/-! #### What RESERVE and UNRESERVE do to the stock of the view -/

theorem map_modify_comm {α β : Type} (f : α → β) {g : α → α} {h : β → β} (hc : ∀ x, f (g x) = h (f x)) (l : List α)
    (i : Nat) : (l.modify i g).map f = (l.map f).modify i h := by
  induction l generalizing i with
  | nil => simp
  | cons x xs ih => cases i <;> simp [hc, ih]

theorem modify_comm {α : Type} {f g : α → α} (hc : ∀ x, f (g x) = g (f x)) (l : List α) (i j : Nat) :
    (l.modify i f).modify j g = (l.modify j g).modify i f := by
  by_cases h : i = j
  · subst h
    rw [List.modify_modify_eq, List.modify_modify_eq]
    exact congrArg (l.modify i) (funext fun x => (hc x).symm)
  · exact List.modify_modify_ne f g l h

theorem modify_undo {α : Type} {f g : α → α} (hu : ∀ x, g (f x) = x) (l : List α) (i : Nat) :
    (l.modify i f).modify i g = l := by
  rw [List.modify_modify_eq, show g ∘ f = id from funext hu, List.modify_id]

/-- The carriers of the view, as a change of one bay leaves them: its count and reserved alone (R6 changes bindings). -/
theorem changeBay_stock (s : Station) (a : BayAddr) {f : Bay → Bay} {g : Nat × Nat → Nat × Nat}
    (hg : ∀ b, ((f b).count, (f b).reserved) = g (b.count, b.reserved)) :
    (s.changeBay a f).smap.carriers.map Carrier.stock =
      (s.smap.carriers.map Carrier.stock).modify a.carrier (fun k => { k with bays := k.bays.modify a.bay g }) := by
  have hmass : ∀ t : Station, (t.recompute a.carrier).smap.carriers.map Carrier.stock = t.smap.carriers.map Carrier.stock :=
    fun t => map_modify_of_eq Carrier.stock (fun k => { k with mass := t.smap.carrierMass k }) (fun _ => rfl) _ _
  rw [changeBay_carriers, hmass]
  refine map_modify_comm Carrier.stock (fun k => ?_) _ _
  have hstock : Carrier.stock { k with bays := dropIdle (k.bays.modify a.bay f) } =
      { k.stock with bays := k.stock.bays.modify a.bay g } := by
    simp only [Carrier.stock, dropIdle_stock]
    rw [map_modify_comm _ hg]
  dsimp only
  split
  · exact hstock
  · exact hstock

/-- An entry's quantity reserved, in the stock of the view. -/
def addReserved (l : List Stock) (e : SelEntry) : List Stock :=
  l.modify e.carrier (fun k => { k with bays := k.bays.modify e.bay (fun x => (x.1, x.2 + e.qty)) })

/-- A quantity given back, in the stock of the view. -/
def subReserved (l : List Stock) (e : BayAddr × Nat) : List Stock :=
  l.modify e.1.carrier (fun k => { k with bays := k.bays.modify e.1.bay (fun x => (x.1, x.2 - e.2)) })

theorem foldl_reserveOne_stock (entries : List SelEntry) (s : Station) :
    (entries.foldl Station.reserveOne s).smap.carriers.map Carrier.stock =
      entries.foldl addReserved (s.smap.carriers.map Carrier.stock) :=
  (List.foldl_hom (fun s : Station => s.smap.carriers.map Carrier.stock) (g₁ := Station.reserveOne)
    (fun s e => (changeBay_stock s e.addr (fun _ => rfl)).symm)).symm

theorem foldl_unreserveOne_stock (entries : List (BayAddr × Nat)) (s : Station) :
    (entries.foldl Station.unreserveOne s).smap.carriers.map Carrier.stock =
      entries.foldl subReserved (s.smap.carriers.map Carrier.stock) :=
  (List.foldl_hom (fun s : Station => s.smap.carriers.map Carrier.stock) (g₁ := Station.unreserveOne)
    (fun s e => (changeBay_stock s e.1 (fun _ => rfl)).symm)).symm

theorem subReserved_zero (l : List Stock) (a : BayAddr) : subReserved l (a, 0) = l := by
  have hbays : ∀ k : Stock, { k with bays := k.bays.modify a.bay (fun x => (x.1, x.2 - 0)) } = k := by
    intro k
    rw [show (fun x : Nat × Nat => (x.1, x.2 - 0)) = id from rfl, List.modify_id]
  unfold subReserved
  rw [show (fun k : Stock => { k with bays := k.bays.modify a.bay (fun x => (x.1, x.2 - 0)) }) = id from funext hbays,
    List.modify_id]

theorem foldl_subReserved_filter (entries : List (BayAddr × Nat)) (l : List Stock) :
    (entries.filter (fun e => e.2 ≠ 0)).foldl subReserved l = entries.foldl subReserved l := by
  induction entries generalizing l with
  | nil => rfl
  | cons e entries ih =>
    by_cases h : e.2 = 0
    · rw [List.filter_cons_of_neg (by simp [h]), ih, List.foldl_cons, show e = (e.1, 0) from Prod.ext rfl h,
        subReserved_zero]
    · rw [List.filter_cons_of_pos (by simp [h]), List.foldl_cons, List.foldl_cons, ih]

theorem addReserved_comm (l : List Stock) (d e : SelEntry) :
    addReserved (addReserved l d) e = addReserved (addReserved l e) d := by
  refine modify_comm (fun k => ?_) l d.carrier e.carrier
  have hbays := modify_comm (f := fun x : Nat × Nat => (x.1, x.2 + d.qty)) (g := fun x => (x.1, x.2 + e.qty))
    (fun x => by simp only [Nat.add_right_comm]) k.bays d.bay e.bay
  simp only [hbays]

theorem subReserved_addReserved (l : List Stock) (e : SelEntry) : subReserved (addReserved l e) (e.addr, e.qty) = l := by
  refine modify_undo (fun k => ?_) l e.carrier
  have hbays := modify_undo (f := fun x : Nat × Nat => (x.1, x.2 + e.qty)) (g := fun x => (x.1, x.2 - e.qty))
    (fun x => by simp) k.bays e.bay
  simp only [SelEntry.addr, hbays]

/-- What a list reserves and gives back again is as it was. -/
theorem foldl_subReserved_addReserved (entries : List SelEntry) (l : List Stock) :
    (entries.map (fun e => (e.addr, e.qty))).foldl subReserved (entries.foldl addReserved l) = l := by
  have hlast : ∀ (e : SelEntry) (entries : List SelEntry) (l : List Stock),
      entries.foldl addReserved (addReserved l e) = addReserved (entries.foldl addReserved l) e := by
    intro e entries
    induction entries with
    | nil => exact fun _ => rfl
    | cons d entries ih => exact fun l => by rw [List.foldl_cons, List.foldl_cons, addReserved_comm, ih]
  induction entries generalizing l with
  | nil => rfl
  | cons e entries ih =>
    rw [List.map_cons, List.foldl_cons, List.foldl_cons, hlast, subReserved_addReserved, ih]

/-! #### The record that goes again -/

theorem OnlySmap.view {s t : Station} (h : OnlySmap s t) :
    t.view = { s.view with stock := t.smap.carriers.map Carrier.stock } := by
  unfold OnlySmap at h
  rw [h]
  rfl

theorem foldl_reserveOne_exists {entries : List SelEntry} {s : Station} {a : BayAddr} (h : s.bay? a ≠ none) :
    (entries.foldl Station.reserveOne s).bay? a ≠ none := by
  induction entries generalizing s with
  | nil => exact h
  | cons e entries ih =>
    refine ih ?_
    obtain ⟨drop, hbay, -⟩ := bay?_changeBay s e.addr a (fun b => { b with reserved := b.reserved + e.qty })
    rw [Station.reserveOne, hbay]
    simpa using h

/-- An UNRESERVE of what the entries have reserved leaves the stock of the view as it was before. -/
theorem unreserve_foldl_reserveOne_stock {s w : Station} {entries : List SelEntry}
    (hexist : ∀ e ∈ entries, s.bay? e.addr ≠ none) (hw : w.smap = (entries.foldl Station.reserveOne s).smap) :
    (w.unreserve (entries.map (fun e => (e.addr, e.qty)))).smap.carriers.map Carrier.stock =
      s.smap.carriers.map Carrier.stock := by
  have hbay : ∀ a, w.bay? a = (entries.foldl Station.reserveOne s).bay? a := fun a => by
    simp only [Station.bay?, Station.carrier?, hw]
  rw [unreserve_of_exist, foldl_unreserveOne_stock, hw, foldl_reserveOne_stock, foldl_subReserved_filter,
    foldl_subReserved_addReserved]
  intro e he
  obtain ⟨d, hd, rfl⟩ := List.mem_map.mp he
  rw [hbay]
  exact foldl_reserveOne_exists (hexist d hd)

/-- With no cycle in flight nothing is held back (R111). -/
theorem releaseList_of_no_cycle {s : Station} (h : s.fct.cycle = none) (serial : Nat) (b : PickBody) :
    s.releaseList serial b = b.sel.map (fun e => (e.addr, e.qty)) := by
  simp [Station.releaseList, Station.heldBack, Station.takeInFlight, h]

/-- A TENTATIVE pick record with nothing posted is removed with its reservations, and nothing else of the view goes. -/
theorem dropRecord_of_unposted {s : Station} {serial : Nat} {r : LineRec} {b : PickBody} (hr : s.record? serial = some r)
    (hbody : r.body = .pick b) (htentative : b.state = .tentative) (hclaim : r.bid.claim = none) (hclose : r.bid.close = none) :
    let w : Station := { s with clu := { s.clu with records := s.clu.records.filter (fun x => x.serial != serial) } }
    (s.dropRecord serial).view = (w.unreserve (w.releaseList serial b)).view ∧ (s.dropRecord serial).bus = s.bus := by
  have hbid : ∀ w : Station, (w.withdrawBid r).keepNote r = w := by
    intro w
    simp [Station.withdrawBid, Station.keepNote, Station.withdraw, hclaim, hclose]
  have hwon : ¬ b.state = .won := by rw [htentative]; nofun
  dsimp only
  unfold Station.dropRecord
  simp only [hr, hbid, hbody, hwon, if_false, testArticle_view, setOwedReadies_view]
  refine ⟨rfl, (testArticle_onlySmap _ _).bus.trans ?_⟩
  exact (unreserve_onlySmap _ _).bus

/-- The record that a bid makes (R95, R101 step 3). -/
def Station.newRecord (s : Station) (article qty key : Nat) (body : RecBody) : LineRec where
  serial := s.clu.nextSerial
  article := article
  qty := qty
  bid := s.newBid key
  body := body

/-- The station with that record in its line table. -/
def Station.withNewRecord (s : Station) (article qty key : Nat) (body : RecBody) : Station :=
  { s with clu := { s.clu with
      records := s.clu.records ++ [s.newRecord article qty key body], nextSerial := s.clu.nextSerial + 1 } }

section
variable {s : Station} (article qty key : Nat) (body : RecBody)

theorem openRecord_of_refused (hclm : s.bus.accepts .clm = false) :
    s.openRecord article qty key body = (s.withNewRecord article qty key body).dropRecord s.clu.nextSerial := by
  unfold Station.openRecord
  dsimp only
  rw [if_neg (by simp [hclm])]
  rfl

theorem withNewRecord_record? (hfresh : ∀ r ∈ s.clu.records, r.serial < s.clu.nextSerial) :
    (s.withNewRecord article qty key body).record? s.clu.nextSerial = some (s.newRecord article qty key body) := by
  have hnone : s.clu.records.find? (fun r => r.serial == s.clu.nextSerial) = none :=
    List.find?_eq_none.mpr fun r hr => by simpa using Nat.ne_of_lt (hfresh r hr)
  simp [Station.record?, Station.withNewRecord, List.find?_append, hnone, Station.newRecord]

theorem withNewRecord_filter (hfresh : ∀ r ∈ s.clu.records, r.serial < s.clu.nextSerial) :
    (s.withNewRecord article qty key body).clu.records.filter (fun x => x.serial != s.clu.nextSerial) =
      s.clu.records := by
  have hkeep : s.clu.records.filter (fun x => x.serial != s.clu.nextSerial) = s.clu.records :=
    List.filter_eq_self.mpr fun r hr => by simpa using Nat.ne_of_lt (hfresh r hr)
  simp [Station.withNewRecord, hkeep, Station.newRecord]

end

/-- A bid whose CLM is refused, after a RESERVE of its selection: the record and its reservations are gone again, and no
post is made (R101 step 4). -/
theorem openRecord_undone {s : Station} {b : PickBody} (article qty key : Nat) (htentative : b.state = .tentative)
    (hexist : ∀ e ∈ b.sel, s.bay? e.addr ≠ none) (hfresh : ∀ r ∈ s.clu.records, r.serial < s.clu.nextSerial)
    (hcycle : s.fct.cycle = none) (hclm : s.bus.accepts .clm = false) :
    let z := (b.sel.foldl Station.reserveOne s).openRecord article qty key (.pick b)
    z.view = s.view ∧ z.bus = s.bus := by
  have honly : b.sel.foldl Station.reserveOne s = { s with smap := (b.sel.foldl Station.reserveOne s).smap } :=
    foldl_reserveOne_onlySmap _ _
  have hundo := fun (w : Station) => unreserve_foldl_reserveOne_stock (w := w) hexist
  generalize (b.sel.foldl Station.reserveOne s).smap = m at honly hundo
  dsimp only
  rw [honly, openRecord_of_refused article qty key _ (by exact hclm)]
  obtain ⟨hview, hbus⟩ := dropRecord_of_unposted
    (withNewRecord_record? (s := { s with smap := m }) article qty key (.pick b) hfresh) rfl htentative rfl rfl
  refine ⟨hview.trans ?_, hbus⟩
  rw [withNewRecord_filter (s := { s with smap := m }) article qty key (.pick b) hfresh,
    releaseList_of_no_cycle (by exact hcycle), (unreserve_onlySmap _ _).view, hundo _ rfl]
  rfl

/-! #### The line offer -/

theorem hearLineOffer_of_failed {s : Station} {p : List Byte}
    (h : s.lofTests (payloadField p 0 2) (payloadField p 2 1) (payloadField p 3 3) (payloadField p 6 1) = false
      ∨ s.pickSelection (payloadField p 3 3) (payloadField p 6 1) = none) : s.hearLineOffer p = s := by
  unfold Station.hearLineOffer
  dsimp only
  rcases h with h | h
  · rw [if_neg (by simp [h])]
  · simp [Station.bidPick, h]

section
variable {s t : Station} {p : List Byte} {sel : List SelEntry}

/-- The pick record's own fields at a bid on the offer (R95). -/
def offeredPick (p : List Byte) (sel : List SelEntry) : PickBody where
  order := payloadField p 0 2
  line := payloadField p 2 1
  state := .tentative
  sel := sel
  staged := 0
  readyOwed := false
  readySent := false

theorem hearLineOffer_of_reserved
    (htests : s.lofTests (payloadField p 0 2) (payloadField p 2 1) (payloadField p 3 3) (payloadField p 6 1) = true)
    (hsel : s.pickSelection (payloadField p 3 3) (payloadField p 6 1) = some sel)
    (hreserve : s.reserve (payloadField p 3 3) sel = (.accepted, t)) :
    s.hearLineOffer p =
      t.openRecord (payloadField p 3 3) (payloadField p 6 1) (s.pickKey sel) (.pick (offeredPick p sel)) := by
  simp only [Station.hearLineOffer, htests, if_true, Station.bidPick, hsel, hreserve, offeredPick]

/-- A bid whose CLM is refused leaves the view and the Bus Interface as they were. -/
theorem hearLineOffer_of_refused
    (htests : s.lofTests (payloadField p 0 2) (payloadField p 2 1) (payloadField p 3 3) (payloadField p 6 1) = true)
    (hsel : s.pickSelection (payloadField p 3 3) (payloadField p 6 1) = some sel)
    (hreserve : s.reserve (payloadField p 3 3) sel = (.accepted, t))
    (hfresh : ∀ r ∈ s.clu.records, r.serial < s.clu.nextSerial) (hcycle : s.fct.cycle = none)
    (hclm : s.bus.accepts .clm = false) : (s.hearLineOffer p).view = s.view ∧ (s.hearLineOffer p).bus = s.bus := by
  obtain ⟨hfits, rfl⟩ := fits_of_reserve_accepted hreserve
  rw [hearLineOffer_of_reserved htests hsel hreserve]
  refine openRecord_undone (b := offeredPick p sel) _ _ _ rfl (fun e he => ?_) hfresh hcycle hclm
  obtain ⟨b, w, hb, -⟩ := hfits e he
  rw [hb]
  nofun

end

/-- Whatever is posted as an event settles is an RDY or an STS (R93, R156). -/
theorem mem_posts_of_settle {u old : Station} {p : Post} (hp : p ∈ (u.settle old).bus.posts)
    (hk : p.kind ≠ .rdy ∧ p.kind ≠ .sts) : p ∈ u.bus.posts := by
  have hother : p ∈ (u.settle old).bus.otherPosts := List.mem_filter.mpr ⟨hp, decide_eq_true hk⟩
  rw [settle_otherPosts] at hother
  exact (List.mem_filter.mp hother).1

/-! #### RESERVE, answer by answer -/

theorem reserve_answers (s : Station) (article : Nat) {entries before after : List SelEntry} {e : SelEntry}
    (hentries : entries = before ++ e :: after) (hbefore : ∀ d ∈ before, s.fits article entries d) :
    (s.bay? e.addr = none → s.reserve article entries = (.noSuchBay, s))
      ∧ ∀ b, s.bay? e.addr = some b →
        ((∀ w, b.binding ≠ some { article := article, week := w }) → s.reserve article entries = (.wrongBinding, s))
          ∧ ((∃ w, b.binding = some { article := article, week := w }) → b.count - b.reserved < askedOf entries e.addr →
            s.reserve article entries = (.short, s)) := by
  have hfirst : ∀ a, s.reserveCheck article entries e = a → a ≠ .accepted → s.reserve article entries = (a, s) := by
    rintro a rfl ha
    exact reserve_of_first_failing hentries hbefore ha
  refine ⟨fun hnone => ?_, fun b hb => ⟨fun hbinding => ?_, fun hbinding hshort => ?_⟩⟩
  · exact hfirst _ (reserveCheck_of_noSuchBay hnone) nofun
  · exact hfirst _ (reserveCheck_of_wrongBinding hb hbinding) nofun
  · exact hfirst _ (reserveCheck_of_short hb hbinding hshort) nofun

theorem reserve_accepted (s : Station) (article : Nat) {entries : List SelEntry}
    (h : ∀ e ∈ entries, s.fits article entries e ∧ 1 ≤ e.qty) :
    (s.reserve article entries).1 = .accepted ∧ OnlySmap s (s.reserve article entries).2
      ∧ ∀ a, (s.reserve article entries).2.bay? a =
        (s.bay? a).map (fun b => { b with reserved := b.reserved + askedOf entries a }) := by
  rw [reserve_of_fits (fun e he => (h e he).1)]
  refine ⟨rfl, foldl_reserveOne_onlySmap _ _, foldl_reserveOne_bay? fun e he => ⟨?_, (h e he).2⟩⟩
  obtain ⟨⟨b, w, hb, -⟩, -⟩ := h e he
  rw [hb]
  nofun

/-- Settles O29: the offer bid, refused and failed; its tests; RESERVE; UNRESERVE. -/
theorem lineOfferBid : Obligations.LineOfferBid := by
  refine ⟨fun x q f rest hx hq hf => ⟨?_, ?_, ?_⟩, lofTests_iff, fun x article entries => ⟨?_, ?_⟩,
    fun x entries => ⟨?_, ?_⟩⟩
  · intro sel t htests hsel hreserve hclm hfresh
    refine ⟨?_, settle_view _ _⟩
    have honly := foldl_reserveOne_onlySmap sel { x with bus := { x.bus with rxq := rest } }
    rw [← (fits_of_reserve_accepted hreserve).2] at honly
    unfold OnlySmap at honly
    rw [exec_lofTaken q hx hq hf, hearLineOffer_of_reserved htests hsel hreserve, honly,
      openRecord_of_accepted _ _ _ _ (by exact hfresh) (by exact hclm)]
    rfl
  · intro sel t htests hsel hreserve hclm hnames hcycle _
    obtain ⟨-, hfresh, -⟩ := hnames
    obtain ⟨hview, hbus⟩ := hearLineOffer_of_refused htests hsel hreserve hfresh hcycle hclm
    refine ⟨_, exec_lofTaken q hx hq hf, (settle_view _ _).trans hview, fun p hp hkind => ?_⟩
    have hposts := mem_posts_of_settle hp (by simp [hkind])
    rwa [hbus] at hposts
  · intro h
    rw [exec_lofTaken q hx hq hf, hearLineOffer_of_failed h]
    exact ⟨rfl, settle_view _ _⟩
  · exact fun before e after hentries hbefore => reserve_answers x article hentries hbefore
  · exact fun h => reserve_accepted x article h
  · exact fun e he hnone => unreserve_of_missing he hnone
  · exact fun h => ⟨unreserve_onlySmap _ _, fun a b hb => unreserve_bay? h hb⟩

end Sys2Proof.Machine
end

section
/-! ### The stock rules (R32, R5, R4) under one change of a carrier, of a bay, of the article table -/

namespace Sys2Proof.Machine

/-- All that the rule of the fault counts and the rule of the bays look at. -/
def Station.stores (s : Station) : Config × Smap × Retained := (s.cfg, s.smap, s.retained)

-- `(rfl)` makes the equation a rewriting step with a proof, not a definitional one: `simp` needs it so where it discharges
-- a `StockKept` hypothesis. The equations below that leave the stores alone are proved so as well.
@[simp] theorem stores_mk (power : Power) (tick : Tick) (cfg : Config) (stc : Stc) (bus : Bus) (smap : Smap)
    (retained : Retained) (clu : Clu) (mpl : Mpl) (fct : Fct) (cnu : Cnu) (adu : Adu) (pins : Pins) :
    (Station.mk power tick cfg stc bus smap retained clu mpl fct cnu adu pins).stores = (cfg, smap, retained) := (rfl)

@[simp] theorem stores_eta (s : Station) : (s.cfg, s.smap, s.retained) = s.stores := (rfl)

theorem stores_congr {s t : Station} (h : t.stores = s.stores) :
    t.cfg = s.cfg ∧ t.smap = s.smap ∧ t.retained = s.retained := by
  simpa only [Station.stores, Prod.mk.injEq] using h

/-- A station with these stores meets the rule of the fault counts and the rule of the bays where `s` does. -/
def StockKept (s : Station) (x : Config × Smap × Retained) : Prop :=
  ∀ t : Station, t.stores = x → (s.FaultCounts → t.FaultCounts) ∧ (s.BayRule → t.BayRule)

/-! #### A bay within its bounds -/

theorem bayBounds_of_unbound {s : Station} {b : Bay} (hb : b.binding = none) : s.bayBounds b = b.idle := by
  simp [Station.bayBounds, hb]

theorem bayBounds_iff_of_bound {s : Station} {b : Bay} {x : Binding} (hb : b.binding = some x) :
    s.bayBounds b = true ↔ b.reserved ≤ b.count
      ∧ ∃ a, s.smap.article? x.article = some a ∧ b.count + b.incoming ≤ capB s.cfg.h a.pitch := by
  cases ha : s.smap.article? x.article <;> simp [Station.bayBounds, hb, ha]

theorem idle_iff (b : Bay) : b.idle = true ↔ b.count = 0 ∧ b.reserved = 0 ∧ b.incoming = 0 := by
  simp [Bay.idle, and_assoc]

/-- Within its bounds, whether bound or not, a bay has no more reserved than it counts (R5). -/
theorem reserved_le_of_bayBounds {s : Station} {b : Bay} (h : s.bayBounds b = true) : b.reserved ≤ b.count := by
  cases hb : b.binding with
  | none =>
    rw [bayBounds_of_unbound hb, idle_iff] at h
    omega
  | some x => exact ((bayBounds_iff_of_bound hb).mp h).1

/-- A change of the figures alone, with reserved at most count and no more counted and incoming than before. -/
theorem bayBounds_of_figures {s : Station} {b b' : Bay} (h : s.bayBounds b = true) (hbind : b'.binding = b.binding)
    (hres : b'.reserved ≤ b'.count) (hsum : b'.count + b'.incoming ≤ b.count + b.incoming) :
    s.bayBounds b' = true := by
  cases hb : b.binding with
  | none =>
    rw [bayBounds_of_unbound hb, idle_iff] at h
    rw [bayBounds_of_unbound (hbind.trans hb), idle_iff]
    omega
  | some x =>
    obtain ⟨-, a, ha, hcap⟩ := (bayBounds_iff_of_bound hb).mp h
    exact (bayBounds_iff_of_bound (hbind.trans hb)).mpr ⟨hres, a, ha, hsum.trans hcap⟩

/-- The capacity that the bounds of a bound bay give (R3, R5). -/
theorem bayCap_of_bayBounds {s : Station} {b : Bay} {cap : Nat} (h : s.bayBounds b = true)
    (hcap : s.bayCap b = some cap) :
    b.reserved ≤ b.count ∧ b.count + b.incoming ≤ cap := by
  cases hb : b.binding with
  | none => simp [Station.bayCap, hb] at hcap
  | some x =>
    obtain ⟨hres, a, ha, hsum⟩ := (bayBounds_iff_of_bound hb).mp h
    simp only [Station.bayCap, hb, Option.map_some, ha, Option.getD_some, Option.some.injEq] at hcap
    exact ⟨hres, hcap ▸ hsum⟩

/-- A bound bay under its capacity is within its bounds where its article has an entry. -/
theorem bayBounds_of_bayCap {s : Station} {b b' : Bay} {cap : Nat} (h : s.bayBounds b = true)
    (hcap : s.bayCap b = some cap) (hbind : b'.binding = b.binding) (hres : b'.reserved ≤ b'.count)
    (hsum : b'.count + b'.incoming ≤ cap) : s.bayBounds b' = true := by
  cases hb : b.binding with
  | none => simp [Station.bayCap, hb] at hcap
  | some x =>
    obtain ⟨-, a, ha, -⟩ := (bayBounds_iff_of_bound hb).mp h
    simp only [Station.bayCap, hb, Option.map_some, ha, Option.getD_some, Option.some.injEq] at hcap
    exact (bayBounds_iff_of_bound (hbind.trans hb)).mpr ⟨hres, a, ha, hcap ▸ hsum⟩

theorem unbind_bayBounds {s : Station} {b : Bay} (h : b.idle = true) : s.bayBounds b.unbind = true :=
  (bayBounds_of_unbound rfl).trans h

/-- The drop of R6 leaves bays within their bounds. -/
theorem dropIdle_bayBounds {s : Station} {bays : List Bay} (h : ∀ b ∈ bays, s.bayBounds b = true) :
    ∀ b ∈ dropIdle bays, s.bayBounds b = true := by
  unfold dropIdle
  split
  · rename_i hall
    intro b hb
    obtain ⟨b', hb', rfl⟩ := List.mem_map.mp hb
    exact unbind_bayBounds (List.all_eq_true.mp hall b' hb')
  · exact h

/-- A bay stays within its bounds where the entry of its article stays. -/
theorem bayBounds_of_entry {s t : Station} {b : Bay} (hcfg : t.cfg = s.cfg)
    (hentry : ∀ x, b.binding = some x → t.smap.article? x.article = s.smap.article? x.article)
    (h : s.bayBounds b = true) : t.bayBounds b = true := by
  cases hb : b.binding with
  | none => rwa [bayBounds_of_unbound hb] at h ⊢
  | some x => rwa [bayBounds_iff_of_bound hb, hentry x hb, hcfg, ← bayBounds_iff_of_bound hb]

/-! #### The relation -/

section
variable {s t u : Station}

theorem stockKept_iff :
    StockKept s t.stores ↔ (s.FaultCounts → t.FaultCounts) ∧ (s.BayRule → t.BayRule) := by
  refine ⟨fun h => h t rfl, fun h u hu => ?_⟩
  obtain ⟨hcfg, hsmap, hretained⟩ := stores_congr hu
  refine ⟨fun hs => ?_, fun hs => ?_⟩
  · unfold Station.FaultCounts
    rw [hsmap, hretained]
    exact h.1 hs
  · unfold Station.BayRule Station.bayBounds
    rw [hsmap, hcfg]
    exact h.2 hs

@[simp] theorem StockKept.refl (s : Station) : StockKept s s.stores := stockKept_iff.mpr ⟨id, id⟩

theorem StockKept.trans {x : Config × Smap × Retained} (h₁ : StockKept s t.stores) (h₂ : StockKept t x) :
    StockKept s x := fun u hu =>
  ⟨(h₂ u hu).1 ∘ (stockKept_iff.mp h₁).1, (h₂ u hu).2 ∘ (stockKept_iff.mp h₁).2⟩

theorem StockKept.foldl {α : Type} {f : Station → α → Station} (h : StockKept s t.stores)
    (hf : ∀ t x, StockKept t (f t x).stores) (l : List α) : StockKept s (l.foldl f t).stores := by
  induction l generalizing t with
  | nil => exact h
  | cons x xs ih => exact ih (h.trans (hf t x))

/-! #### Carriers -/

theorem image_faultRule {k : Carrier} (h : k.FaultRule) : k.image.FaultRule := h.1

theorem trigger_faultRule {k : Carrier} (h : k.FaultRule) : (k.write.trigger k.image).FaultRule := by
  obtain ⟨hrule, hwrite⟩ := h
  cases hw : k.write with
  | idle => exact hrule
  | writing v => rwa [hw] at hwrite
  | writingNewerWaiting v => rwa [hw] at hwrite

/-- A change of one carrier that keeps its fault count in the rule of R32 and its bays within their bounds. -/
theorem StockKept.updCarrier (h : StockKept s t.stores) (c : Nat) {f : Carrier → Carrier}
    (hfault : ∀ k, k.FaultRule → (f k).FaultRule)
    (hbays : ∀ k, t.smap.carriers[c]? = some k → (∀ b ∈ k.bays, t.bayBounds b = true) →
      ∀ b ∈ (f k).bays, t.bayBounds b = true) : StockKept s (t.updCarrier c f).stores := by
  have hmem : ∀ k ∈ (t.updCarrier c f).smap.carriers, k ∈ t.smap.carriers
      ∨ ∃ j, t.smap.carriers[c]? = some j
        ∧ (k = f j ∨ k = { f j with write := (f j).write.trigger (f j).image }) := by
    intro k hk
    obtain ⟨i, hi⟩ := List.getElem?_of_mem hk
    simp only [Station.updCarrier, List.getElem?_modify] at hi
    obtain ⟨j, hj, rfl⟩ := Option.map_eq_some_iff.mp hi
    by_cases hci : c = i
    · subst hci
      refine .inr ⟨j, hj, ?_⟩
      by_cases himage : (f j).image = j.image <;> simp [himage]
    · exact .inl (by simpa [hci] using List.mem_of_getElem? hj)
  refine h.trans (stockKept_iff.mpr ⟨fun hs => ⟨fun k hk => ?_, hs.2⟩, fun hs k hk => ?_⟩)
  · rcases hmem k hk with hk | ⟨j, hj, rfl | rfl⟩
    · exact hs.1 k hk
    · exact hfault j (hs.1 j (List.mem_of_getElem? hj))
    · have hrule := hfault j (hs.1 j (List.mem_of_getElem? hj))
      exact ⟨hrule.1, trigger_faultRule hrule⟩
  · rcases hmem k hk with hk | ⟨j, hj, rfl | rfl⟩
    · exact hs k hk
    · exact hbays j hj (hs j (List.mem_of_getElem? hj))
    · exact hbays j hj (hs j (List.mem_of_getElem? hj))

/-- A change of one carrier that leaves its bays and its write state. -/
theorem StockKept.updLocks (h : StockKept s t.stores) (c : Nat) {f : Carrier → Carrier}
    (hfault : ∀ k, faultRule k.faults k.locks.retired → faultRule (f k).faults (f k).locks.retired)
    (hrest : ∀ k, (f k).write = k.write ∧ (f k).bays = k.bays) : StockKept s (t.updCarrier c f).stores := by
  refine h.updCarrier c (fun k hk => ⟨hfault k hk.1, ?_⟩) (fun k _ hk => ?_)
  · rw [(hrest k).1]
    exact hk.2
  · rwa [(hrest k).2]

theorem StockKept.recompute (h : StockKept s t.stores) (c : Nat) : StockKept s (t.recompute c).stores := by
  have hmem : ∀ k ∈ (t.recompute c).smap.carriers, ∃ j ∈ t.smap.carriers, ∃ m, k = { j with mass := m } := by
    intro k hk
    obtain ⟨i, hi⟩ := List.getElem?_of_mem hk
    simp only [Station.recompute, List.getElem?_modify] at hi
    obtain ⟨j, hj, rfl⟩ := Option.map_eq_some_iff.mp hi
    refine ⟨j, List.mem_of_getElem? hj, ?_⟩
    by_cases hci : c = i
    · exact ⟨_, by rw [if_pos hci]⟩
    · exact ⟨j.mass, by rw [if_neg hci]⟩
  refine h.trans (stockKept_iff.mpr ⟨fun hs => ⟨fun k hk => ?_, hs.2⟩, fun hs k hk => ?_⟩)
  · obtain ⟨j, hj, m, rfl⟩ := hmem k hk
    exact hs.1 j hj
  · obtain ⟨j, hj, m, rfl⟩ := hmem k hk
    exact hs j hj

/-! #### The article table -/

theorem findSome?_set_of_none {α β : Type} (f : α → Option β) {x : α} (hx : f x = none) (l : List α) (i : Nat)
    (hi : ∀ y, l[i]? = some y → f y = none) : (l.set i x).findSome? f = l.findSome? f := by
  induction l generalizing i with
  | nil => rfl
  | cons y ys ih =>
    cases i with
    | zero => simp [hx, hi y rfl]
    | succ i => simp only [List.set_cons_succ, List.findSome?_cons, ih i (fun z hz => hi z (by simpa using hz))]

theorem findSome?_set_of_some {α β : Type} (f : α → Option β) {x : α} {b : β} (hx : f x = some b) (l : List α)
    {i : Nat} (hi : i < l.length) (hl : l.findSome? f = none) : (l.set i x).findSome? f = some b := by
  induction l generalizing i with
  | nil => cases hi
  | cons y ys ih =>
    obtain ⟨hy, hys⟩ : f y = none ∧ ys.findSome? f = none := by
      simpa using hl
    cases i with
    | zero => simp [hx]
    | succ i =>
      simp only [List.set_cons_succ, List.findSome?_cons, hy]
      exact ih (Nat.lt_of_succ_lt_succ hi) (by simpa using hys)

/-- The test of R4 leaves the entries of every other code, and that of a code that is needed. -/
theorem article?_testArticle {code other : Nat} (h : other = code → t.articleNeeded code = true) :
    (t.testArticle code).smap.article? other = t.smap.article? other := by
  unfold Station.testArticle
  split
  · rfl
  · rename_i hneed
    have hne : other ≠ code := fun he => hneed (h he)
    split
    · rename_i slot hslot
      obtain ⟨hlt, hmatch, -⟩ := List.findIdx?_eq_some_iff_getElem.mp hslot
      refine findSome?_set_of_none _ rfl _ _ (fun e he => ?_)
      rw [List.getElem?_eq_getElem hlt, Option.some.injEq] at he
      rw [he] at hmatch
      cases e with
      | none => rfl
      | some a =>
        have ha : a.code = code := by simpa using hmatch
        simp [ha, Ne.symm hne]
    · rfl

theorem articleNeeded_of_bound {k : Carrier} {b : Bay} {x : Binding} (hk : k ∈ t.smap.carriers) (hb : b ∈ k.bays)
    (hx : b.binding = some x) : t.articleNeeded x.article = true := by
  have hbound : b.boundTo x.article = true := by simp [Bay.boundTo, hx]
  rw [Station.articleNeeded, Bool.or_eq_true]
  exact .inl (List.any_eq_true.mpr ⟨k, hk, List.any_eq_true.mpr ⟨b, hb, hbound⟩⟩)

theorem testArticle_cfg (code : Nat) : (t.testArticle code).cfg = t.cfg :=
  congrArg View.cfg (testArticle_view t code)

theorem testArticle_retained (code : Nat) : (t.testArticle code).retained = t.retained :=
  congrArg View.retained (testArticle_view t code)

/-- No entry that a bay is bound to goes with the test of R4. -/
@[simp] theorem StockKept.testArticle (h : StockKept s t.stores) (code : Nat) :
    StockKept s (t.testArticle code).stores := by
  refine h.trans (stockKept_iff.mpr ⟨fun hs => ?_, fun hs k hk b hb => ?_⟩)
  · unfold Station.FaultCounts
    rwa [testArticle_carriers, testArticle_retained]
  · rw [testArticle_carriers] at hk
    refine bayBounds_of_entry (testArticle_cfg code) (fun x hx => article?_testArticle ?_) (hs k hk b hb)
    rintro rfl
    exact articleNeeded_of_bound hk hb hx

/-- A new entry leaves every entry of another code, and stands in the table. -/
theorem article?_createArticle {a : Article} (hnone : t.smap.article? a.code = none) (hroom : t.smap.articleRoom = true)
    (code : Nat) :
    (t.createArticle a).smap.article? code = if code = a.code then some a else t.smap.article? code := by
  unfold Station.createArticle
  split
  · rename_i slot hslot
    obtain ⟨hlt, hfree, -⟩ := List.findIdx?_eq_some_iff_getElem.mp hslot
    split
    · rename_i hcode
      subst hcode
      exact findSome?_set_of_some _ (by simp) _ hlt hnone
    · rename_i hcode
      refine findSome?_set_of_none _ (by simp [Ne.symm hcode]) _ _ (fun e he => ?_)
      rw [List.getElem?_eq_getElem hlt, Option.some.injEq] at he
      rw [he] at hfree
      cases e with
      | none => rfl
      | some b => cases hfree
  · rename_i hno
    obtain ⟨e, he, hfree⟩ := List.any_eq_true.mp hroom
    rw [List.findIdx?_eq_none_iff.mp hno e he] at hfree
    cases hfree

theorem createArticle_carriers (a : Article) : (t.createArticle a).smap.carriers = t.smap.carriers := by
  unfold Station.createArticle
  split <;> rfl

theorem createArticle_cfg (a : Article) : (t.createArticle a).cfg = t.cfg :=
  congrArg View.cfg (createArticle_view t a)

theorem createArticle_retained (a : Article) : (t.createArticle a).retained = t.retained :=
  congrArg View.retained (createArticle_view t a)

theorem StockKept.createArticle (h : StockKept s t.stores) {a : Article} (hnone : t.smap.article? a.code = none)
    (hroom : t.smap.articleRoom = true) : StockKept s (t.createArticle a).stores := by
  refine h.trans (stockKept_iff.mpr ⟨fun hs => ?_, fun hs k hk b hb => ?_⟩)
  · unfold Station.FaultCounts
    rwa [createArticle_carriers, createArticle_retained]
  · rw [createArticle_carriers] at hk
    have hbounds := hs k hk b hb
    refine bayBounds_of_entry (createArticle_cfg a) (fun x hx => ?_) hbounds
    obtain ⟨-, y, hy, -⟩ := (bayBounds_iff_of_bound hx).mp hbounds
    rw [article?_createArticle hnone hroom, if_neg]
    rintro hcode
    rw [hcode, hnone] at hy
    cases hy

/-! #### One bay -/

/-- A change of one bay that keeps it within its bounds (R5). -/
theorem StockKept.changeBay (h : StockKept s t.stores) {a : BayAddr} {f : Bay → Bay}
    (hf : ∀ b, t.bay? a = some b → t.bayBounds b = true → t.bayBounds (f b) = true) :
    StockKept s (t.changeBay a f).stores := by
  unfold Station.changeBay
  refine StockKept.foldl (StockKept.recompute ?_ _) (fun t code => (StockKept.refl t).testArticle code) _
  refine h.updCarrier a.carrier (fun _ => id) (fun k hk hbays => ?_)
  refine dropIdle_bayBounds (fun b hb => ?_)
  obtain ⟨i, hi⟩ := List.getElem?_of_mem hb
  rw [List.getElem?_modify] at hi
  obtain ⟨b', hb', rfl⟩ := Option.map_eq_some_iff.mp hi
  have hbounds := hbays b' (List.mem_of_getElem? hb')
  by_cases hai : a.bay = i
  · subst hai
    have hbay : t.bay? a = some b' := by simp [Station.bay?, Station.carrier?, hk, hb']
    simpa using hf b' hbay hbounds
  · simpa [hai] using hbounds

end
end Sys2Proof.Machine
end

section
/-! ### The requests to the Stock Map and to the Lock Table keep the stock rules (R8 to R17, R26 to R37) -/

namespace Sys2Proof.Machine

section
variable {s t u : Station}

/-! #### Requests to the Stock Map -/

/-- Entries that ask no more of a bay than it has available are reserved one after another within the bounds (R10). -/
theorem StockKept.foldl_reserveOne {entries : List SelEntry} (h : StockKept s t.stores)
    (havail : ∀ e ∈ entries, ∀ x, (t.bay? e.addr).map Bay.figures = some x → askedOf entries e.addr ≤ x.1 - x.2.1) :
    StockKept s (entries.foldl Station.reserveOne t).stores := by
  induction entries generalizing t with
  | nil => exact h
  | cons e entries ih =>
    have hone : StockKept s (t.reserveOne e).stores := by
      refine h.changeBay (fun b hb hbounds => bayBounds_of_figures hbounds rfl ?_ (Nat.le_refl _))
      have hasked := havail e (by simp) b.figures (by rw [hb]; rfl)
      rw [askedOf_cons, if_pos rfl] at hasked
      have hres := reserved_le_of_bayBounds hbounds
      simp only [Bay.figures] at hasked
      dsimp only
      omega
    refine ih hone (fun d hd x hx => ?_)
    rw [Station.reserveOne,
      figures_changeBay t e.addr d.addr (g := fun x => (x.1, x.2.1 + e.qty, x.2.2)) (fun _ => rfl)] at hx
    obtain ⟨y, hy, rfl⟩ := Option.map_eq_some_iff.mp hx
    have hasked := havail d (by simp [hd]) y hy
    rw [askedOf_cons] at hasked
    by_cases haddr : d.addr = e.addr
    · simp only [haddr, if_true] at hasked ⊢
      omega
    · simpa [haddr] using hasked

@[simp] theorem StockKept.reserve (h : StockKept s t.stores) (article : Nat) (entries : List SelEntry) :
    StockKept s (t.reserve article entries).2.stores := by
  by_cases hfits : ∀ e ∈ entries, t.fits article entries e
  · rw [reserve_of_fits hfits]
    refine h.foldl_reserveOne (fun e he x hx => ?_)
    obtain ⟨b, -, hb, -, hasked⟩ := hfits e he
    rw [hb] at hx
    cases hx
    exact hasked
  · unfold Station.reserve
    split
    · exact h
    · rename_i hnone
      refine absurd (fun e he => reserveCheck_accepted_iff.mp ?_) hfits
      simpa using List.find?_eq_none.mp hnone e he

@[simp] theorem StockKept.unreserve (h : StockKept s t.stores) (entries : List (BayAddr × Nat)) :
    StockKept s (t.unreserve entries).stores := by
  unfold Station.unreserve
  split
  · refine h.foldl (fun t e => (StockKept.refl t).changeBay (fun b _ hb => ?_)) _
    have hres := reserved_le_of_bayBounds hb
    exact bayBounds_of_figures hb rfl (by dsimp only; omega) (Nat.le_refl _)
  · exact h

/-- A promise that fits under the capacity of the entry of its article (R12). -/
theorem StockKept.promise (h : StockKept s t.stores) {addr : BayAddr} {week qty code : Nat} {e : Article} {b : Bay}
    (hb : t.bay? addr = some b) (he : t.smap.article? code = some e)
    (hfit : b.count + b.incoming + qty ≤ capB t.cfg.h e.pitch) :
    StockKept s (t.changeBay addr (fun b =>
      { b with binding := some { article := code, week := week }, incoming := b.incoming + qty })).stores := by
  refine h.changeBay (fun b' hb' hbounds => ?_)
  rw [hb, Option.some.injEq] at hb'
  subst hb'
  have hres := reserved_le_of_bayBounds hbounds
  exact (bayBounds_iff_of_bound rfl).mpr ⟨hres, e, he, by dsimp only; omega⟩

/-- An EXPECT accepted is one for an article that then has an entry, under whose capacity it fits (R12). -/
@[simp] theorem StockKept.expect (h : StockKept s t.stores) (addr : BayAddr) (week qty : Nat) (a : Article) :
    StockKept s (t.expect addr week qty a).2.stores := by
  unfold Station.expect
  dsimp only
  split
  · exact h
  · rename_i b hb
    split
    · exact h
    · split
      · exact h
      · rename_i hroom
        split
        · rename_i hfit
          cases he : t.smap.article? a.code with
          | some e => exact h.promise hb he (by simpa [he] using hfit)
          | none =>
            have hfree : t.smap.articleRoom = true := by simpa [he] using hroom
            refine StockKept.promise (t := t.createArticle a) (e := a) (b := b) (h.createArticle he hfree) ?_ ?_ ?_
            · rw [bay?_eq, Station.carrier?, createArticle_carriers, ← Station.carrier?, ← bay?_eq]
              exact hb
            · rw [article?_createArticle he hfree, if_pos rfl]
            · rw [createArticle_cfg]
              simpa [he] using hfit
        · exact h

@[simp] theorem StockKept.unexpect (h : StockKept s t.stores) (a : BayAddr) (qty : Nat) :
    StockKept s (t.unexpect a qty).stores := by
  unfold Station.unexpect
  split
  · refine h.changeBay (fun b _ hb => ?_)
    have hres := reserved_le_of_bayBounds hb
    exact bayBounds_of_figures hb rfl hres (by dsimp only; omega)
  · exact h

@[simp] theorem StockKept.takeReport (h : StockKept s t.stores) (a : BayAddr) :
    StockKept s (t.takeReport a).stores := by
  refine h.changeBay (fun b _ hb => ?_)
  have hres := reserved_le_of_bayBounds hb
  refine bayBounds_of_figures hb rfl ?_ ?_
  · dsimp only
    omega
  · dsimp only
    omega

/-- A tyre stored takes the place of one incoming, or a free place (R15). -/
theorem stored_bayBounds {b : Bay} (hb : t.bayBounds b = true) : t.bayBounds (b.stored (t.bayCap b)) = true := by
  have hres := reserved_le_of_bayBounds hb
  unfold Bay.stored
  split
  · refine bayBounds_of_figures hb rfl ?_ ?_
    · dsimp only
      omega
    · dsimp only
      omega
  · split
    · rename_i hincoming hroom
      cases hcap : t.bayCap b with
      | none => simp [hcap] at hroom
      | some cap =>
        rw [hcap, Option.getD_some] at hroom
        refine bayBounds_of_bayCap hb hcap rfl ?_ ?_
        · dsimp only
          omega
        · dsimp only
          omega
    · exact hb

@[simp] theorem StockKept.storeReport (h : StockKept s t.stores) (a : BayAddr) : StockKept s (t.storeReport a).stores :=
  h.changeBay (fun _ _ hb => stored_bayBounds hb)

/-- The count that R16 sets stays at least the reserved, and with the incoming at most the capacity. -/
theorem countSet_bounds {target reserved incoming cap count : Nat} (hres : reserved ≤ count)
    (hcap : count + incoming ≤ cap) :
    reserved ≤ countSet target reserved incoming cap ∧ countSet target reserved incoming cap + incoming ≤ cap := by
  unfold countSet
  dsimp only
  split
  · omega
  · omega

@[simp] theorem StockKept.setCountAfterCut (h : StockKept s t.stores) (a : BayAddr) (target : Nat) (drop : Bool) :
    StockKept s (t.setCountAfterCut a target drop).stores := by
  refine h.changeBay (fun b _ hb => ?_)
  split
  · exact hb
  · rename_i cap hcap
    obtain ⟨hres, hsum⟩ := bayCap_of_bayBounds hb hcap
    obtain ⟨hres', hsum'⟩ := countSet_bounds (target := target) hres hsum
    dsimp only
    split
    · rename_i hidle
      rw [Bool.and_eq_true] at hidle
      exact unbind_bayBounds hidle.2
    · exact bayBounds_of_bayCap hb hcap rfl hres' hsum'

/-! #### Requests to the Lock Table -/

/-- A reason other than RETIRED, or RETIRED set, leaves a fault count in its rule (R26, R32). -/
@[simp] theorem StockKept.putReason (h :
    StockKept s t.stores) (c : Nat) {r : Reason} {v : Bool} (hr : r ≠ .retired ∨ v = true) :
    StockKept s (t.putReason c r v).stores := by
  refine h.updLocks c (fun k hk => ?_) (fun _ => ⟨rfl, rfl⟩)
  cases r with
  | retired =>
    have hv : v = true := hr.resolve_left (fun hne => hne rfl)
    exact ⟨hk.1, fun _ => hv⟩
  | unverified => exact hk
  | audit => exact hk
  | touched => exact hk
  | quarantine => exact hk
  | held => exact hk

@[simp] theorem StockKept.touch (h : StockKept s t.stores) (c : Nat) : StockKept s (t.touch c).stores := by
  have hput : (t.touch c).stores = (t.putReason c .touched true).stores := by
    unfold Station.touch
    dsimp only
    split
    · split <;> rfl
    · rfl
  rw [hput]
  exact h.putReason c (.inr rfl)

/-- The fault count rises to 3 at most, and RETIRED is set with it (R32). -/
@[simp] theorem StockKept.extractorFault (h : StockKept s t.stores) (c : Nat) :
    StockKept s (t.extractorFault c).stores := by
  refine h.updLocks c (fun k hk => ?_) (fun _ => ⟨rfl, rfl⟩)
  obtain ⟨hle, -⟩ := hk
  refine ⟨?_, ?_⟩
  · dsimp only
    split
    · omega
    · exact hle
  · intro hthree
    dsimp only at hthree ⊢
    rw [if_pos hthree]
    rfl

@[simp] theorem StockKept.unretire (h : StockKept s t.stores) (c : Nat) : StockKept s (t.unretire c).stores := by
  refine h.updLocks c (fun k hk => ?_) (fun k => ?_)
  · split
    · exact ⟨Nat.zero_le 3, nofun⟩
    · exact hk
  · split <;> exact ⟨rfl, rfl⟩

@[simp] theorem StockKept.scanCompleted (h : StockKept s t.stores) (c : Nat) (firstUnsure touched : Bool) :
    StockKept s (t.scanCompleted c firstUnsure touched).stores := by
  unfold Station.scanCompleted
  split
  · exact h
  · exact h.updLocks c (fun _ => id) (fun _ => ⟨rfl, rfl⟩)

@[simp] theorem StockKept.setRescan (h : StockKept s t.stores) (c : Nat) (p : Option Purpose) :
    StockKept s (t.setRescan c p).stores :=
  h.updLocks c (fun _ => id) (fun _ => ⟨rfl, rfl⟩)

@[simp] theorem StockKept.setDue (h : StockKept s t.stores) (c : Nat) (d : Due) : StockKept s (t.setDue c d).stores :=
  h.updLocks c (fun _ => id) (fun _ => ⟨rfl, rfl⟩)

/-- The last grade and the unsure-once mark are no part of the bounds. -/
@[simp] theorem StockKept.markBay (h : StockKept s t.stores) (a : BayAddr) (g : Grade) (unsure : Bool) :
    StockKept s (t.markBay a g unsure).stores := by
  refine h.updCarrier a.carrier (fun _ => id) (fun k _ hk b hb => ?_)
  obtain ⟨i, hi⟩ := List.getElem?_of_mem hb
  rw [List.getElem?_modify] at hi
  obtain ⟨b', hb', rfl⟩ := Option.map_eq_some_iff.mp hi
  have hbounds := hk b' (List.mem_of_getElem? hb')
  split
  · exact bayBounds_of_figures hbounds rfl (reserved_le_of_bayBounds hbounds) (Nat.le_refl _)
  · exact hbounds

end
end Sys2Proof.Machine
end

section
/-! ### What leaves the stock alone: the bus, the tables of records, orders and tasks, the drives -/

namespace Sys2Proof.Machine

section
variable (s : Station)

theorem foldl_stores {α : Type} (f : Station → α → Station) (h : ∀ s x, (f s x).stores = s.stores) (l : List α)
    (s : Station) : (l.foldl f s).stores = s.stores := by
  induction l generalizing s with
  | nil => rfl
  | cons x xs ih => rw [List.foldl_cons, ih, h]

/-! #### Records, orders, groups, posts -/

@[simp] theorem updRecord_stores (n : Nat) (f : LineRec → LineRec) : (s.updRecord n f).stores = s.stores := (rfl)
@[simp] theorem updBid_stores (n : Nat) (f : Bid → Bid) : (s.updBid n f).stores = s.stores := (rfl)
@[simp] theorem updPick_stores (n : Nat) (f : PickBody → PickBody) : (s.updPick n f).stores = s.stores := (rfl)
@[simp] theorem updPut_stores (n : Nat) (f : PutBody → PutBody) : (s.updPut n f).stores = s.stores := (rfl)
@[simp] theorem updOrder_stores (o : Nat) (f : OrderEntry → OrderEntry) : (s.updOrder o f).stores = s.stores := (rfl)
@[simp] theorem updGroup_stores (o : Nat) (f : Group → Group) : (s.updGroup o f).stores = s.stores := (rfl)
@[simp] theorem setOwedReadies_stores (l : List Nat) : (s.setOwedReadies l).stores = s.stores := (rfl)
@[simp] theorem readyPosted_stores (n o h : Nat) : (s.readyPosted n o h).stores = s.stores := (rfl)
@[simp] theorem unoweKind_stores (k : Kind) : (s.unoweKind k).stores = s.stores := (rfl)
@[simp] theorem addPost_stores (k : Kind) (key : Key) (p : List Byte) : (s.addPost k key p).stores = s.stores := (rfl)
@[simp] theorem freeSlot_stores (h : Nat) : (s.freeSlot h).stores = s.stores := (rfl)

@[simp] theorem post_stores (k : Kind) (p : List Byte) : (s.post k p).2.stores = s.stores := by
  unfold Station.post Station.oweKind
  split
  · rfl
  · split <;> rfl

theorem post_stores_of_eq {s t : Station} {k : Kind} {p : List Byte} {h : Option Nat} (e : s.post k p = (h, t)) :
    t.stores = s.stores := by
  have := post_stores s k p
  rwa [e] at this

@[simp] theorem statusTrigger_stores : s.statusTrigger.stores = s.stores := by
  unfold Station.statusTrigger
  split
  · rfl
  · split
    · rename_i h
      exact post_stores_of_eq h
    · rename_i h
      simpa using post_stores_of_eq h

@[simp] theorem nonHaltingFault_stores (f : StationFault) : (s.nonHaltingFault f).stores = s.stores :=
  statusTrigger_stores _

@[simp] theorem trimOwedReadies_stores (l : List Nat) : (s.trimOwedReadies l).stores = s.stores := by
  induction l generalizing s with
  | nil => rfl
  | cons n rest ih =>
    unfold Station.trimOwedReadies
    split
    · rfl
    · rw [ih, updPick_stores]

@[simp] theorem fillRdy_stores : s.fillRdy.station.stores = s.stores := by
  unfold Station.fillRdy
  dsimp only
  split
  · exact trimOwedReadies_stores s _
  · split
    · exact trimOwedReadies_stores s _
    · exact trimOwedReadies_stores s _

@[simp] theorem fillSan_stores : s.fillSan.station.stores = s.stores := by
  unfold Station.fillSan
  split
  · rfl
  · split
    · rfl
    · split <;> rfl

@[simp] theorem fillOwed_stores (k : Kind) : (s.fillOwed k).station.stores = s.stores := by
  cases k with
  | rdy => exact fillRdy_stores s
  | san => exact fillSan_stores s
  | abn =>
    unfold Station.fillOwed Station.fillAbn
    dsimp only
    split <;> rfl
  | cls =>
    unfold Station.fillOwed Station.fillCls
    dsimp only
    split <;> rfl
  | arp =>
    unfold Station.fillOwed Station.fillArp
    dsimp only
    split <;> rfl
  | sts =>
    unfold Station.fillOwed Station.fillSts
    dsimp only
    split <;> rfl
  | _ => rfl

@[simp] theorem offerKinds_stores (ks : List Kind) : (offerKinds s ks).stores = s.stores := by
  induction ks generalizing s with
  | nil => rfl
  | cons k ks ih =>
    unfold offerKinds
    dsimp only
    split
    · exact ih s
    · split
      · split <;> simp
      · simp [ih]

@[simp] theorem offerSlot_stores : s.offerSlot.stores = s.stores := by
  unfold Station.offerSlot
  split <;> simp

@[simp] theorem withdraw_stores (h : Option Nat) : (s.withdraw h).stores = s.stores := by
  unfold Station.withdraw
  split
  · rfl
  · split <;> simp

@[simp] theorem postReady_stores (n : Nat) : (s.postReady n).stores = s.stores := by
  unfold Station.postReady
  split
  · rfl
  · split
    · split
      · rename_i h
        simpa using post_stores_of_eq h
      · rename_i h
        simpa using post_stores_of_eq h
    · rfl

@[simp] theorem postReadies_stores : s.postReadies.stores = s.stores := foldl_stores _ (by simp) _ _

/-! #### The Claim Unit -/

@[simp] theorem raiseAbandon_stores (o : Nat) (c : Cause) : (s.raiseAbandon o c).stores = s.stores := by
  unfold Station.raiseAbandon
  split
  · rfl
  · split
    · split
      · rename_i h
        simpa using post_stores_of_eq h
      · rename_i h
        simpa using post_stores_of_eq h
    · rfl

@[simp] theorem keepNote_stores (r : LineRec) : (s.keepNote r).stores = s.stores := by
  unfold Station.keepNote
  split
  · rfl
  · split <;> rfl

@[simp] theorem withdrawBid_stores (r : LineRec) : (s.withdrawBid r).stores = s.stores := by
  unfold Station.withdrawBid
  split
  · split <;> simp
  · rfl

@[simp] theorem putawayEnded_stores (n : Nat) : (s.putawayEnded n).stores = s.stores := by
  unfold Station.putawayEnded
  split <;> simp

@[simp] theorem dropOwnLine_stores (o l : Nat) : (s.dropOwnLine o l).stores = s.stores := (rfl)

@[simp] theorem removeJobs_stores (m : Job → Bool) : (s.removeJobs m).stores = s.stores := (rfl)

@[simp] theorem postClose_stores (r : LineRec) : (s.postClose r).stores = s.stores := by
  unfold Station.postClose
  split
  · rename_i h
    simpa using post_stores_of_eq h
  · rename_i h
    simpa using post_stores_of_eq h

@[simp] theorem winRound_stores (r : LineRec) (own : Bool) : (s.winRound r own).stores = s.stores := by
  unfold Station.winRound
  dsimp only
  split <;> split <;> simp

@[simp] theorem countArrival_stores (r : LineRec) : (s.countArrival r).stores = s.stores := (rfl)

@[simp] theorem markWant_stores (w : ClaimWant) : (s.markWant w).stores = s.stores := by
  unfold Station.markWant
  split <;> rfl

/-! #### The Consolidation Unit -/

@[simp] theorem recordOrder_stores (o n : Nat) : (s.recordOrder o n).stores = s.stores := (rfl)

@[simp] theorem tyreTaken_stores (n : Nat) (a : BayAddr) : (s.tyreTaken n a).stores = s.stores := by
  unfold Station.tyreTaken
  split <;> rfl

@[simp] theorem raisePending_stores (o : Nat) : (s.raisePending o).stores = s.stores := by
  unfold Station.raisePending
  split
  · split <;> rfl
  · rfl

@[simp] theorem tyreStaged_stores (o : Nat) (t : Tyre) : (s.tyreStaged o t).stores = s.stores := by
  unfold Station.tyreStaged
  split <;> simp

@[simp] theorem markStuck_stores (o : Nat) (d : Option BayAddr) : (s.markStuck o d).stores = s.stores := by
  unfold Station.markStuck
  split
  · rfl
  · split <;> simp

@[simp] theorem askPutback_stores (o : Nat) (d : Option BayAddr) : (s.askPutback o d).stores = s.stores := by
  unfold Station.askPutback
  dsimp only
  split
  · exact markStuck_stores s o d
  · exact markStuck_stores s o d

@[simp] theorem putDest_stores (o : Nat) (d : Option BayAddr) : (s.putDest o d).stores = s.stores := (rfl)

@[simp] theorem requestRelease_stores (o : Nat) : (s.requestRelease o).stores = s.stores := by
  unfold Station.requestRelease
  split
  · rfl
  · split <;> rfl

@[simp] theorem requestHeld_stores : s.requestHeld.stores = s.stores := by
  unfold Station.requestHeld
  split <;> simp

@[simp] theorem requestFailed_stores : s.requestFailed.stores = s.stores := foldl_stores _ (by simp) _ _

@[simp] theorem removeGroup_stores (o : Nat) : (s.removeGroup o).stores = s.stores := (rfl)

@[simp] theorem releaseFailed_stores (o n : Nat) : (s.releaseFailed o n).stores = s.stores := by
  simp [Station.releaseFailed]

@[simp] theorem withdrawAbandon_stores (o : Nat) : (s.withdrawAbandon o).stores = s.stores := by
  unfold Station.withdrawAbandon
  split <;> simp

@[simp] theorem withdrawReadies_stores (o : Nat) : (s.withdrawReadies o).stores = s.stores := by
  unfold Station.withdrawReadies
  dsimp only
  rw [foldl_stores _ (by simp), updGroup_stores, foldl_stores _ (by simp), setOwedReadies_stores]

@[simp] theorem abandonHalted_stores : s.abandonHalted.stores = s.stores := foldl_stores _ (by simp) _ _

@[simp] theorem cnuWithdrawal_stores : s.cnuWithdrawal.stores = s.stores := (rfl)

@[simp] theorem cnuRejoin_stores : s.cnuRejoin.stores = s.stores := (rfl)

@[simp] theorem returnFailed_stores (o : Nat) : (s.returnFailed o).stores = s.stores := (rfl)

/-! #### The planner and Station Control -/

@[simp] theorem removeTask_stores (id : Nat) : (s.removeTask id).stores = s.stores := (rfl)

@[simp] theorem updTask_stores (id : Nat) (f : Task → Task) : (s.updTask id f).stores = s.stores := (rfl)

@[simp] theorem giveMove_stores (d : Dir) (n c : Nat) (t : Option Nat) : (s.giveMove d n c t).stores = s.stores := (rfl)

@[simp] theorem dropIfRemoved_stores (id : Nat) : (s.dropIfRemoved id).stores = s.stores := by
  unfold Station.dropIfRemoved
  split <;> rfl

@[simp] theorem stopMove_stores : s.stopMove.stores = s.stores := by
  unfold Station.stopMove
  split
  · rfl
  · dsimp only
    split <;> simp

@[simp] theorem atTarget_stores (t : Task) : (s.atTarget t).stores = s.stores := by
  unfold Station.atTarget
  split <;> rfl

@[simp] theorem startTask_stores (t : Task) : (s.startTask t).stores = s.stores := by
  unfold Station.startTask
  dsimp only
  split
  · exact atTarget_stores s t
  · split <;> split <;> rfl

@[simp] theorem raisePassed_stores (id : Nat) : (s.raisePassed id).stores = s.stores := (rfl)

@[simp] theorem resumeMove_stores : s.resumeMove.stores = s.stores := by
  unfold Station.resumeMove
  split <;> rfl

@[simp] theorem moveEnded_stores : s.moveEnded.stores = s.stores := (rfl)

/-! #### The Audit Unit -/

@[simp] theorem postReport_stores (r : Report) : (s.postReport r).stores = s.stores := by
  unfold Station.postReport
  split
  · rename_i h
    exact post_stores_of_eq h
  · rename_i h
    simpa using post_stores_of_eq h

@[simp] theorem clearScanNotes_stores : s.clearScanNotes.stores = s.stores := (rfl)

@[simp] theorem postAnswers_stores (fuel : Nat) : (s.postAnswers fuel).stores = s.stores := by
  induction fuel generalizing s with
  | zero => rfl
  | succ n ih =>
    unfold Station.postAnswers
    split
    · rfl
    · split
      · rfl
      · split
        · rfl
        · split
          · rename_i h
            exact post_stores_of_eq h
          · rename_i h
            simpa [ih] using post_stores_of_eq h

@[simp] theorem beginAnswer_stores (a : Nat) : (s.beginAnswer a).stores = s.stores := by
  simp [Station.beginAnswer]

@[simp] theorem takeQuery_stores (a : Nat) : (s.takeQuery a).stores = s.stores := by
  unfold Station.takeQuery
  split <;> simp

@[simp] theorem answerSent_stores : s.answerSent.stores = s.stores := (rfl)

@[simp] theorem afterAnswer_stores (l : Bool) : (s.afterAnswer l).stores = s.stores := by
  unfold Station.afterAnswer
  split
  · split <;> simp
  · simp

/-! #### The Face Controller -/

@[simp] theorem giveLane_stores (l : Lane) : (s.giveLane l).stores = s.stores := (rfl)

@[simp] theorem laneIdle_stores : s.laneIdle.stores = s.stores := (rfl)

@[simp] theorem stow_stores : s.stow.stores = s.stores := by
  unfold Station.stow
  split <;> rfl

@[simp] theorem handBack_stores : s.handBack.stores = s.stores := (rfl)

@[simp] theorem endTask_stores (id : Nat) : (s.endTask id).stores = s.stores := (rfl)

@[simp] theorem endLoad_stores (t : Task) : (s.endLoad t).stores = s.stores := by
  unfold Station.endLoad
  split <;> rfl

@[simp] theorem read_stores (a : BayAddr) (p : Option Purpose) : (s.read a p).stores = s.stores := (rfl)

@[simp] theorem giveCycle_stores (k : CycleKind) (a : BayAddr) : (s.giveCycle k a).stores = s.stores := (rfl)

theorem stage_stores (g : Stage) : ({ s with fct := { s.fct with stage := g } } : Station).stores = s.stores := rfl

@[simp] theorem pickStep_stores (t : Task) (p : PickStop) : (s.pickStep t p).stores = s.stores := by
  unfold Station.pickStep
  split_ifs
  on_goal 5 => exact (stage_stores s.stow .stray).trans (stow_stores s)
  all_goals rfl

@[simp] theorem loadStep_stores (t : Task) (n : Nat) (a : BayAddr) : (s.loadStep t n a).stores = s.stores := by
  unfold Station.loadStep
  split_ifs <;> rfl

@[simp] theorem putbackStep_stores (t : Task) (d : Option BayAddr) : (s.putbackStep t d).stores = s.stores := by
  unfold Station.putbackStep
  split <;> split_ifs <;> rfl

@[simp] theorem surplus_stores : s.surplus.stores = s.stores := by simp [Station.surplus]

@[simp] theorem infeedEmptied_stores : s.infeedEmptied.stores = s.stores := by
  unfold Station.infeedEmptied
  split <;> rfl

@[simp] theorem arrival_stores : s.arrival.stores = s.stores := by
  unfold Station.arrival
  split
  · split <;> simp
  · simp
  · simp

@[simp] theorem serveDrive_stores (old : Station) : (s.serveDrive old).stores = s.stores := by
  unfold Station.serveDrive Station.beginSweep Station.beginRelease
  dsimp only
  split_ifs <;> rfl

end
end Sys2Proof.Machine
end

section
/-! ### The blocks keep the stock rules -/

namespace Sys2Proof.Machine

section
variable {s t : Station}

/-! #### The Claim Unit -/

@[simp] theorem StockKept.dropRecord (h : StockKept s t.stores) (n : Nat) : StockKept s (t.dropRecord n).stores := by
  unfold Station.dropRecord
  split
  · exact h
  · dsimp only
    refine StockKept.testArticle ?_ _
    split
    · split <;> simp [h]
    · simp [h]

@[simp] theorem StockKept.dropWhere (h : StockKept s t.stores) (p : LineRec → Bool) :
    StockKept s (t.dropWhere p).stores :=
  h.foldl (by simp) _

@[simp] theorem StockKept.dropTentativeOf (h : StockKept s t.stores) (o : Nat) :
    StockKept s (t.dropTentativeOf o).stores :=
  h.dropWhere _

@[simp] theorem StockKept.releasePick (h : StockKept s t.stores) (n : Nat) : StockKept s (t.releasePick n).stores := by
  unfold Station.releasePick
  split
  · exact h
  · simp [h]

@[simp] theorem StockKept.turnReturning (h : StockKept s t.stores) (n : Nat) :
    StockKept s (t.turnReturning n).stores := by
  unfold Station.turnReturning
  dsimp only
  split <;> simp [h]

@[simp] theorem StockKept.returnWhere (h : StockKept s t.stores) (p : LineRec → Bool) :
    StockKept s (t.returnWhere p).stores :=
  h.foldl (by simp) _

@[simp] theorem StockKept.abandonRecord (h : StockKept s t.stores) (n : Nat) :
    StockKept s (t.abandonRecord n).stores := by
  unfold Station.abandonRecord
  split
  · exact h
  · split <;> simp [h]

@[simp] theorem StockKept.abandonRecords (h : StockKept s t.stores) (o : Nat) :
    StockKept s (t.abandonRecords o).stores :=
  StockKept.returnWhere (h.foldl (by simp) _) _

theorem StockKept.cutWalk (h : StockKept s t.stores) (a : BayAddr) (l : List Nat) (excess : Nat) :
    StockKept s (cutWalk a l excess t).stores := by
  induction l generalizing excess t with
  | nil => exact h
  | cons n rest ih =>
    unfold Machine.cutWalk
    split
    · exact h
    · split
      · exact ih h _
      · split
        · refine ih ?_ _
          split <;> simp [h]
        · exact ih h _

@[simp] theorem StockKept.cutTo (h : StockKept s t.stores) (a : BayAddr) (n : Nat) :
    StockKept s (t.cutTo a n).stores := by
  unfold Station.cutTo
  split
  · exact h
  · exact h.cutWalk _ _ _

@[simp] theorem StockKept.adjust (h : StockKept s t.stores) (a : BayAddr) (n : Nat) :
    StockKept s (t.adjust a n).stores := by
  simp [Station.adjust, h]

@[simp] theorem StockKept.setCount (h : StockKept s t.stores) (a : BayAddr) (n : Nat) :
    StockKept s (t.setCount a n).stores := by
  unfold Station.setCount
  split <;> simp [h]

@[simp] theorem StockKept.openRecord (h : StockKept s t.stores) (article qty key : Nat) (body : RecBody) :
    StockKept s (t.openRecord article qty key body).stores := by
  unfold Station.openRecord
  dsimp only
  split <;> simp [h]

@[simp] theorem StockKept.bidPick (h : StockKept s t.stores) (o l a q : Nat) :
    StockKept s (t.bidPick o l a q).stores := by
  unfold Station.bidPick
  split
  · exact h
  · rename_i sel _
    have hreserve := h.reserve a sel
    split
    · rename_i e
      rw [e] at hreserve
      exact StockKept.openRecord hreserve _ _ _ _
    · exact h

@[simp] theorem StockKept.bidPutaway (h : StockKept s t.stores) (n w q : Nat) (a : Article) :
    StockKept s (t.bidPutaway n w q a).stores := by
  unfold Station.bidPutaway
  dsimp only
  split
  · exact h
  · rename_i x _
    have hexpect := h.expect x.addr w q ((t.smap.article? a.code).getD a)
    split
    · rename_i e
      rw [e] at hexpect
      exact StockKept.openRecord hexpect _ _ _ _
    · exact h

@[simp] theorem StockKept.hearClaim (h : StockKept s t.stores) (code : Nat × Nat) (key : Nat) :
    StockKept s (t.hearClaim code key).stores := by
  unfold Station.hearClaim
  split
  · exact h
  · split
    · dsimp only
      split <;> simp [h]
    · exact h

@[simp] theorem StockKept.hearClose (h : StockKept s t.stores) (code : Nat × Nat) (own : Bool) :
    StockKept s (t.hearClose code own).stores := by
  unfold Station.hearClose
  split
  · exact h
  · split
    · split <;> simp [h]
    · exact h

@[simp] theorem StockKept.windowExpired (h : StockKept s t.stores) (r : LineRec) :
    StockKept s (t.windowExpired r).stores := by
  unfold Station.windowExpired
  split
  · simp [h]
  · split <;> simp [h]

@[simp] theorem StockKept.claimsOnService (h : StockKept s t.stores) : StockKept s t.claimsOnService.stores :=
  h.dropWhere _

@[simp] theorem StockKept.dropTentatives (h : StockKept s t.stores) : StockKept s t.dropTentatives.stores :=
  h.dropWhere _

@[simp] theorem StockKept.claimsOnWithdrawal (h : StockKept s t.stores) : StockKept s t.claimsOnWithdrawal.stores := by
  simp [Station.claimsOnWithdrawal, h]

/-! #### The Consolidation Unit -/

@[simp] theorem StockKept.evict (h : StockKept s t.stores) (e : OrderEntry) : StockKept s (t.evict e).stores := by
  unfold Station.evict
  dsimp only
  split <;> simp [h]

@[simp] theorem StockKept.openOrder (h : StockKept s t.stores) (o n : Nat) : StockKept s (t.openOrder o n).stores := by
  unfold Station.openOrder
  split
  · exact h
  · split
    · simp [h]
    · split <;> simp [h]

@[simp] theorem StockKept.releaseComplete (h : StockKept s t.stores) (o : Nat) :
    StockKept s (t.releaseComplete o).stores := by
  simp [Station.releaseComplete, h]

@[simp] theorem StockKept.settleUnstaged (h : StockKept s t.stores) (o : Nat) :
    StockKept s (t.settleUnstaged o).stores :=
  StockKept.foldl (h.dropWhere _) (by simp) _

@[simp] theorem StockKept.completeOrder (h : StockKept s t.stores) (o : Nat) :
    StockKept s (t.completeOrder o).stores := by
  unfold Station.completeOrder
  dsimp only
  split <;> simp [h]

@[simp] theorem StockKept.hearReady (h : StockKept s t.stores) (o l : Nat) (own : Bool) :
    StockKept s (t.hearReady o l own).stores := by
  unfold Station.hearReady
  split
  · exact h
  · split
    · dsimp only
      split
      · simp [h]
      · split <;> simp [h]
    · exact h

@[simp] theorem StockKept.hearAbandon (h : StockKept s t.stores) (o : Nat) : StockKept s (t.hearAbandon o).stores := by
  unfold Station.hearAbandon
  split <;> simp [h]

@[simp] theorem StockKept.tyreReturned (h : StockKept s t.stores) (o : Nat) :
    StockKept s (t.tyreReturned o).stores := by
  unfold Station.tyreReturned
  split
  · exact h
  · split
    · exact h
    · dsimp only
      split
      · rw [removeGroup_stores]
        split
        · split <;> simp [h]
        · simp [h]
      · split
        · split <;> simp [h]
        · simp [h]

@[simp] theorem StockKept.tryDest (h : StockKept s t.stores) (y : Tyre) : StockKept s (t.tryDest y).2.stores := by
  unfold Station.tryDest
  split
  · exact h
  · rename_i d _
    have hexpect := h.expect d y.week 1 (t.tyreArticle y)
    split
    · rename_i e
      rwa [e] at hexpect
    · rename_i e
      rwa [e] at hexpect

@[simp] theorem StockKept.expectDest (h : StockKept s t.stores) (y : Tyre) :
    StockKept s (t.expectDest y).2.stores := by
  have htry := h.tryDest y
  unfold Station.expectDest
  split
  · rename_i e
    rwa [e] at htry
  · rename_i e
    rw [e] at htry
    exact StockKept.tryDest htry y

@[simp] theorem StockKept.startPutback (h : StockKept s t.stores) : StockKept s t.startPutback.stores := by
  unfold Station.startPutback
  split
  · exact h
  · split
    · exact h
    · split <;> simp [h]

@[simp] theorem StockKept.servePutback (h : StockKept s t.stores) : StockKept s t.servePutback.stores := by
  unfold Station.servePutback
  split
  · exact h
  · split
    · exact h
    · split
      · dsimp only
        rw [askPutback_stores]
        refine StockKept.expectDest ?_ _
        split <;> simp [h]
      · exact h

@[simp] theorem StockKept.rechooseStuck (h : StockKept s t.stores) : StockKept s t.rechooseStuck.stores := by
  unfold Station.rechooseStuck
  split
  · exact h
  · split
    · exact h
    · rename_i y _ _
      have hdest := h.expectDest y
      split
      · exact h
      · rename_i e
        rw [e] at hdest
        dsimp only at hdest ⊢
        split <;> simp [hdest]

@[simp] theorem StockKept.blockedPutback (h : StockKept s t.stores) (o : Nat) (d : BayAddr) :
    StockKept s (t.blockedPutback o d).stores := by
  unfold Station.blockedPutback
  split <;> simp [h]

/-! #### The planner and the Audit Unit's requests -/

@[simp] theorem StockKept.addTask (h : StockKept s t.stores) (j : Job) : StockKept s (t.addTask j).stores := by
  cases j with
  | scan c p => exact StockKept.putReason h c (.inr rfl)
  | pickStop stop => exact h
  | load serial a => exact h
  | putback o d => exact h

@[simp] theorem StockKept.decision (h : StockKept s t.stores) : StockKept s t.decision.stores := by
  unfold Station.decision
  split
  · refine StockKept.foldl ?_ (by simp [Station.reportBlocked]) _
    split <;> simp [h]
  · exact h

@[simp] theorem StockKept.decideAfter (h : StockKept s t.stores) (before : Station) :
    StockKept s (t.decideAfter before).stores := by
  unfold Station.decideAfter
  split <;> simp [h]

@[simp] theorem StockKept.beginPutback (h : StockKept s t.stores) : StockKept s t.beginPutback.stores := by
  simp [Station.beginPutback, h]

@[simp] theorem StockKept.serveClaims (h : StockKept s t.stores) (fuel : Nat) :
    StockKept s (t.serveClaims fuel).stores := by
  induction fuel generalizing t with
  | zero => exact h
  | succ n ih =>
    unfold Station.serveClaims
    split
    · exact h
    · split
      · exact ih (by simp [h])
      · exact h

@[simp] theorem StockKept.serveAudit (h : StockKept s t.stores) (byCarrier : Bool) (fuel : Nat) :
    StockKept s (t.serveAudit byCarrier fuel).stores := by
  induction fuel generalizing t with
  | zero => exact h
  | succ n ih =>
    unfold Station.serveAudit
    split
    · split
      · exact h
      · exact ih (StockKept.decision (StockKept.setRescan (h.addTask _) _ _))
    · exact h

@[simp] theorem StockKept.dropScans (h : StockKept s t.stores) : StockKept s t.dropScans.stores := by
  unfold Station.dropScans
  simp only [stores_mk, stores_eta]
  exact h.foldl (by simp) _

/-! #### Station Control -/

@[simp] theorem StockKept.markMismatch (h : StockKept s t.stores) : StockKept s t.markMismatch.stores := by
  simp [Station.markMismatch, h]

@[simp] theorem StockKept.enterHalted (h : StockKept s t.stores) : StockKept s t.enterHalted.stores := by
  simp [Station.enterHalted, h]

@[simp] theorem StockKept.haltFault (h : StockKept s t.stores) (f : StationFault) :
    StockKept s (t.haltFault f).stores := by
  unfold Station.haltFault
  dsimp only
  split
  · exact h
  · split <;> simp [h]
  · split <;> simp [h]
  · split <;> split <;> simp [h]

@[simp] theorem StockKept.resumeComplete (h : StockKept s t.stores) : StockKept s t.resumeComplete.stores := by
  simp only [Station.resumeComplete, statusTrigger_stores, requestFailed_stores]
  refine StockKept.foldl ?_ ?_ _
  · simp [h]
  · simp

@[simp] theorem StockKept.motionFailed (h : StockKept s t.stores) : StockKept s t.motionFailed.stores := by
  unfold Station.motionFailed
  split <;> simp [h]

@[simp] theorem StockKept.takeService (h : StockKept s t.stores) : StockKept s t.takeService.stores := by
  unfold Station.takeService
  split
  · split <;> simp [h]
  · exact h

@[simp] theorem StockKept.endService (h : StockKept s t.stores) : StockKept s t.endService.stores := by
  unfold Station.endService
  split
  · exact h
  · dsimp only
    split <;> simp [h]

@[simp] theorem StockKept.acknowledge (h : StockKept s t.stores) : StockKept s t.acknowledge.stores := by
  unfold Station.acknowledge
  split
  · dsimp only
    split <;> simp [h]
  · exact h

@[simp] theorem StockKept.withdrawal (h : StockKept s t.stores) : StockKept s t.withdrawal.stores := by
  simp [Station.withdrawal, h]

@[simp] theorem StockKept.setCounters (h : StockKept s t.stores) (tec recCtr : Nat) :
    StockKept s (t.setCounters tec recCtr).stores := by
  unfold Station.setCounters Station.standingChanged
  dsimp only
  split
  · simp [h]
  · split
    · exact h
    · split <;> simp [h]

@[simp] theorem StockKept.countErrors (h : StockKept s t.stores) (tec recCtr : Nat) :
    StockKept s (t.countErrors tec recCtr).stores := by
  unfold Station.countErrors
  split <;> simp [h]

@[simp] theorem StockKept.countSuccess (h : StockKept s t.stores) (r : Role) :
    StockKept s (t.countSuccess r).stores := by
  cases r <;> simp [Station.countSuccess, h]

@[simp] theorem StockKept.rejoined (h : StockKept s t.stores) : StockKept s t.rejoined.stores := by
  simp [Station.rejoined, h]

/-! #### The Audit Unit -/

@[simp] theorem StockKept.applyGrade (h : StockKept s t.stores) (a : BayAddr) (x : Graded) :
    StockKept s (t.applyGrade a x).stores := by
  unfold Station.applyGrade
  split
  · exact h
  · simp [h]
  · simp [h]
  · simp [h]
  · dsimp only
    split <;> simp [h]

@[simp] theorem StockKept.touchAudit (h : StockKept s t.stores) (a : BayAddr) (height : Nat) :
    StockKept s (t.touchAudit a height).stores := by
  unfold Station.touchAudit
  split
  · exact h
  · dsimp only
    split
    · simp [h]
    · simp [h]
    · simp [h]
    · simp [h]
    · split <;> simp [h]

@[simp] theorem StockKept.scanBegun (h : StockKept s t.stores) (c : Nat) : StockKept s (t.scanBegun c).stores :=
  h.updLocks c (f := fun k => { k with due := .none }) (fun _ => id) (fun _ => ⟨rfl, rfl⟩)

@[simp] theorem StockKept.scanReading (h : StockKept s t.stores) (a : BayAddr) (height : Nat) :
    StockKept s (t.scanReading a height).stores := by
  unfold Station.scanReading
  split <;> simp [h]

@[simp] theorem StockKept.scanComplete (h : StockKept s t.stores) (c : Nat) (p : Purpose) :
    StockKept s (t.scanComplete c p).stores := by
  unfold Station.scanComplete
  dsimp only
  split <;> simp [h]

@[simp] theorem StockKept.scanAbandoned (h : StockKept s t.stores) (c : Nat) :
    StockKept s (t.scanAbandoned c).stores := by
  simp [Station.scanAbandoned, h]

@[simp] theorem StockKept.idleExpired (h : StockKept s t.stores) : StockKept s t.idleExpired.stores :=
  StockKept.setDue h _ _

/-! #### The Face Controller -/

@[simp] theorem StockKept.timeoutFault (h : StockKept s t.stores) : StockKept s t.timeoutFault.stores := by
  unfold Station.timeoutFault
  split <;> simp [h]

@[simp] theorem StockKept.cycleTimedOut (h : StockKept s t.stores) (y : Task) (c : Cycle) :
    StockKept s (t.cycleTimedOut y c).stores := by
  simp [Station.cycleTimedOut, h]

@[simp] theorem StockKept.settleAbort (h : StockKept s t.stores) (p : PickStop) :
    StockKept s (t.settleAbort p).stores := by
  unfold Station.settleAbort
  split <;> simp [h]

@[simp] theorem StockKept.takeEnd (h : StockKept s t.stores) (y : Task) (p : PickStop) (c : Cycle) :
    StockKept s (t.takeEnd y p c).stores := by
  unfold Station.takeEnd
  dsimp only
  split
  · simp [h]
  · split <;> simp [h]

@[simp] theorem StockKept.storeEnd (h : StockKept s t.stores) (y : Task) (n : Nat) (a : BayAddr) (c : Cycle) :
    StockKept s (t.storeEnd y n a c).stores := by
  unfold Station.storeEnd
  dsimp only
  split
  · split <;> split <;> simp [h]
  · split
    · split <;> split <;> simp [h]
    · split <;> simp [h]

@[simp] theorem StockKept.returnEnd (h : StockKept s t.stores) (y : Task) (o : Nat) (d : Option BayAddr) (c : Cycle) :
    StockKept s (t.returnEnd y o d c).stores := by
  unfold Station.returnEnd
  split
  · simp [h]
  · dsimp only
    split <;> simp [h]

@[simp] theorem StockKept.cycleEnded (h : StockKept s t.stores) (c : Cycle) : StockKept s (t.cycleEnded c).stores := by
  unfold Station.cycleEnded
  dsimp only
  split
  · exact h
  · split <;> simp [h]

@[simp] theorem StockKept.readingEnded (h : StockKept s t.stores) (g : Reading) (height : Nat) :
    StockKept s (t.readingEnded g height).stores := by
  unfold Station.readingEnded
  dsimp only
  split
  · simp [h]
  · split
    · split <;> simp [h]
    · split
      · simp [h]
      · split <;> simp [h]

@[simp] theorem StockKept.laneTimedOut (h : StockKept s t.stores) : StockKept s t.laneTimedOut.stores := by
  unfold Station.laneTimedOut
  dsimp only
  split
  · split <;> simp [h]
  · simp [h]

@[simp] theorem StockKept.exitPulse (h : StockKept s t.stores) : StockKept s t.exitPulse.stores := by
  unfold Station.exitPulse
  split
  · dsimp only
    split
    · split <;> simp [h]
    · exact h
  · exact h

@[simp] theorem StockKept.faceCheck (h : StockKept s t.stores) (y : Task) : StockKept s (t.faceCheck y).stores := by
  unfold Station.faceCheck Station.scanStep
  split
  · simp [h]
  · simp [h]
  · simp [h]
  · split <;> simp [h]

@[simp] theorem StockKept.faceAdvance (h : StockKept s t.stores) : StockKept s t.faceAdvance.stores := by
  unfold Station.faceAdvance
  split
  · exact h
  · split
    · simp [h]
    · exact h
    · split <;> simp [h]
    · split <;> simp [h]
    · split <;> simp [h]
    · split <;> simp [h]

/-! #### The settling of an event -/

@[simp] theorem StockKept.serveLane (h : StockKept s t.stores) (old : Station) :
    StockKept s (t.serveLane old).stores := by
  have hbegun : StockKept s t.postReadies.beginPutback.stores := by simp [h]
  unfold Station.serveLane
  dsimp only
  refine StockKept.decideAfter (StockKept.servePutback ?_) _
  split <;> simp [hbegun]

@[simp] theorem StockKept.serveTasks (h : StockKept s t.stores) (old : Station) :
    StockKept s (t.serveTasks old).stores :=
  StockKept.serveAudit (StockKept.serveClaims (h.serveLane old) 24) _ 24

@[simp] theorem StockKept.settleRound (h : StockKept s t.stores) (old : Station) :
    StockKept s (t.settleRound old).stores := by
  have hface : StockKept s t.faceAdvance.resumeMove.acknowledge.stores := by simp [h]
  have hserved := hface.serveTasks old
  unfold Station.settleRound
  dsimp only
  split <;> simp [hserved]

theorem StockKept.settleRounds (h : StockKept s t.stores) (fuel : Nat) (old : Station) :
    StockKept s (settleRounds fuel old t).stores := by
  induction fuel generalizing old t with
  | zero => exact h
  | succ n ih =>
    rw [Machine.settleRounds]
    split
    · exact h
    · exact ih (h.settleRound old) t

@[simp] theorem StockKept.settle (h : StockKept s t.stores) (old : Station) : StockKept s (t.settle old).stores := by
  unfold Station.settle
  split
  · exact h.settleRounds 16 old
  · exact h

end
end Sys2Proof.Machine
end

section
/-! ### The commands keep the stock rules -/

namespace Sys2Proof.Machine

section
variable {s t : Station}

/-! #### The bus -/

theorem StockKept.startOpportunity (h : StockKept s t.stores) {f : Station → Station}
    (hf : ∀ u : Station, StockKept s u.stores → StockKept s (f u).stores) :
    StockKept s (t.startOpportunity f).stores := by
  unfold Station.startOpportunity
  split
  · dsimp only
    split
    · exact hf _ h
    · exact h
  · exact h

theorem takeOut_stores (s : Station) : s.takeOut.stores = s.stores := by
  unfold Station.takeOut
  split
  · rfl
  · split <;> rfl

theorem StockKept.resend (h : StockKept s t.stores) : StockKept s t.resend.stores := by
  unfold Station.resend
  split
  · exact h
  · split
    · unfold Station.claimNotSent
      dsimp only
      split <;> simp [h]
    · exact h

theorem loseArbitration_stores (s : Station) : s.loseArbitration.stores = s.stores := by
  unfold Station.loseArbitration
  split <;> rfl

@[simp] theorem noteSent_stores (s : Station) (p : Post) : (s.noteSent p).stores = s.stores := by
  unfold Station.noteSent
  split
  case h_1 => split <;> rfl
  all_goals rfl

@[simp] theorem afterSent_stores (s : Station) (p : Post) : (s.afterSent p).stores = s.stores := by
  unfold Station.afterSent
  split
  case h_1 =>
    split
    · split <;> simp
    · rfl
  case h_2 => simp
  all_goals rfl

@[simp] theorem appendFrame_stores (s : Station) (f : Frame) (r : Role) : (s.appendFrame f r).stores = s.stores := (rfl)

theorem StockKept.sentCompleted (h : StockKept s t.stores) (p : Post) : StockKept s (t.sentCompleted p).stores := by
  simp [Station.sentCompleted, h]

theorem StockKept.receivedCompleted (h : StockKept s t.stores) (f : Frame) :
    StockKept s (t.receivedCompleted f).stores := by
  simp [Station.receivedCompleted, h]

theorem StockKept.signalError (h : StockKept s t.stores) (r : Role) (e : BusError) (tec recCtr : Nat) :
    StockKept s (t.signalError r e tec recCtr).stores := by
  simp [Station.signalError, h]

theorem signalAgain_stores (s : Station) : s.signalAgain.stores = s.stores := by
  unfold Station.signalAgain
  split <;> rfl

theorem StockKept.dominantRun (h : StockKept s t.stores) (r : Role) : StockKept s (t.dominantRun r).stores := by
  cases r <;> simp [Station.dominantRun, h]

/-! #### The face -/

theorem approachEnded_stores (s : Station) : s.approachEnded.stores = s.stores := by
  unfold Station.approachEnded
  split
  · split <;> rfl
  · rfl

theorem engageMinimumEnded_stores (s : Station) : s.engageMinimumEnded.stores = s.stores := by
  unfold Station.engageMinimumEnded
  split
  · split_ifs <;> rfl
  · rfl

theorem busyCleared_stores (s : Station) : s.busyCleared.stores = s.stores := by
  unfold Station.busyCleared
  split
  · split <;> rfl
  · rfl

theorem extensionEnded_stores (s : Station) : s.extensionEnded.stores = s.stores := by
  unfold Station.extensionEnded
  split
  · split <;> rfl
  · rfl

theorem StockKept.withdrawEnded (h : StockKept s t.stores) : StockKept s t.withdrawEnded.stores := by
  unfold Station.withdrawEnded
  split
  · split <;> simp [h]
  · exact h

theorem headCleared_stores (s : Station) : s.headCleared.stores = s.stores := by
  unfold Station.headCleared
  split <;> rfl

theorem headAsserted_stores (s : Station) : s.headAsserted.stores = s.stores := by
  unfold Station.headAsserted
  split <;> rfl

theorem StockKept.laneExpired (h : StockKept s t.stores) : StockKept s t.laneExpired.stores := by
  unfold Station.laneExpired
  split <;> simp [h]

theorem infeedFell_stores (s : Station) : s.infeedFell.stores = s.stores := by
  unfold Station.infeedFell
  split <;> simp

theorem StockKept.gaugeAnswered (h : StockKept s t.stores) (height : Nat) :
    StockKept s (t.gaugeAnswered height).stores := by
  unfold Station.gaugeAnswered
  split <;> simp [h]

theorem StockKept.gaugeTimedOut (h : StockKept s t.stores) : StockKept s t.gaugeTimedOut.stores := by
  unfold Station.gaugeTimedOut
  split
  · split <;> simp [h]
  · exact h

/-! #### Motion -/

theorem endDwell_stores (s : Station) : s.endDwell.stores = s.stores := by
  unfold Station.endDwell
  split
  · split <;> rfl
  · rfl

theorem StockKept.motionExpired (h : StockKept s t.stores) : StockKept s t.motionExpired.stores := by
  unfold Station.motionExpired
  split
  · split <;> simp [h]
  · exact h

theorem StockKept.indexPulse (h : StockKept s t.stores) : StockKept s t.indexPulse.stores := by
  unfold Station.indexPulse
  split
  · exact h
  · dsimp only
    split <;> simp [h]

theorem StockKept.homePulse (h : StockKept s t.stores) : StockKept s t.homePulse.stores := by
  unfold Station.homePulse Station.homeFound
  split
  · split <;> exact h
  · split <;> simp [h]

theorem StockKept.homeCheckDone (h : StockKept s t.stores) : StockKept s t.homeCheckDone.stores := by
  unfold Station.homeCheckDone
  dsimp only
  split
  · exact h
  · split
    · exact StockKept.resumeComplete h
    · exact h

theorem StockKept.taskMoveDone (h : StockKept s t.stores) (m : Move) (id : Nat) :
    StockKept s (t.taskMoveDone m id).stores := by
  unfold Station.taskMoveDone
  dsimp only
  split
  · simp [h]
  · split
    · exact h
    · split
      · exact h
      · split <;> simp [h]

theorem StockKept.inPosition (h : StockKept s t.stores) : StockKept s t.inPosition.stores := by
  unfold Station.inPosition
  split
  · exact h
  · split
    · split
      · exact h.homeCheckDone
      · exact h
    · exact h.taskMoveDone _ _

/-! #### Notices -/

theorem StockKept.takeNotice (h : StockKept s t.stores) (k : Kind) (test : List Byte → Bool)
    {f : Frame → Station → Station} (hf : ∀ x (u : Station), StockKept s u.stores → StockKept s (f x u).stores) :
    StockKept s (t.takeNotice k test f).stores := by
  unfold Station.takeNotice
  split
  · split
    · exact hf _ _ h
    · exact h
  · exact h

theorem StockKept.hearLineOffer (h : StockKept s t.stores) (p : List Byte) :
    StockKept s (t.hearLineOffer p).stores := by
  unfold Station.hearLineOffer
  dsimp only
  split <;> simp [h]

theorem StockKept.hearPutawayOffer (h : StockKept s t.stores) (p : List Byte) :
    StockKept s (t.hearPutawayOffer p).stores := by
  have hweek : StockKept s (t.hearWeek (payloadField p 10 2)).stores := h
  unfold Station.hearPutawayOffer
  dsimp only
  split
  · exact hweek.bidPutaway _ _ _ _
  · exact hweek

theorem StockKept.putEach (h : StockKept s t.stores) (cs : List Nat) {r : Reason} {v : Bool}
    (hr : r ≠ .retired ∨ v = true) : StockKept s (t.putEach cs r v).stores :=
  h.foldl (fun u c => (StockKept.refl u).putReason c hr) cs

theorem StockKept.takeSetCount (h : StockKept s t.stores) (p : List Byte) : StockKept s (t.takeSetCount p).stores := by
  unfold Station.takeSetCount
  dsimp only
  split <;> simp [h]

theorem takeResume_stores (s : Station) (p : List Byte) : (s.takeResume p).stores = s.stores := by
  unfold Station.takeResume
  split <;> rfl

theorem StockKept.requestEach (h : StockKept s t.stores) (cs : List Nat) : StockKept s (t.requestEach cs).stores :=
  h.foldl (by simp) cs

/-! #### Retained writes -/

theorem completed_faultRule {w w' : WriteState CarrierImage} {v present : CarrierImage} (hw : w.FaultRule)
    (hpresent : present.FaultRule) (h : w.completed present = some (v, w')) : v.FaultRule ∧ w'.FaultRule := by
  cases w with
  | idle => cases h
  | writing v =>
    cases h
    exact ⟨hw, trivial⟩
  | writingNewerWaiting v =>
    cases h
    exact ⟨hw, hpresent⟩

/-- A write that completes puts into the retained memory values that a carrier had (R19, R32). -/
theorem StockKept.completeWrite_carrier (s : Station) (c : Nat) :
    StockKept s (s.completeWrite (.carrier c)).stores := by
  cases hk : s.carrier? c with
  | none => simp [Station.completeWrite, hk]
  | some k =>
    cases hw : k.write.completed k.image with
    | none => simp [Station.completeWrite, hk, hw]
    | some vw =>
      have hmem : k ∈ s.smap.carriers := List.mem_of_getElem? hk
      have hcarriers : ∀ j ∈ (s.smap.carriers.modify c fun k => { k with write := vw.2 }),
          j ∈ s.smap.carriers ∨ j = { k with write := vw.2 } := by
        intro j hj
        rw [List.modify_eq_set_getElem?, show s.smap.carriers[c]? = some k from hk] at hj
        exact List.mem_or_eq_of_mem_set hj
      simp only [Station.completeWrite, hk, Option.bind_some, hw]
      refine stockKept_iff.mpr ⟨fun hs => ?_, fun hs j hj => ?_⟩
      · obtain ⟨hfault, hwrite⟩ := hs.1 k hmem
        obtain ⟨hv, hw'⟩ := completed_faultRule hwrite (image_faultRule ⟨hfault, hwrite⟩) hw
        refine ⟨fun j hj => ?_, fun r hr => ?_⟩
        · rcases hcarriers j hj with hj | rfl
          · exact hs.1 j hj
          · exact ⟨hfault, hw'⟩
        · rcases List.mem_or_eq_of_mem_set hr with hr | rfl
          · exact hs.2 r hr
          · exact hv
      · rcases hcarriers j hj with hj | rfl
        · exact hs j hj
        · exact hs k hmem

theorem StockKept.completeWrite (s : Station) (r : RetainedId) : StockKept s (s.completeWrite r).stores := by
  cases r with
  | carrier c => exact StockKept.completeWrite_carrier s c
  | article slot =>
    unfold Station.completeWrite
    dsimp only
    split
    · exact stockKept_iff.mpr ⟨id, id⟩
    · exact .refl s

theorem holdExpires_stores (s : Station) (e : OrderEntry) : (s.holdExpires e).stores = s.stores := by
  simp [Station.holdExpires]

/-! #### Power, RESET and start -/

theorem mem_abandonList {α : Type} {ws : List (WriteState α)} {rs : List (Stored α)} {r : Stored α}
    (h : r ∈ abandonList ws rs) : r ∈ rs ∨ r = .failed := by
  induction rs generalizing ws with
  | nil => cases ws <;> simp [abandonList] at h
  | cons r' rs ih =>
    cases ws with
    | nil => exact .inl h
    | cons w ws =>
      rcases List.mem_cons.mp h with rfl | h
      · cases w <;> simp [abandonOne]
      · rcases ih h with h | h
        · exact .inl (List.mem_cons_of_mem _ h)
        · exact .inr h

/-- A station at step 1 of start has no carrier; its retained memory is what a station left (R20). -/
theorem StockKept.atStart (power : Power) {r : Retained} (pins : Pins)
    (hr : ∀ x ∈ r.carriers, x ∈ s.retained.carriers ∨ x = .failed) :
    StockKept s (Station.atStart power r pins).stores := by
  refine stockKept_iff.mpr ⟨fun hs => ⟨fun _ hk => absurd hk List.not_mem_nil, fun x hx => ?_⟩,
    fun _ _ hk => absurd hk List.not_mem_nil⟩
  rcases hr x hx with hx | rfl
  · exact hs.2 x hx
  · trivial

theorem mem_abandonWrites {x : Stored CarrierImage} (hx : x ∈ s.abandonWrites.carriers) :
    x ∈ s.retained.carriers ∨ x = .failed :=
  mem_abandonList hx

theorem mem_retainedLeft {x : Stored CarrierImage} (hx : x ∈ s.retainedLeft.carriers) :
    x ∈ s.retained.carriers ∨ x = .failed := by
  unfold Station.retainedLeft at hx
  split at hx
  · exact mem_abandonWrites hx
  · exact .inl hx

/-- A carrier of the load has the fault count of its record, or 0 (R37). -/
theorem loadCarriers_faultRule {trusted : Bool} {m : Smap} {cfg : Config} {recs : List (Stored CarrierImage)}
    (h : ∀ r ∈ recs, r.FaultRule) : ∀ k ∈ loadCarriers trusted m cfg recs, k.FaultRule := by
  intro k hk
  obtain ⟨r, hr, rfl⟩ := List.mem_map.mp hk
  have hrule := h r (List.mem_of_mem_take hr)
  split
  · rename_i x hx
    have hgood : r = .good x := by
      cases r with
      | failed => cases hx
      | good y => rw [((trustedImage_good_eq_some_iff _ _ _ _ _).mp hx).1]
    rw [hgood] at hrule
    unfold Carrier.dropAtLoad
    dsimp only
    split
    · exact ⟨hrule, trivial⟩
    · exact ⟨hrule, hrule⟩
  · exact ⟨⟨Nat.zero_le 3, nofun⟩, ⟨Nat.zero_le 3, nofun⟩⟩

/-- A bay of a trusted record is within its bounds, with nothing reserved and nothing incoming (R21 step 3). -/
theorem bayImage_bay_bayBounds {z : BayImage} (h : z.trusted s.smap s.cfg.h = true) : s.bayBounds z.bay = true := by
  unfold BayImage.trusted at h
  cases hz : z.binding with
  | none => exact (bayBounds_of_unbound hz).trans (by simp [BayImage.bay, Bay.idle, hz])
  | some x =>
    obtain ⟨a, ha, hcount⟩ : ∃ a, s.smap.article? x.article = some a ∧ z.count ≤ capB s.cfg.h a.pitch := by
      simpa [hz, Option.any_eq_true] using h
    refine (bayBounds_iff_of_bound hz).mpr ⟨Nat.zero_le _, a, ha, ?_⟩
    simpa [BayImage.bay, hz] using hcount

theorem dropAtLoad_bays (k : Carrier) : k.dropAtLoad.bays = dropIdle k.bays := by
  unfold Carrier.dropAtLoad
  dsimp only
  split <;> rfl

/-- The carriers as they are read lie within their bounds, whatever the station had before. -/
theorem withRecordsRead_bayRule (s : Station) : s.withRecordsRead.BayRule := by
  intro k hk b hb
  obtain ⟨r, -, rfl⟩ := List.mem_map.mp hk
  split at hb
  · rename_i x hx
    obtain ⟨hgood, htrusted⟩ : r = .good x ∧ ∀ z ∈ x.bays, z.trusted s.recordsRead s.cfg.h = true := by
      cases r with
      | failed => cases hx
      | good y =>
        obtain ⟨rfl, -, -, hbays⟩ := (trustedImage_good_eq_some_iff _ _ _ _ _).mp hx
        exact ⟨rfl, hbays⟩
    rw [dropAtLoad_bays] at hb
    refine dropIdle_bayBounds (fun b hb => ?_) b hb
    obtain ⟨z, hz, rfl⟩ := List.mem_map.mp hb
    exact bayImage_bay_bayBounds (s := s.withRecordsRead) (htrusted z hz)
  · rw [List.eq_of_mem_replicate hb]
    rfl

/-- The rest of the load removes entries that no bay is bound to, and computes the masses. -/
theorem StockKept.retainedLoad (s : Station) : StockKept s.withRecordsRead s.retainedLoad.stores := by
  have htested : StockKept s.withRecordsRead s.withEntriesTested.stores := (StockKept.refl _).foldl (by simp) _
  refine htested.trans (stockKept_iff.mpr ⟨fun hs => ⟨fun k hk => ?_, hs.2⟩, fun hs k hk => ?_⟩)
  · obtain ⟨j, hj, rfl⟩ := List.mem_map.mp hk
    exact hs.1 j hj
  · obtain ⟨j, hj, rfl⟩ := List.mem_map.mp hk
    exact hs j hj

theorem retainedLoad_faultCounts (h : ∀ r ∈ s.retained.carriers, r.FaultRule) : s.retainedLoad.FaultCounts :=
  (stockKept_iff.mp (StockKept.retainedLoad s)).1 ⟨loadCarriers_faultRule h, h⟩

theorem retainedLoad_bayRule (s : Station) : s.retainedLoad.BayRule :=
  (stockKept_iff.mp (StockKept.retainedLoad s)).2 (withRecordsRead_bayRule s)

theorem endLaneWait_stores (s : Station) : s.endLaneWait.stores = s.stores := by
  unfold Station.endLaneWait
  split <;> rfl

theorem endSweep_stores (s : Station) : s.endSweep.stores = s.stores := by
  unfold Station.endSweep
  split <;> rfl

/-- Step 1 of start makes the Stock Map anew under the values it has read, within its bounds by the load (R186, R21). -/
theorem StockKept.configured (s : Station) (read : ConfigRead) : StockKept s (s.configured read).stores := by
  have hload : StockKept s (({ s with cfg := read.clamped } : Station).retainedLoad).stores :=
    stockKept_iff.mpr ⟨fun hs => retainedLoad_faultCounts hs.2, fun _ => retainedLoad_bayRule _⟩
  unfold Station.configured
  dsimp only
  rw [endLaneWait_stores]
  exact hload

theorem StockKept.startEnds (h : StockKept s t.stores) : StockKept s t.startEnds.stores := by
  unfold Station.startEnds
  dsimp only
  split <;> split <;> split <;> simp [h]

end
end Sys2Proof.Machine
end

section
/-! ### Every step keeps the fault counts and the bounds of the bays -/

namespace Sys2Proof.Machine

section
variable {x : Station} {q : List Instr} {t : State}

theorem whenOn_stockKept {s y : Station} {f : Station → Station} (h : StockKept s y.stores)
    (hf : StockKept s (f y).stores) : StockKept s (y.whenOn f).stores := by
  unfold Station.whenOn
  split
  · exact hf
  · exact h

theorem whenJoined_stockKept {s y : Station} {f : Station → Station} (h : StockKept s y.stores)
    (hf : StockKept s (f y).stores) : StockKept s (y.whenJoined f).stores := by
  unfold Station.whenJoined
  split
  · exact hf
  · exact h

/-- What follows within the event of a command keeps the rules that the command's own change keeps. -/
theorem answer_stockKept {f : Station → Station} (h : State.answer ⟨x, q⟩ f = .next t)
    (hf : StockKept x (f x).stores) : StockKept x t.station.stores := by
  cases h
  exact hf.settle x

/-- A command of a powered station. -/
theorem powered_stockKept {f : Station → Station} (h : State.answer ⟨x, q⟩ (fun y => y.whenOn f) = .next t)
    (hf : StockKept x (f x).stores) : StockKept x t.station.stores :=
  answer_stockKept h (whenOn_stockKept (.refl x) hf)

/-- A command of a station on the bus. -/
theorem joined_stockKept {f : Station → Station} (h : State.answer ⟨x, q⟩ (fun y => y.whenJoined f) = .next t)
    (hf : StockKept x (f x).stores) : StockKept x t.station.stores :=
  answer_stockKept h (whenJoined_stockKept (.refl x) hf)

/-- A command of a station on the bus whose own change leaves the stock alone. -/
theorem joined_stores {f : Station → Station} (h : State.answer ⟨x, q⟩ (fun y => y.whenJoined f) = .next t)
    (hf : ∀ s, (f s).stores = s.stores) : StockKept x t.station.stores :=
  joined_stockKept h (by simp [hf])

/-- A command that takes the level of an input line, and acts on a powered station. -/
theorem poweredLine_stockKept {g : Station → Pins} {f : Station → Station}
    (h : State.answer ⟨x, q⟩ (fun y => ({ y with pins := g y } : Station).whenOn f) = .next t)
    (hf : ∀ s, StockKept s (f s).stores) : StockKept x t.station.stores :=
  answer_stockKept h (whenOn_stockKept (.refl x) (hf { x with pins := g x }))

/-- A command that takes the level of an input line, and acts on a station on the bus. -/
theorem line_stockKept {g : Station → Pins} {f : Station → Station}
    (h : State.answer ⟨x, q⟩ (fun y => ({ y with pins := g y } : Station).whenJoined f) = .next t)
    (hf : ∀ s, StockKept s (f s).stores) : StockKept x t.station.stores :=
  answer_stockKept h (whenJoined_stockKept (.refl x) (hf { x with pins := g x }))

/-- A command that takes the level of an input line, and leaves the stock alone. -/
theorem line_stores {g : Station → Pins} {f : Station → Station}
    (h : State.answer ⟨x, q⟩ (fun y => ({ y with pins := g y } : Station).whenJoined f) = .next t)
    (hf : ∀ s, (f s).stores = s.stores) : StockKept x t.station.stores :=
  line_stockKept h (fun s => by simp [hf])

/-- A command that takes a notice. -/
theorem notice_stockKept {k : Kind} {test : List Byte → Bool} {f : Frame → Station → Station}
    (h : State.answer ⟨x, q⟩ (fun y => y.whenJoined (fun y => y.takeNotice k test f)) = .next t)
    (hf : ∀ n (u : Station), StockKept x u.stores → StockKept x (f n u).stores) : StockKept x t.station.stores :=
  joined_stockKept h ((StockKept.refl x).takeNotice k test hf)

theorem configReadEnd_stockKept (read : ConfigRead) (h : exec (.configReadEnd read) ⟨x, q⟩ = .next t) :
    StockKept x t.station.stores := by
  refine powered_stockKept h ?_
  split
  · split
    · exact .refl x
    · exact .configured x read
  · exact .refl x

theorem join_stockKept (occupied : Bool) (h : exec (.join occupied) ⟨x, q⟩ = .next t) :
    StockKept x t.station.stores := by
  refine powered_stockKept h ?_
  split
  · exact StockKept.startEnds (.refl x)
  · exact .refl x

theorem resetRelease_stockKept (h : exec .resetRelease ⟨x, q⟩ = .next t) : StockKept x t.station.stores := by
  unfold exec execResetRelease at h
  refine answer_stockKept h ?_
  dsimp only
  split
  · exact .atStart _ _ (fun _ => .inl)
  · exact .refl x

theorem frameCompleted_stockKept (bits : List Bool) (h : exec (.frameCompleted bits) ⟨x, q⟩ = .next t) :
    StockKept x t.station.stores := by
  refine joined_stockKept h ?_
  split
  · split
    · exact (StockKept.refl x).sentCompleted _
    · split
      · exact (StockKept.refl x).receivedCompleted _
      · exact .refl x
  · exact .refl x

theorem frameError_stockKept (error : BusError) (h : exec (.frameError error) ⟨x, q⟩ = .next t) :
    StockKept x t.station.stores := by
  refine joined_stockKept h ?_
  split
  · split
    · simp [signalAgain_stores]
    · split
      · exact (StockKept.refl x).signalError _ _ _ _
      · exact .refl x
  · exact .refl x

theorem rejoin_stockKept (stretches : List Nat) (h : exec (.rejoin stretches) ⟨x, q⟩ = .next t) :
    StockKept x t.station.stores := by
  refine joined_stockKept h ?_
  split
  · dsimp only
    split <;> simp
  · exact .refl x

/-- Every command keeps the rule of the fault counts and the rule of the bays. -/
theorem exec_stockKept (c : Instr) (h : exec c ⟨x, q⟩ = .next t) : StockKept x t.station.stores := by
  cases c with
  | powerUp =>
    unfold exec execPowerUp at h
    exact answer_stockKept h (.atStart _ _ (fun _ => mem_retainedLeft))
  | powerLoss =>
    unfold exec execPowerLoss at h
    exact answer_stockKept h (.atStart _ _ (fun _ => mem_retainedLeft))
  | resetAssert =>
    refine poweredLine_stockKept (g := fun y => { y.pins with reset := true }) h (fun s => ?_)
    exact .atStart _ _ (fun _ => mem_abandonWrites)
  | resetRelease => exact resetRelease_stockKept h
  | configReadEnd read => exact configReadEnd_stockKept read h
  | laneClearAsserted =>
    refine poweredLine_stockKept (g := fun y => { y.pins with laneClear := true }) h (fun s => ?_)
    rw [endSweep_stores, endLaneWait_stores]
    exact .refl s
  | laneClearFall =>
    exact answer_stockKept (f := fun y => { y with pins := { y.pins with laneClear := false } }) h (.refl x)
  | join occupied => exact join_stockKept occupied h
  | motionTimerExpiry => exact powered_stockKept h (StockKept.refl x).motionExpired
  | index => exact powered_stockKept h (StockKept.refl x).indexPulse
  | home => exact powered_stockKept h (StockKept.refl x).homePulse
  | inPos => exact powered_stockKept h (StockKept.refl x).inPosition
  | retainedWriteComplete r => exact powered_stockKept h (.completeWrite x r)
  | takeOut =>
    refine joined_stockKept h ((StockKept.refl x).startOpportunity (fun u hu => ?_))
    rwa [takeOut_stores]
  | frameResend => exact joined_stockKept h ((StockKept.refl x).startOpportunity (fun _ hu => hu.resend))
  | arbitrationLost => exact joined_stores h loseArbitration_stores
  | frameCompleted bits => exact frameCompleted_stockKept bits h
  | frameError error => exact frameError_stockKept error h
  | dominantRun16 =>
    refine joined_stockKept h ?_
    split
    · exact .refl x
    · exact (StockKept.refl x).dominantRun _
  | delaySignal heard => exact joined_stores h (fun s => by dsimp only; split <;> rfl)
  | rejoin stretches => exact rejoin_stockKept stretches h
  | elevenRecessiveBitsAfterRejoin => exact joined_stores h (fun s => by split <;> rfl)
  | noticeRejected => exact joined_stores h (fun s => by split <;> rfl)
  | statusFrameDiscarded => exact joined_stores h (fun s => by split <;> rfl)
  | abnTaken => exact notice_stockKept h (fun _ _ hu => hu.hearAbandon _)
  | rdyTaken => exact notice_stockKept h (fun _ _ hu => hu.hearReady _ _ _)
  | clsTaken => exact notice_stockKept h (fun _ _ hu => hu.hearClose _ _)
  | clmTaken => exact notice_stockKept h (fun _ _ hu => hu.hearClaim _ _)
  | opnTaken => exact notice_stockKept h (fun n u hu => StockKept.openOrder (t := u.hearWeek _) hu _ _)
  | lofTaken => exact notice_stockKept h (fun _ _ hu => hu.hearLineOffer _)
  | pofTaken => exact notice_stockKept h (fun _ _ hu => hu.hearPutawayOffer _)
  | cctHold => exact notice_stockKept h (fun _ _ hu => hu.putEach _ (.inr rfl))
  | cctUnhold => exact notice_stockKept h (fun _ _ hu => hu.putEach _ (.inl nofun))
  | cctHoldAll => exact notice_stockKept h (fun _ _ hu => hu.putEach _ (.inr rfl))
  | cctUnholdAll => exact notice_stockKept h (fun _ _ hu => hu.putEach _ (.inl nofun))
  | cctRetire => exact notice_stockKept h (fun _ _ hu => hu.putEach _ (.inr rfl))
  | cctUnretire => exact notice_stockKept h (fun _ _ hu => hu.foldl (by simp) _)
  | cctClearQuarantine => exact notice_stockKept h (fun _ _ hu => hu.putEach _ (.inl nofun))
  | cctSetCount => exact notice_stockKept h (fun _ _ hu => hu.takeSetCount _)
  | sctResume => exact notice_stockKept h (fun _ _ hu => by simpa [takeResume_stores] using hu)
  | arqByRange => exact notice_stockKept h (fun _ _ hu => hu.requestEach _)
  | arqByArticle => exact notice_stockKept h (fun _ _ hu => hu.requestEach _)
  | sqyTaken => exact notice_stockKept h (fun _ _ hu => by split <;> simpa using hu)
  | claimWindowExpiry round =>
    refine joined_stockKept h ?_
    split
    · split <;> simp
    · exact .refl x
  | infeedTimeout putaway =>
    refine joined_stockKept h ?_
    split
    · split <;> simp
    · exact .refl x
  | holdTimerExpiry order =>
    refine joined_stores h (fun s => ?_)
    split
    · split
      · exact holdExpires_stores s _
      · rfl
    · rfl
  | idleTimerExpiry =>
    refine joined_stockKept h ?_
    split <;> simp
  | reversalDwellExpiry => exact joined_stores h endDwell_stores
  | approachEnd => exact joined_stores h approachEnded_stores
  | engageMinimumEnd busy =>
    refine joined_stores h (fun s => (engageMinimumEnded_stores _).trans ?_)
    rfl
  | extBusyClear => exact line_stores (g := fun y => { y.pins with extBusy := false }) h busyCleared_stores
  | extensionMaximumExpiry => exact joined_stores h extensionEnded_stores
  | cycleEnd occupied =>
    refine joined_stockKept h (StockKept.withdrawEnded ?_)
    exact .refl x
  | headOccClear => exact line_stores (g := fun y => { y.pins with headOcc := false }) h headCleared_stores
  | headOccAsserted => exact line_stores (g := fun y => { y.pins with headOcc := true }) h headAsserted_stores
  | laneTimerExpiry => exact joined_stockKept h (StockKept.refl x).laneExpired
  | laneExitPulse => exact joined_stockKept h (StockKept.refl x).exitPulse
  | infeedArrival => exact line_stores (g := fun y => { y.pins with infeedOcc := true }) h arrival_stores
  | infeedOccFall => exact line_stores (g := fun y => { y.pins with infeedOcc := false }) h infeedFell_stores
  | gaugeAnswer height => exact joined_stockKept h ((StockKept.refl x).gaugeAnswered _)
  | gaugeReadTimeout => exact joined_stockKept h (StockKept.refl x).gaugeTimedOut
  | svcReqRise =>
    exact line_stockKept (g := fun y => { y.pins with svcReq := true }) h (fun s => (StockKept.refl s).takeService)
  | svcReqFall =>
    exact line_stockKept (g := fun y => { y.pins with svcReq := false }) h (fun s => (StockKept.refl s).endService)

end

/-- Settles O59: no command, and nothing that follows it, breaks either rule; the idle tick leaves the stock alone. -/
theorem stepKeepsFaultCounts : Obligations.StepKeepsFaultCounts := by
  rintro ⟨x, q⟩ t h
  cases q with
  | nil =>
    cases h
    exact stockKept_iff.mp (whenOn_stockKept (.refl x) (.refl x))
  | cons c rest => exact stockKept_iff.mp (exec_stockKept c h)

end Sys2Proof.Machine
end

section
/-! ### Carrier control: one reason on the carriers acted on, UNRETIRE, SET_COUNT (R33 to R36) -/

namespace Sys2Proof.Machine

/-! #### A notice taken, and what the station then holds -/

/-- The station with its queue of frames received shortened (R73). -/
def Station.withQueue (s : Station) (rest : List Frame) : Station := { s with bus := { s.bus with rxq := rest } }

@[simp] theorem withQueue_smap (s : Station) (rest : List Frame) : (s.withQueue rest).smap = s.smap := rfl
@[simp] theorem withQueue_cfg (s : Station) (rest : List Frame) : (s.withQueue rest).cfg = s.cfg := rfl

/-- A station on the bus takes a notice of its kind at the head of the queue; what is tied to the event follows. -/
theorem answer_notice {x : Station} (q : List Instr) {f : Frame} {rest : List Frame} {k : Kind}
    {test : List Byte → Bool} {g : Frame → Station → Station} (hx : x.live) (hq : x.bus.rxq = f :: rest) (hf : f.accepted = some k)
    (ht : test f.payload = true) :
    State.answer ⟨x, q⟩ (fun y => y.whenJoined (fun y => y.takeNotice k test g)) =
      .next ⟨(g f (x.withQueue rest)).settle x, q⟩ := by
  unfold State.answer
  dsimp only
  rw [whenJoined_of_live hx, takeNotice_of_accepted test g hq hf ht]
  rfl

/-- A notice that changes the Stock Map alone leaves the view, but for the queue and the stock. -/
theorem settle_view_of_onlySmap {x u : Station} {rest : List Frame} (h : OnlySmap (x.withQueue rest) u) :
    (u.settle x).view =
      { x.view with bus := { x.view.bus with rxq := rest }, stock := (u.settle x).view.stock } := by
  rw [settle_view, h.view]
  rfl

/-- What follows within an event leaves the stock of each carrier. -/
theorem settle_stock (u old : Station) (c : Nat) :
    ((u.settle old).smap.carriers[c]?).map Carrier.stock = (u.smap.carriers[c]?).map Carrier.stock := by
  have hstock : (u.settle old).smap.carriers.map Carrier.stock = u.smap.carriers.map Carrier.stock :=
    congrArg View.stock (settle_view u old)
  rw [← List.getElem?_map, hstock, List.getElem?_map]

theorem settle_carriers_length (u old : Station) :
    (u.settle old).smap.carriers.length = u.smap.carriers.length := by
  have hstock : (u.settle old).smap.carriers.map Carrier.stock = u.smap.carriers.map Carrier.stock :=
    congrArg View.stock (settle_view u old)
  simpa using congrArg List.length hstock

/-! #### One reason in the stock of a carrier -/

/-- A reason in the stock of a carrier; AUDIT and TOUCHED are no part of it. -/
def Stock.has (x : Stock) : Reason → Bool
  | .unverified => x.unverified
  | .quarantine => x.quarantine
  | .held => x.held
  | .retired => x.retired
  | .audit | .touched => false

/-- One reason of the stock set or cleared. -/
def Stock.put (x : Stock) (r : Reason) (v : Bool) : Stock :=
  match r with
  | .unverified => { x with unverified := v }
  | .quarantine => { x with quarantine := v }
  | .held => { x with held := v }
  | .retired => { x with retired := v }
  | .audit | .touched => x

theorem stock_eq_iff (k : Carrier) (x : Stock) :
    k.stock = x ↔ k.locks.unverified = x.unverified ∧ k.locks.quarantine = x.quarantine ∧ k.locks.held = x.held
      ∧ k.locks.retired = x.retired ∧ k.faults = x.faults
      ∧ k.bays.map (fun b => (b.count, b.reserved)) = x.bays := by
  cases x
  exact Stock.mk.injEq .. ▸ Iff.rfl

theorem stock_has {k : Carrier} {r : Reason} (ha : r ≠ .audit) (ht : r ≠ .touched) :
    k.stock.has r = k.locks.has r := by
  cases r with
  | audit => exact absurd rfl ha
  | touched => exact absurd rfl ht
  | _ => rfl

theorem stock_put (k : Carrier) (r : Reason) (v : Bool) :
    ({ k with locks := k.locks.put r v } : Carrier).stock = k.stock.put r v := by
  cases r <;> rfl

theorem put_put (x : Stock) (r : Reason) (v : Bool) : (x.put r v).put r v = x.put r v := by
  cases r <;> rfl

theorem put_has {r r' : Reason} (x : Stock) (v : Bool) (ha : r ≠ .audit) (ht : r ≠ .touched) :
    (x.put r v).has r' = if r' = r then v else x.has r' := by
  cases r with
  | audit => exact absurd rfl ha
  | touched => exact absurd rfl ht
  | _ => cases r' <;> rfl

theorem put_faults (x : Stock) (r : Reason) (v : Bool) : (x.put r v).faults = x.faults := by
  cases r <;> rfl

theorem put_bays (x : Stock) (r : Reason) (v : Bool) : (x.put r v).bays = x.bays := by
  cases r <;> rfl

/-! #### One change on each of a list of carriers -/

theorem updCarrier_stock (s : Station) {f : Carrier → Carrier} {g : Stock → Stock}
    (hfg : ∀ k, (f k).stock = g k.stock) (c d : Nat) :
    ((s.updCarrier d f).smap.carriers[c]?).map Carrier.stock =
      ((s.smap.carriers[c]?).map Carrier.stock).map (fun x => if c = d then g x else x) := by
  simp only [Station.updCarrier, List.getElem?_modify]
  cases s.smap.carriers[c]? with
  | none => rfl
  | some k =>
    by_cases hc : d = c
    · by_cases himage : (f k).image = k.image
      · simp [hc, himage, hfg]
      · have hwrite : ∀ w, ({ f k with write := w } : Carrier).stock = g k.stock := fun _ => hfg k
        simp [hc, himage, hwrite]
    · simp [hc, Ne.symm hc]

/-- A change that a second one does not change any more is made once on each carrier of the list. -/
theorem foldl_updCarrier_stock {f : Carrier → Carrier} {g : Stock → Stock} (hfg : ∀ k, (f k).stock = g k.stock)
    (hg : ∀ x, g (g x) = g x) (cs : List Nat) (s : Station) (c : Nat) :
    ((cs.foldl (fun t d => t.updCarrier d f) s).smap.carriers[c]?).map Carrier.stock =
      ((s.smap.carriers[c]?).map Carrier.stock).map (fun x => if c ∈ cs then g x else x) := by
  induction cs generalizing s with
  | nil =>
    rw [List.foldl_nil]
    cases s.smap.carriers[c]? <;> rfl
  | cons d cs ih =>
    rw [List.foldl_cons, ih, updCarrier_stock s hfg, Option.map_map]
    refine Option.map_congr fun x _ => ?_
    by_cases hd : c = d
    · subst hd
      by_cases hc : c ∈ cs <;> simp [hc, hg]
    · simp [hd]

theorem foldl_updCarrier_length (f : Carrier → Carrier) (cs : List Nat) (s : Station) :
    (cs.foldl (fun t d => t.updCarrier d f) s).smap.carriers.length = s.smap.carriers.length := by
  induction cs generalizing s with
  | nil => rfl
  | cons d cs ih =>
    rw [List.foldl_cons, ih]
    simp [Station.updCarrier]

theorem foldl_updCarrier_onlySmap (f : Carrier → Carrier) (cs : List Nat) (s : Station) :
    OnlySmap s (cs.foldl (fun t d => t.updCarrier d f) s) :=
  foldl_onlySmap (fun t d => t.updCarrier d f) (fun _ _ => rfl) cs s

/-- A carrier after such a change of a list of carriers, and after what follows within the event. -/
theorem settle_foldl_updCarrier {x : Station} {rest : List Frame} {f : Carrier → Carrier} {g : Stock → Stock}
    (hfg : ∀ k, (f k).stock = g k.stock) (hg : ∀ x, g (g x) = g x) (cs : List Nat) {c : Nat} {k : Carrier}
    (hk : x.smap.carriers[c]? = some k) :
    ∃ k', (((cs.foldl (fun t d => t.updCarrier d f) (x.withQueue rest)).settle x).smap.carriers[c]?) = some k'
      ∧ k'.stock = if c ∈ cs then g k.stock else k.stock := by
  have hstock := foldl_updCarrier_stock hfg hg cs (x.withQueue rest) c
  rw [withQueue_smap, hk, ← settle_stock _ x] at hstock
  exact Option.map_eq_some_iff.mp hstock

/-! #### The carriers acted on (R33) -/

/-- The test of R33 that the notice is for this station. -/
theorem targets_of {station : Nat} {p : List Byte} (h : payloadField p 0 1 = station ∨ payloadField p 0 1 = 0) :
    targets station p = true := by
  simpa [targets] using h

theorem mem_rangeOf (n : Nat) (p : List Byte) (c : Nat) :
    c ∈ rangeOf n p ↔ c < n ∧ payloadField p 2 1 < n ∧ payloadField p 2 1 ≤ payloadField p 3 1
      ∧ if payloadField p 4 1 = 0 then payloadField p 2 1 ≤ c ∧ c ≤ payloadField p 3 1
        else c < payloadField p 2 1 ∨ payloadField p 3 1 < c := by
  unfold rangeOf
  dsimp only
  by_cases hrange : payloadField p 2 1 < n ∧ payloadField p 2 1 ≤ payloadField p 3 1
  · rw [if_pos hrange, List.mem_filter, List.mem_range]
    by_cases hmode : payloadField p 4 1 = 0
    · simp only [hmode, if_true, decide_eq_true_eq]
      omega
    · simp only [hmode, if_false, decide_eq_true_eq]
      omega
  · rw [if_neg hrange]
    refine iff_of_false List.not_mem_nil ?_
    rintro ⟨-, hfirst, hle, -⟩
    exact hrange ⟨hfirst, hle⟩

section
variable {x : Station} {f : Frame}
  (ht : payloadField f.payload 0 1 = x.cfg.station ∨ payloadField f.payload 0 1 = 0)
include ht

theorem rangeActed_eq (rest : List Frame) : (x.withQueue rest).rangeActed f.payload = rangeOf x.cfg.n f.payload :=
  if_pos (targets_of ht)

theorem allActed_eq (rest : List Frame) : (x.withQueue rest).allActed f.payload = List.range x.cfg.n :=
  if_pos (targets_of ht)

end

/-! #### The commands of one reason -/

/-- One reason set or cleared on each of a list of carriers, and nothing else of the stock. -/
theorem settle_putEach (x : Station) (rest : List Frame) (cs : List Nat) {r : Reason} (v : Bool) (ha : r ≠ .audit)
    (ht : r ≠ .touched) :
    let y := ((x.withQueue rest).putEach cs r v).settle x
    y.view = { x.view with bus := { x.view.bus with rxq := rest }, stock := y.view.stock }
      ∧ y.smap.carriers.length = x.smap.carriers.length
      ∧ ∀ (c : Nat) (k : Carrier), x.smap.carriers[c]? = some k → ∃ k', y.smap.carriers[c]? = some k'
          ∧ (∀ r' : Reason, r' ≠ .audit → r' ≠ .touched →
              k'.locks.has r' = if r' = r ∧ c ∈ cs then v else k.locks.has r')
          ∧ k'.faults = k.faults
          ∧ k'.bays.map (fun b => (b.count, b.reserved)) = k.bays.map (fun b => (b.count, b.reserved)) := by
  refine ⟨settle_view_of_onlySmap (foldl_updCarrier_onlySmap _ _ _), ?_, fun c k hk => ?_⟩
  · exact (settle_carriers_length _ _).trans (foldl_updCarrier_length _ _ _)
  · obtain ⟨k', hk', hstock⟩ := settle_foldl_updCarrier (rest := rest) (g := fun y => y.put r v)
      (fun k => stock_put k r v) (fun y => put_put y r v) cs hk
    refine ⟨k', hk', fun r' ha' ht' => ?_, ?_, ?_⟩
    · rw [← stock_has ha' ht', hstock, ← stock_has (k := k) ha' ht']
      by_cases hc : c ∈ cs
      · simp [hc, put_has _ v ha ht]
      · simp [hc]
    · have hfaults := congrArg Stock.faults hstock
      rw [apply_ite Stock.faults, put_faults, ite_self] at hfaults
      exact hfaults
    · have hbays := congrArg Stock.bays hstock
      rw [apply_ite Stock.bays, put_bays, ite_self] at hbays
      exact hbays

/-- The carriers that the action of this code acts on, of those of `n` (R33, R34). -/
def controlled (n : Nat) (p : List Byte) (code : Nat) : List Nat :=
  if code = 3 ∨ code = 4 then List.range n else rangeOf n p

theorem mem_controlled (n : Nat) (p : List Byte) (code c : Nat) :
    c ∈ controlled n p code ↔ c < n ∧ (code = 3 ∨ code = 4 ∨ (payloadField p 2 1 < n
      ∧ payloadField p 2 1 ≤ payloadField p 3 1
      ∧ if payloadField p 4 1 = 0 then payloadField p 2 1 ≤ c ∧ c ≤ payloadField p 3 1
        else c < payloadField p 2 1 ∨ payloadField p 3 1 < c)) := by
  unfold controlled
  by_cases hall : code = 3 ∨ code = 4
  · rw [if_pos hall, List.mem_range, ← or_assoc]
    simp [hall]
  · rw [if_neg hall, mem_rangeOf, ← or_assoc]
    simp [hall]

/-- The commands that put one reason: each with the code of its action, its reason, and whether it sets it (R33). -/
def reasonCommands : List (Instr × Nat × Reason × Bool) :=
  [(.cctHold, 1, .held, true), (.cctUnhold, 2, .held, false), (.cctHoldAll, 3, .held, true),
    (.cctUnholdAll, 4, .held, false), (.cctRetire, 5, .retired, true), (.cctClearQuarantine, 7, .quarantine, false)]

theorem codeIs_of {n : Nat} {p : List Byte} (h : payloadField p 1 1 = n) : codeIs n p = true := by
  simpa [codeIs] using h

/-- Each of these commands puts its reason on the carriers that it acts on. -/
theorem exec_reasonCommand {w : Instr × Nat × Reason × Bool} {x : Station} (q : List Instr) {f : Frame}
    {rest : List Frame} (hw : w ∈ reasonCommands) (hx : x.live) (hq : x.bus.rxq = f :: rest)
    (hf : f.accepted = some .cct) (hcode : payloadField f.payload 1 1 = w.2.1)
    (ht : payloadField f.payload 0 1 = x.cfg.station ∨ payloadField f.payload 0 1 = 0) :
    exec w.1 ⟨x, q⟩ = .next
      ⟨((x.withQueue rest).putEach (controlled x.cfg.n f.payload w.2.1) w.2.2.1 w.2.2.2).settle x, q⟩ := by
  have hrange := rangeActed_eq ht rest
  have hall := allActed_eq ht rest
  simp only [reasonCommands, List.mem_cons, List.not_mem_nil, or_false] at hw
  rcases hw with rfl | rfl | rfl | rfl | rfl | rfl
  all_goals
    refine (answer_notice q hx hq hf (codeIs_of hcode)).trans ?_
    simp only [hrange, hall]
    rfl

theorem reasonCommand_reason {w : Instr × Nat × Reason × Bool} (hw : w ∈ reasonCommands) :
    w.2.2.1 ≠ .audit ∧ w.2.2.1 ≠ .touched := by
  revert w
  decide

/-- Settles O22: each of the six commands puts its reason on each of its carriers. -/
theorem carrierControlReasons : Obligations.CarrierControlReasons := by
  intro w x q f rest hw hx hq hf hcode ht
  obtain ⟨haudit, htouched⟩ := reasonCommand_reason hw
  refine ⟨_, exec_reasonCommand q hw hx hq hf hcode ht, ?_⟩
  have hput := settle_putEach x rest (controlled x.cfg.n f.payload w.2.1) w.2.2.2 haudit htouched
  simp only [mem_controlled] at hput
  exact hput

/-! #### UNRETIRE (R35) -/

/-- UNRETIRE in the stock of a carrier. -/
def Stock.unretired (x : Stock) : Stock := if x.retired then { x with retired := false, faults := 0 } else x

theorem unretired_unretired (x : Stock) : x.unretired.unretired = x.unretired := by
  by_cases h : x.retired = true <;> simp [Stock.unretired, h]

/-- The change that UNRETIRE makes of one carrier. -/
def Carrier.unretired (k : Carrier) : Carrier :=
  if k.locks.retired then { k with locks := k.locks.put .retired false, faults := 0 } else k

theorem unretired_stock (k : Carrier) : k.unretired.stock = k.stock.unretired := by
  unfold Carrier.unretired Stock.unretired
  by_cases h : k.locks.retired = true
  · rw [if_pos h, if_pos (show k.stock.retired = true from h)]
    rfl
  · rw [if_neg h, if_neg (show ¬ k.stock.retired = true from h)]

/-- UNRETIRE takes RETIRED and the fault count of each carrier acted on that carries it, as one change. -/
theorem exec_unretire {x : Station} (q : List Instr) {f : Frame} {rest : List Frame} (hx : x.live)
    (hq : x.bus.rxq = f :: rest) (hf : f.accepted = some .cct) (hcode : payloadField f.payload 1 1 = 6)
    (ht : payloadField f.payload 0 1 = x.cfg.station ∨ payloadField f.payload 0 1 = 0) :
    exec .cctUnretire ⟨x, q⟩ = .next ⟨((rangeOf x.cfg.n f.payload).foldl
      (fun t c => t.updCarrier c Carrier.unretired) (x.withQueue rest)).settle x, q⟩ :=
  (answer_notice q hx hq hf (codeIs_of hcode)).trans (by rw [rangeActed_eq ht]; rfl)

theorem settle_unretire (x : Station) (rest : List Frame) (cs : List Nat) :
    let y := (cs.foldl (fun t c => t.updCarrier c Carrier.unretired) (x.withQueue rest)).settle x
    y.view = { x.view with bus := { x.view.bus with rxq := rest }, stock := y.view.stock }
      ∧ ∀ (c : Nat) (k : Carrier), x.smap.carriers[c]? = some k → ∃ k', y.smap.carriers[c]? = some k'
          ∧ k'.locks.retired = (if c ∈ cs then false else k.locks.retired)
          ∧ k'.faults = (if c ∈ cs ∧ k.locks.retired = true then 0 else k.faults)
          ∧ k'.locks.quarantine = k.locks.quarantine ∧ k'.locks.held = k.locks.held
          ∧ k'.locks.unverified = k.locks.unverified
          ∧ k'.bays.map (fun b => (b.count, b.reserved)) = k.bays.map (fun b => (b.count, b.reserved)) := by
  refine ⟨settle_view_of_onlySmap (foldl_updCarrier_onlySmap _ _ _), fun c k hk => ?_⟩
  obtain ⟨k', hk', hstock⟩ := settle_foldl_updCarrier (rest := rest) unretired_stock unretired_unretired cs hk
  refine ⟨k', hk', ?_⟩
  by_cases hacts : c ∈ cs ∧ k.locks.retired = true
  · obtain ⟨hc, hretired⟩ := hacts
    rw [if_pos hc, Stock.unretired, if_pos (show k.stock.retired = true from hretired)] at hstock
    obtain ⟨hun, hqu, hhe, hre, hfa, hba⟩ := (stock_eq_iff _ _).mp hstock
    exact ⟨hre.trans (if_pos hc).symm, hfa.trans (if_pos ⟨hc, hretired⟩).symm, hqu, hhe, hun, hba⟩
  · have hsame : k'.stock = k.stock := by
      rw [hstock]
      split
      · rename_i hc
        exact if_neg (fun hretired => hacts ⟨hc, hretired⟩)
      · rfl
    obtain ⟨hun, hqu, hhe, hre, hfa, hba⟩ := (stock_eq_iff _ _).mp hsame
    refine ⟨hre.trans ?_, hfa.trans (if_neg hacts).symm, hqu, hhe, hun, hba⟩
    split
    · rename_i hc
      exact Bool.eq_false_iff.mpr (fun hretired => hacts ⟨hc, hretired⟩)
    · rfl

/-! #### SET_COUNT (R36, R17) -/

section
variable {s : Station} {a : BayAddr} {b : Bay}

theorem putReason_bay? (s : Station) (c : Nat) (r : Reason) (v : Bool) (a : BayAddr) :
    (s.putReason c r v).bay? a = s.bay? a := by
  rw [bay?_eq, bay?_eq]
  refine congrArg (fun bays : Option (List Bay) => bays.bind (fun bays => bays[a.bay]?)) ?_
  refine (updCarrier_bays _ _ _ _).trans (Option.map_congr fun k _ => ?_)
  exact ite_self _

theorem putReason_stock (s : Station) (c : Nat) (r : Reason) (v : Bool) (d : Nat) :
    ((s.putReason c r v).smap.carriers[d]?).map Carrier.stock =
      ((s.smap.carriers[d]?).map Carrier.stock).map (fun y => if d = c then y.put r v else y) :=
  updCarrier_stock s (g := fun y => y.put r v) (fun k => stock_put k r v) d c

/-- The carrier whose reason is put keeps its bays, and of its stock all but the reason. -/
theorem putReason_self {c : Nat} {k : Carrier} (r : Reason) (v : Bool) (hk : s.smap.carriers[c]? = some k) :
    ∃ k', (s.putReason c r v).smap.carriers[c]? = some k' ∧ k'.bays = k.bays ∧ k'.stock = k.stock.put r v := by
  have hstock := putReason_stock s c r v c
  rw [hk] at hstock
  obtain ⟨k', hk', hstock'⟩ := Option.map_eq_some_iff.mp hstock
  have hbays := updCarrier_bays s c c (fun k => { k with locks := k.locks.put r v })
  simp only [Station.carrier?, hk] at hbays
  refine ⟨k', hk', ?_, hstock'.trans (if_pos rfl)⟩
  have hbays' : (some k').map (fun k => k.bays) = some k.bays := hk' ▸ hbays.trans (congrArg some (ite_self _))
  exact Option.some.inj hbays'

/-- A set-count of a bound bay is the cut to the value under its capacity, and the setting (R17, R16). -/
theorem setCount_of_bound {cap : Nat} (value : Nat) (hb : s.bay? a = some b) (hcap : s.bayCap b = some cap) :
    s.setCount a value = (s.cutTo a (min value cap)).setCountAfterCut a (min value cap) (decide (min value cap = 0)) := by
  simp only [Station.setCount, hb, Option.bind_some, hcap]
  rfl

/-- An unbound bay keeps its count (R17). -/
theorem setCount_of_unbound (value : Nat) (hb : s.bay? a = some b) (hcap : s.bayCap b = none) :
    s.setCount a value = s := by
  simp only [Station.setCount, hb, Option.bind_some, hcap]

theorem cutWalk_zero (a : BayAddr) (l : List Nat) (s : Station) : cutWalk a l 0 s = s := by
  cases l with
  | nil => rfl
  | cons n rest => exact if_pos rfl

/-- Where no more is reserved than the target there is nothing to cut (R16 step 1). -/
theorem cutTo_of_le {target : Nat} (hb : s.bay? a = some b) (hle : b.reserved ≤ target) : s.cutTo a target = s := by
  simp only [Station.cutTo, hb, Nat.sub_eq_zero_of_le hle]
  exact cutWalk_zero _ _ _

/-- The stock of each carrier after a change of one bay: the bindings that R6 drops are no part of it. -/
theorem changeBay_getElem?_stock (s : Station) (a : BayAddr) (f : Bay → Bay) (d : Nat) :
    ((s.changeBay a f).smap.carriers[d]?).map Carrier.stock = (s.smap.carriers[d]?).map (fun k =>
      if a.carrier = d then
        { k.stock with bays := (k.bays.modify a.bay f).map (fun b => (b.count, b.reserved)) }
      else k.stock) := by
  have hmass : ∀ t : Station,
      ((t.recompute a.carrier).smap.carriers[d]?).map Carrier.stock = (t.smap.carriers[d]?).map Carrier.stock := by
    intro t
    have hstock := congrArg View.stock (recompute_view t a.carrier)
    exact (List.getElem?_map ..).symm.trans ((congrArg (fun l => l[d]?) hstock).trans (List.getElem?_map ..))
  rw [changeBay_carriers, hmass]
  simp only [Station.updCarrier, List.getElem?_modify]
  cases s.smap.carriers[d]? with
  | none => rfl
  | some k =>
    by_cases hd : a.carrier = d
    · by_cases himage : ({ k with bays := dropIdle (k.bays.modify a.bay f) } : Carrier).image = k.image
      · simp [hd, himage, Carrier.stock, dropIdle_stock]
      · simp [hd, himage, Carrier.stock, dropIdle_stock]
    · simp [hd]

/-- The value where no more is reserved, lowered to what the incoming leave of the capacity (R16 steps 2 and 3). -/
theorem countSet_of_le {target reserved incoming cap : Nat} (hle : reserved ≤ target) :
    countSet target reserved incoming cap = min target (cap - incoming) := by
  unfold countSet
  dsimp only
  split
  · omega
  · omega

/-- A bay as R16 steps 2 and 3 and the drop of R17 leave it. -/
def Station.bayAfterSet (s : Station) (target : Nat) (dropAtZero : Bool) (b : Bay) : Bay :=
  match s.bayCap b with
  | none => b
  | some cap =>
    let b' := { b with count := countSet target b.reserved b.incoming cap }
    if dropAtZero && b'.idle then b'.unbind else b'

theorem setCountAfterCut_eq (s : Station) (a : BayAddr) (target : Nat) (dropAtZero : Bool) :
    s.setCountAfterCut a target dropAtZero = s.changeBay a (s.bayAfterSet target dropAtZero) := rfl

theorem bayAfterSet_figures {cap : Nat} (target : Nat) (dropAtZero : Bool) (hcap : s.bayCap b = some cap) :
    (s.bayAfterSet target dropAtZero b).count = countSet target b.reserved b.incoming cap
      ∧ (s.bayAfterSet target dropAtZero b).reserved = b.reserved := by
  simp only [Station.bayAfterSet, hcap]
  split <;> exact ⟨rfl, rfl⟩

/-- A set-count where no more is reserved leaves every other carrier, and of its own all but what its bays count. -/
theorem setCount_of_room {k : Carrier} (value : Nat) (hk : s.smap.carriers[a.carrier]? = some k)
    (hb : k.bays[a.bay]? = some b)
    (hroom : b.binding ≠ none → b.reserved ≤ min value ((s.bayCap b).getD 15)) :
    OnlySmap s (s.setCount a value)
      ∧ (∀ d, d ≠ a.carrier →
        ((s.setCount a value).smap.carriers[d]?).map Carrier.stock = (s.smap.carriers[d]?).map Carrier.stock)
      ∧ ∃ bays, ((s.setCount a value).smap.carriers[a.carrier]?).map Carrier.stock = some { k.stock with bays := bays }
        ∧ bays[a.bay]? = some
          ((s.bayCap b).elim b.count (fun cap => min (min value cap) (cap - b.incoming)), b.reserved) := by
  have hbay : s.bay? a = some b := by simp [Station.bay?, Station.carrier?, hk, hb]
  cases hcap : s.bayCap b with
  | none =>
    rw [setCount_of_unbound value hbay hcap, hk]
    exact ⟨.refl s, fun _ _ => rfl, k.stock.bays, rfl, by simp [Carrier.stock, hb]⟩
  | some cap =>
    have hbound : b.binding ≠ none := by
      intro hnone
      simp [Station.bayCap, hnone] at hcap
    rw [hcap, Option.getD_some] at hroom
    rw [setCount_of_bound value hbay hcap, cutTo_of_le hbay (hroom hbound), setCountAfterCut_eq]
    obtain ⟨hcount, hreserved⟩ := bayAfterSet_figures (min value cap) (decide (min value cap = 0)) hcap
    refine ⟨changeBay_onlySmap _ _ _, fun d hd => ?_, 
      (k.bays.modify a.bay (s.bayAfterSet (min value cap) (decide (min value cap = 0)))).map
        (fun b => (b.count, b.reserved)), ?_, ?_⟩
    · rw [changeBay_getElem?_stock]
      simp only [Ne.symm hd, if_false]
    · rw [changeBay_getElem?_stock, hk, Option.map_some, if_pos rfl]
    · rw [List.getElem?_map, List.getElem?_modify, hb]
      simp only [if_true, Option.map_eq_map, Option.map_some, hcount, hreserved, countSet_of_le (hroom hbound),
        Option.elim_some]

end

/-- The bay that a SET_COUNT names (R36). -/
def namedBay (p : List Byte) : BayAddr where
  carrier := payloadField p 2 1
  bay := payloadField p 5 1

theorem takeSetCount_of_named {s : Station} {p : List Byte} (ht : targets s.cfg.station p = true)
    (hc : (namedBay p).carrier < s.cfg.n) (hi : (namedBay p).bay < s.cfg.b) :
    s.takeSetCount p =
      (s.putReason (namedBay p).carrier .quarantine false).setCount (namedBay p) (payloadField p 6 1) :=
  if_pos ⟨ht, hc, hi⟩

section
variable {x : Station} (q : List Instr) {f : Frame} {rest : List Frame} (hx : x.live) (hq : x.bus.rxq = f :: rest)
  (hf : f.accepted = some .cct) (hcode : payloadField f.payload 1 1 = 8)
  (ht : payloadField f.payload 0 1 = x.cfg.station ∨ payloadField f.payload 0 1 = 0)
  (hc : (namedBay f.payload).carrier < x.cfg.n) (hi : (namedBay f.payload).bay < x.cfg.b)
include hx hq hf hcode ht hc hi

/-- A SET_COUNT for this station of a bay that it has: QUARANTINE goes, and the count is set (R33, R36). -/
theorem exec_setCount :
    exec .cctSetCount ⟨x, q⟩ = .next
      ⟨(((x.withQueue rest).putReason (namedBay f.payload).carrier .quarantine false).setCount (namedBay f.payload)
        (payloadField f.payload 6 1)).settle x, q⟩ := by
  have htake := takeSetCount_of_named (s := x.withQueue rest) (targets_of ht) hc hi
  exact (answer_notice q hx hq hf (codeIs_of hcode)).trans (by rw [htake])

/-- A SET_COUNT where no more is reserved than the value (R36, R17). -/
theorem setCount_effects {k : Carrier} {b : Bay} (hk : x.smap.carriers[(namedBay f.payload).carrier]? = some k)
    (hb : k.bays[(namedBay f.payload).bay]? = some b)
    (hroom : b.binding ≠ none → b.reserved ≤ min (payloadField f.payload 6 1) ((x.bayCap b).getD 15)) :
    ∃ y, exec .cctSetCount ⟨x, q⟩ = .next ⟨y, q⟩
      ∧ y.view = { x.view with bus := { x.view.bus with rxq := rest }, stock := y.view.stock }
      ∧ (∃ k' b', y.smap.carriers[(namedBay f.payload).carrier]? = some k' ∧ k'.locks.quarantine = false
          ∧ k'.locks.held = k.locks.held ∧ k'.locks.retired = k.locks.retired
          ∧ k'.locks.unverified = k.locks.unverified ∧ k'.faults = k.faults
          ∧ k'.bays[(namedBay f.payload).bay]? = some b' ∧ b'.reserved = b.reserved
          ∧ b'.count = (x.bayCap b).elim b.count
            (fun cap => min (min (payloadField f.payload 6 1) cap) (cap - b.incoming)))
      ∧ ∀ d, d ≠ (namedBay f.payload).carrier →
          (y.smap.carriers[d]?).map Carrier.stock = (x.smap.carriers[d]?).map Carrier.stock := by
  refine ⟨_, exec_setCount q hx hq hf hcode ht hc hi, ?_⟩
  generalize namedBay f.payload = a at hk hb ⊢
  obtain ⟨k₁, hk₁, hbays₁, hstock₁⟩ := putReason_self (s := x.withQueue rest) .quarantine false hk
  rw [← hbays₁] at hb
  obtain ⟨honly, hothers, bays, hstock, hbay⟩ := setCount_of_room (payloadField f.payload 6 1) hk₁ hb hroom
  have hput : OnlySmap (x.withQueue rest) ((x.withQueue rest).putReason a.carrier .quarantine false) := rfl
  refine ⟨settle_view_of_onlySmap (hput.trans honly), ?_, fun d hd => ?_⟩
  · rw [← settle_stock _ x, hstock₁] at hstock
    obtain ⟨k', hk', hstock'⟩ := Option.map_eq_some_iff.mp hstock
    obtain ⟨hun, hqu, hhe, hre, hfa, hba⟩ := (stock_eq_iff _ _).mp hstock'
    rw [← show k'.bays.map (fun b => (b.count, b.reserved)) = bays from hba, List.getElem?_map] at hbay
    obtain ⟨b', hb', hfigures⟩ := Option.map_eq_some_iff.mp hbay
    obtain ⟨hcount, hreserved⟩ := Prod.mk.inj hfigures
    exact ⟨k', b', hk', hqu, hhe, hre, hun, hfa, hb', hreserved, hcount⟩
  · rw [settle_stock, hothers d hd]
    refine (putReason_stock _ _ _ _ _).trans ?_
    simp only [hd, if_false]
    exact Option.map_id'

end

/-- Settles O23: UNRETIRE; SET_COUNT with nothing to cut; SET_COUNT with the cut that comes first. -/
theorem unretireAndSetCount : Obligations.UnretireAndSetCount := by
  refine ⟨fun x q f rest hx hq hf hcode ht => ?_, fun x q f rest k b hx hq hf hcode ht => ?_,
    fun x q f rest b cap hx hq hf hcode ht => ?_⟩
  · refine ⟨_, exec_unretire q hx hq hf hcode ht, ?_⟩
    have hunretire := settle_unretire x rest (rangeOf x.cfg.n f.payload)
    simp only [mem_rangeOf] at hunretire
    exact hunretire
  · intro c i hc hi hk hb value hroom
    obtain ⟨y, hy, hview, ⟨k', b', hk', hqu, hhe, hre, hun, hfa, hb', hreserved, hcount⟩, hothers⟩ :=
      setCount_effects q hx hq hf hcode ht hc hi hk hb hroom
    refine ⟨y, hy, hview, ⟨k', b', hk', hqu, hhe, hre, hun, hfa, hb', hreserved, hcount.trans ?_⟩, hothers⟩
    cases hcap : x.bayCap b with
    | none => rfl
    | some cap => simp [value, hcap]
  · intro a hc hi hb hcap value u
    have hbay : u.bay? a = some b := (putReason_bay? _ _ _ _ _).trans hb
    have hset : u.setCount a (payloadField f.payload 6 1) =
        (u.cutTo a value).setCountAfterCut a value (decide (value = 0)) :=
      setCount_of_bound _ hbay hcap
    rw [← hset]
    exact exec_setCount q hx hq hf hcode ht hc hi

end Sys2Proof.Machine
end

section
/-! ### The imbalance (R40) -/

namespace Sys2Proof.Machine

/-- The sum of the weights of the N/2 carriers from `k`, each index taken modulo N (R40). -/
def windowSum (ws : List Nat) (k : Nat) : Nat :=
  ((List.range (ws.length / 2)).map (fun j => ws.getD ((k + j) % ws.length) 0)).sum

/-- A window starts one turn of the weights. -/
theorem take_rotate (ws : List Nat) {m : Nat} (k : Nat) (hm : m ≤ ws.length) :
    (ws.rotate k).take m = (List.range m).map (fun j => ws.getD ((k + j) % ws.length) 0) := by
  refine List.ext_getElem (by simp [hm]) fun j hj _ => ?_
  have hlt : (k + j) % ws.length < ws.length := by
    rw [List.length_take, List.length_rotate] at hj
    exact Nat.mod_lt _ (by omega)
  simp [List.getElem_rotate, Nat.add_comm j k, List.getElem?_eq_getElem hlt]

/-- The window of the model, cut from the weights written twice, is the one taken modulo N. -/
theorem take_drop_append_self (ws : List Nat) {k m : Nat} (hk : k ≤ ws.length) (hm : m ≤ ws.length) :
    ((ws ++ ws).drop k).take m = (ws.rotate k).take m := by
  have hturn : (ws ++ ws).drop k = ws.rotate k ++ ws.drop k := by
    rw [List.rotate_eq_drop_append_take hk, List.append_assoc, List.take_append_drop, List.drop_append_of_le_length hk]
  rw [hturn, List.take_append_of_le_length (by simpa using hm)]

theorem windowSum_eq_sum_take_rotate (ws : List Nat) (k : Nat) :
    windowSum ws k = ((ws.rotate k).take (ws.length / 2)).sum := by
  rw [take_rotate ws k (Nat.div_le_self _ _), windowSum]

theorem windowSum_le_sum (ws : List Nat) (k : Nat) : windowSum ws k ≤ ws.sum := by
  rw [windowSum_eq_sum_take_rotate, ← (ws.rotate_perm k).sum_eq]
  exact (List.take_sublist _ _).sum_le_sum (fun _ _ => Nat.zero_le _)

theorem absDiff_eq_natAbs (a b : Nat) : absDiff a b = ((a : Int) - b).natAbs := by
  unfold absDiff
  omega

theorem foldl_max_zero_eq_iff (l : List Nat) (a : Nat) :
    l.foldl max 0 = a ↔ a ∈ (0 :: l) ∧ ∀ b ∈ l, b ≤ a := by
  rw [← Option.some_inj, ← List.max?_cons', List.max?_eq_some_iff]
  simp

/-- The imbalance is the largest of the distances, and is the distance of some window of a carousel. -/
theorem imbalanceOf_largest {ws : List Nat} (h : ws ≠ []) :
    (∀ k < ws.length, absDiff (2 * windowSum ws k) ws.sum ≤ imbalanceOf ws)
      ∧ ∃ k < ws.length, absDiff (2 * windowSum ws k) ws.sum = imbalanceOf ws := by
  have hdistances : (List.range ws.length).map
        (fun k => absDiff (2 * (((ws ++ ws).drop k).take (ws.length / 2)).sum) ws.sum)
      = (List.range ws.length).map (fun k => absDiff (2 * windowSum ws k) ws.sum) := by
    refine List.map_congr_left fun k hk => ?_
    rw [windowSum_eq_sum_take_rotate,
      take_drop_append_self ws (List.mem_range.mp hk).le (Nat.div_le_self _ _)]
  obtain ⟨hmem, hle⟩ := (foldl_max_zero_eq_iff _ (imbalanceOf ws)).mp (congrArg (·.foldl max 0) hdistances.symm)
  have hbound : ∀ k < ws.length, absDiff (2 * windowSum ws k) ws.sum ≤ imbalanceOf ws := fun k hk =>
    hle _ (List.mem_map_of_mem (List.mem_range.mpr hk))
  refine ⟨hbound, ?_⟩
  rcases List.mem_cons.mp hmem with hzero | hmem
  · have hpos := List.length_pos_of_ne_nil h
    exact ⟨0, hpos, by have := hbound 0 hpos; omega⟩
  · obtain ⟨k, hk, hdistance⟩ := List.mem_map.mp hmem
    exact ⟨k, List.mem_range.mp hk, hdistance⟩

/-- Settles O49: no window weighs more than the total, so no distance exceeds it. -/
theorem imbalanceIsLargest : Obligations.ImbalanceIsLargest := by
  intro ws hne _ window
  have hdistance : ∀ k, ((2 * window k : Int) - ws.sum).natAbs = absDiff (2 * windowSum ws k) ws.sum := fun k =>
    (absDiff_eq_natAbs (2 * windowSum ws k) ws.sum).symm
  simp only [hdistance]
  obtain ⟨hle, k, hk, hattained⟩ := imbalanceOf_largest hne
  refine ⟨hle, ⟨k, hk, hattained⟩, ?_⟩
  have hwindow := windowSum_le_sum ws k
  rw [← hattained, absDiff]
  omega

end Sys2Proof.Machine
end

section
/-! ### The pick key (R46, R47, R48) -/

namespace Sys2Proof.Machine

theorem foldl_min_eq_iff (d : Nat) (ds : List Nat) (a : Nat) :
    ds.foldl min d = a ↔ a ∈ d :: ds ∧ ∀ b ∈ d :: ds, a ≤ b := by
  rw [← Option.some_inj, ← List.min?_cons', List.min?_eq_some_iff]

/-- The travel of a selection is that of its nearest carrier (R47). -/
theorem nearest_least (x : Station) (e : SelEntry) (rest : List SelEntry) :
    (∃ s ∈ e :: rest, x.nearest (e :: rest) = x.travel s.carrier)
      ∧ ∀ s ∈ e :: rest, x.nearest (e :: rest) ≤ x.travel s.carrier := by
  obtain ⟨hmem, hle⟩ := (foldl_min_eq_iff (x.travel e.carrier) (rest.map (fun s => x.travel s.carrier))
    (x.nearest (e :: rest))).mp rfl
  rw [← List.map_cons (f := fun s : SelEntry => x.travel s.carrier)] at hmem hle
  obtain ⟨s, hs, htravel⟩ := List.mem_map.mp hmem
  exact ⟨⟨s, hs, htravel.symm⟩, fun s hs => hle _ (List.mem_map_of_mem hs)⟩

/-- The age of R46, held within 0..511, under its rank. -/
theorem ageRank_eq (storeWeek week : Nat) :
    ageRank storeWeek week =
      511 - if storeWeek ≤ week then 0 else if storeWeek - week ≤ 511 then storeWeek - week else 511 := by
  unfold ageRank
  split
  · omega
  · split <;> omega

theorem ageRank_le (storeWeek week : Nat) : ageRank storeWeek week ≤ 511 := Nat.sub_le _ _

theorem travelFigure_le (d backlog : Nat) : travelFigure d backlog ≤ 255 := Nat.min_le_left _ _

theorem claimKey_div (cost : Nat) {station : Nat} (h : station < 64) : claimKey cost station / 64 = min 16383 cost := by
  unfold claimKey
  omega

theorem claimKey_mod (cost : Nat) {station : Nat} (h : station < 64) : claimKey cost station % 64 = station := by
  unfold claimKey
  omega

theorem claimKey_lt (cost : Nat) {station : Nat} (h : station < 64) : claimKey cost station < 2 ^ 20 := by
  unfold claimKey
  omega

/-- The arbitration field of a claim: kind 4 above its key (R48). -/
theorem arbitration_clm {p : Post} {key : Nat} (hkind : p.kind = .clm) (hkey : p.key = BitVec.ofNat 20 key)
    (h : key < 2 ^ 20) : Frame.arbitration p.frame = 4 * 2 ^ 20 + key := by
  have hfield : (BitVec.ofNat 20 key).toNat = key := by rw [BitVec.toNat_ofNat, Nat.mod_eq_of_lt h]
  simp [Frame.arbitration, Post.frame, hkind, hkey, hfield, Kind.code]

/-- Settles O51, through the key as `claimKey` of the cost that R46 and R47 give. -/
theorem pickKeyWeighsAgeAndTravel : Obligations.PickKeyWeighsAgeAndTravel := by
  intro x e rest sel age figure cost
  have hcost : cost = ageRank x.stc.storeWeek e.week * x.cfg.ka
      + travelFigure (x.nearest sel) x.mpl.tasks.length * x.cfg.kt := by rw [ageRank_eq]; rfl
  have hkey : x.pickKey sel = claimKey cost x.cfg.station := by rw [hcost]; rfl
  obtain ⟨hattained, hleast⟩ := nearest_least x e rest
  refine ⟨hattained, hleast, ?_, fun hka hkt => ?_, fun hlow hhigh => ?_⟩
  · rw [hkey, claimKey, Nat.min_comm]
  · rw [hcost]
    exact Nat.add_le_add (Nat.mul_le_mul (ageRank_le _ _) hka) (Nat.mul_le_mul (travelFigure_le _ _) hkt)
  · have hstation : x.cfg.station < 64 := by omega
    have hmod := claimKey_mod cost hstation
    have hlt := claimKey_lt cost hstation
    rw [hkey, claimKey_div cost hstation, hmod, Nat.min_comm]
    exact ⟨by omega, by omega, rfl, rfl, fun h p o => arbitration_clm rfl rfl hlt⟩

end Sys2Proof.Machine
end

section
/-! ### The putaway bay (R49, R50, R51) -/

namespace Sys2Proof.Machine

/-- The binding test of R49 and R6. -/
theorem expectable_iff (b : Bay) (code week : Nat) :
    b.expectable { article := code, week := week } = true ↔ b.binding = none
      ∨ b.binding = some { article := code, week := week }
      ∨ (∃ w, b.binding = some { article := code, week := w }) ∧ b.count = 0 ∧ b.reserved = 0 ∧ b.incoming = 0 := by
  unfold Bay.expectable
  cases b.binding with
  | none => simp
  | some y => cases y; simp [idle_iff]

/-- The cost of R51 for the bay of a carrier, whose binding class is 0 for a bound bay. -/
def Station.putCost (s : Station) (b : Bay) (carrier proposed : Nat) : Nat :=
  (if b.binding = none then 8192 else 0) + balanceFraction proposed s.cfg.limit * s.cfg.kb
    + travelFigure (s.travel carrier) s.mpl.tasks.length * s.cfg.kt

/-- What R49 and R50 ask of a bay for `qty` tyres. -/
def Station.PutawayFits (s : Station) (a : Article) (week qty : Nat) (addr : BayAddr) (b : Bay) : Prop :=
  s.mayStore addr.carrier = true ∧ b.expectable { article := a.code, week := week } = true
    ∧ b.count + b.incoming + qty ≤ capB s.cfg.h a.pitch ∧ s.legal (s.projectAdd addr.carrier (qty * a.unitMass)) = true

section
variable {s : Station} {a : Article} {week qty : Nat} {addr : BayAddr} {b : Bay}

theorem putCand_of_fits (h : s.PutawayFits a week qty addr b) : s.putCand a week qty (addr, b) =
    some { addr := addr, cost := s.putCost b addr.carrier (s.projectAdd addr.carrier (qty * a.unitMass)) } := by
  obtain ⟨hstore, hbinding, hroom, hlegal⟩ := h
  cases hb : b.binding <;> simp [Station.putCand, Station.putCost, hstore, hbinding, hroom, hlegal, hb]

theorem putCand_of_not_fits (h : ¬ s.PutawayFits a week qty addr b) : s.putCand a week qty (addr, b) = none := by
  unfold Station.putCand
  dsimp only
  split
  · rename_i htests
    simp only [Bool.and_eq_true, decide_eq_true_eq] at htests
    obtain ⟨⟨hstore, hbinding⟩, hroom⟩ := htests
    exact if_neg fun hlegal => h ⟨hstore, hbinding, hroom, hlegal⟩
  · rfl

end

section
variable {x y c : PutCand} {xs cands : List PutCand}

theorem leastCost_cons_of_none (h : leastCost xs = none) : leastCost (x :: xs) = some x := by
  simp [leastCost, h]

theorem leastCost_cons_of_some (h : leastCost xs = some y) :
    leastCost (x :: xs) = if y.cost < x.cost then some y else some x := by
  simp [leastCost, h]

theorem leastCost_eq_none_iff : leastCost cands = none ↔ cands = [] := by
  cases cands with
  | nil => simp [leastCost]
  | cons x xs =>
    cases hxs : leastCost xs with
    | none => simp [leastCost_cons_of_none hxs]
    | some y =>
      rw [leastCost_cons_of_some hxs]
      split <;> simp

/-- The choice of R51 costs less than every candidate before it and no more than any after it. -/
theorem leastCost_split (h : leastCost cands = some c) : ∃ before after, cands = before ++ c :: after
    ∧ (∀ d ∈ before, c.cost < d.cost) ∧ ∀ d ∈ after, c.cost ≤ d.cost := by
  induction cands generalizing c with
  | nil => cases h
  | cons x xs ih =>
    cases hxs : leastCost xs with
    | none =>
      rw [leastCost_cons_of_none hxs] at h
      cases h
      exact ⟨[], xs, rfl, nofun, by simp [leastCost_eq_none_iff.mp hxs]⟩
    | some y =>
      obtain ⟨before, after, rfl, hbefore, hafter⟩ := ih hxs
      rw [leastCost_cons_of_some hxs] at h
      split at h
      · rename_i hless
        cases h
        exact ⟨x :: before, after, rfl, List.forall_mem_cons.mpr ⟨hless, hbefore⟩, hafter⟩
      · rename_i hnotLess
        cases h
        have hfirst : x.cost ≤ y.cost := Nat.not_lt.mp hnotLess
        refine ⟨[], before ++ y :: after, rfl, nofun, fun d hd => ?_⟩
        rcases List.mem_append.mp hd with hd | hd
        · exact hfirst.trans (hbefore d hd).le
        · rcases List.mem_cons.mp hd with rfl | hd
          · exact hfirst
          · exact hfirst.trans (hafter d hd)

end

/-- Settles O52: the candidates by what R49 and R50 ask of a bay, the choice by the order of the candidates. -/
theorem putawayBayChosen : Obligations.PutawayBayChosen := by
  constructor
  · intro x a week qty addr b proposed candidate
    have hfits : candidate ↔ x.PutawayFits a week qty addr b :=
      and_congr_right' (and_congr (expectable_iff b a.code week).symm
        (and_congr_right' (legal_iff x proposed).symm))
    rw [hfits]
    exact ⟨putCand_of_not_fits, putCand_of_fits⟩
  · intro x a week qty cands
    exact ⟨leastCost_eq_none_iff, fun c => leastCost_split⟩

end Sys2Proof.Machine
end

section
/-! ### The order of R44 and the candidates of a pick (R43, R44) -/

namespace Sys2Proof.Machine

/-! #### Comparing and sorting candidates -/

theorem lexLt_cons_iff (a b : Nat) (as bs : List Nat) :
    lexLt (a :: as) (b :: bs) = true ↔ a < b ∨ a = b ∧ lexLt as bs = true := by
  rw [lexLt]
  rcases Nat.lt_trichotomy a b with h | h | h
  · simp [h]
  · simp [h]
  · simp [h, h.not_gt, h.ne']

/-- One candidate stands before another in the order of R44. -/
def PickCand.Before (c d : PickCand) : Prop := lexLt c.rank d.rank = true

theorem pickCandBefore_iff (c d : PickCand) : c.Before d ↔ c.week < d.week ∨ c.week = d.week ∧ (c.distance < d.distance
    ∨ c.distance = d.distance ∧ (c.carrier < d.carrier ∨ c.carrier = d.carrier ∧ c.bay < d.bay)) := by
  have hend : lexLt [] [] = false := rfl
  simp only [PickCand.Before, PickCand.rank, lexLt_cons_iff, hend, Bool.false_eq_true, and_false, or_false]

theorem pickCandBefore_trans {c d e : PickCand} (h : c.Before d) (h' : d.Before e) : c.Before e := by
  rw [pickCandBefore_iff] at *
  omega

/-- The address of a candidate. -/
def PickCand.addr (c : PickCand) : BayAddr where
  carrier := c.carrier
  bay := c.bay

/-- The order of R44 is total, since no two bays share a carrier and a bay number. -/
theorem pickCandBefore_or_before {c d : PickCand} (h : c.addr ≠ d.addr) : c.Before d ∨ d.Before c := by
  have haddr : ¬ (c.carrier = d.carrier ∧ c.bay = d.bay) := fun ⟨hcarrier, hbay⟩ =>
    h (by rw [PickCand.addr, PickCand.addr, hcarrier, hbay])
  rw [pickCandBefore_iff, pickCandBefore_iff]
  omega

theorem insertCand_perm (x : PickCand) (ys : List PickCand) : (insertCand x ys).Perm (x :: ys) := by
  induction ys with
  | nil => exact .refl _
  | cons y ys ih =>
    rw [insertCand]
    split
    · exact .refl _
    · exact (ih.cons y).trans (.swap x y ys)

theorem sortCands_perm (cs : List PickCand) : (sortCands cs).Perm cs := by
  induction cs with
  | nil => exact .refl _
  | cons c cs ih => exact (insertCand_perm c _).trans (ih.cons c)

theorem insertCand_sorted {x : PickCand} {ys : List PickCand} (hys : ys.Pairwise PickCand.Before)
    (hx : ∀ y ∈ ys, x.Before y ∨ y.Before x) : (insertCand x ys).Pairwise PickCand.Before := by
  induction ys with
  | nil => exact List.pairwise_singleton _ _
  | cons y ys ih =>
    obtain ⟨hy, hrest⟩ := List.pairwise_cons.mp hys
    obtain ⟨hxy, hxs⟩ := List.forall_mem_cons.mp hx
    rw [insertCand]
    split
    · rename_i hlt
      exact List.pairwise_cons.mpr
        ⟨List.forall_mem_cons.mpr ⟨hlt, fun z hz => pickCandBefore_trans hlt (hy z hz)⟩, hys⟩
    · rename_i hnot
      refine List.pairwise_cons.mpr ⟨fun z hz => ?_, ih hrest hxs⟩
      rcases List.mem_cons.mp ((insertCand_perm x ys).mem_iff.mp hz) with rfl | hz
      · exact hxy.resolve_left hnot
      · exact hy z hz

theorem sortCands_sorted {cs : List PickCand} (h : cs.Pairwise (fun c d => c.addr ≠ d.addr)) :
    (sortCands cs).Pairwise PickCand.Before := by
  induction cs with
  | nil => exact .nil
  | cons c cs ih =>
    obtain ⟨hc, hcs⟩ := List.pairwise_cons.mp h
    exact insertCand_sorted (ih hcs) fun d hd =>
      pickCandBefore_or_before (hc d ((sortCands_perm cs).mem_iff.mp hd))

/-! #### The bays of the station -/

theorem mem_allBays_iff (x : Station) (d : BayAddr) (b : Bay) : (d, b) ∈ x.allBays ↔ x.bay? d = some b := by
  simp only [Station.allBays, List.mem_flatMap, List.mem_map, Prod.exists, List.mk_mem_zipIdx_iff_getElem?,
    Prod.mk.injEq, Station.bay?, Station.carrier?, Option.bind_eq_some_iff]
  constructor
  · rintro ⟨k, c, hk, b', i, hb, rfl, rfl⟩
    exact ⟨k, hk, hb⟩
  · rintro ⟨k, hk, hb⟩
    exact ⟨k, d.carrier, hk, b, d.bay, hb, rfl, rfl⟩

theorem zipIdx_pairwise_ne {α : Type} (l : List α) : l.zipIdx.Pairwise (fun p q => p.2 ≠ q.2) := by
  rw [← List.pairwise_map (f := Prod.snd) (R := (· ≠ ·)), List.zipIdx_map_snd]
  exact List.nodup_range'

/-- No two bays share a carrier and a bay number (R44). -/
theorem allBays_pairwise_ne (x : Station) : x.allBays.Pairwise (fun p q => p.1 ≠ q.1) := by
  refine List.pairwise_flatMap.mpr ⟨fun kc _ => ?_, (zipIdx_pairwise_ne _).imp fun hne p hp q hq haddr => ?_⟩
  · exact List.pairwise_map.mpr ((zipIdx_pairwise_ne _).imp fun hne haddr => hne (congrArg BayAddr.bay haddr))
  · obtain ⟨_, _, rfl⟩ := List.mem_map.mp hp
    obtain ⟨_, _, rfl⟩ := List.mem_map.mp hq
    exact hne (congrArg BayAddr.carrier haddr)

/-! #### The candidates of an offer -/

/-- The bay is a pick candidate for the article, with its week and what it has available (R43). -/
def Station.PickCandidate (x : Station) (article : Nat) (d : BayAddr) (week available : Nat) : Prop :=
  ∃ k b, x.smap.carriers[d.carrier]? = some k ∧ k.bays[d.bay]? = some b
    ∧ b.binding = some { article := article, week := week } ∧ k.locks.mayTake = true
    ∧ available = b.count - b.reserved ∧ 1 ≤ available

/-- The candidate of a bay, with the travel distance that the sort of R44 reads. -/
def Station.candAt (x : Station) (d : BayAddr) (week available : Nat) : PickCand where
  week := week
  distance := x.travel d.carrier
  carrier := d.carrier
  bay := d.bay
  available := available

section
variable {x : Station} {article : Nat}

theorem pickCandidate_iff (x : Station) (article : Nat) (d : BayAddr) (week available : Nat) :
    x.PickCandidate article d week available ↔ ∃ b, x.bay? d = some b
      ∧ b.binding = some { article := article, week := week } ∧ x.mayTake d.carrier = true
      ∧ available = b.count - b.reserved ∧ 1 ≤ available := by
  unfold Station.PickCandidate Station.bay? Station.mayTake Station.carrier?
  cases x.smap.carriers[d.carrier]? <;> simp

/-- A bay is bound to one week and has one quantity available. -/
theorem pickCandidate_unique {d : BayAddr} {w v m n : Nat} (h : x.PickCandidate article d w m)
    (h' : x.PickCandidate article d v n) : w = v ∧ m = n := by
  obtain ⟨b, hb, hbinding, -, rfl, -⟩ := (pickCandidate_iff ..).mp h
  obtain ⟨b', hb', hbinding', -, rfl, -⟩ := (pickCandidate_iff ..).mp h'
  obtain rfl : b = b' := Option.some_inj.mp (hb.symm.trans hb')
  rw [hbinding] at hbinding'
  cases hbinding'
  exact ⟨rfl, rfl⟩

theorem pickCand_eq_some_iff {d : BayAddr} {b : Bay} {c : PickCand} :
    x.pickCand article (d, b) = some c ↔ ∃ w, b.binding = some { article := article, week := w }
      ∧ x.mayTake d.carrier = true ∧ 1 ≤ b.count - b.reserved ∧ c = x.candAt d w (b.count - b.reserved) := by
  unfold Station.pickCand
  cases b.binding with
  | none => simp
  | some y =>
    obtain ⟨code, week⟩ := y
    simp only [Option.ite_none_right_eq_some, Option.some.injEq, Binding.mk.injEq]
    constructor
    · rintro ⟨⟨rfl, havailable, htake⟩, rfl⟩
      exact ⟨week, ⟨rfl, rfl⟩, htake, havailable, rfl⟩
    · rintro ⟨_, ⟨rfl, rfl⟩, htake, havailable, rfl⟩
      exact ⟨⟨rfl, havailable, htake⟩, rfl⟩

theorem mem_pickCands_iff {c : PickCand} : c ∈ x.pickCands article ↔
    ∃ d w n, x.PickCandidate article d w n ∧ c = x.candAt d w n := by
  rw [Station.pickCands, (sortCands_perm _).mem_iff]
  simp only [List.mem_filterMap, Prod.exists, mem_allBays_iff, pickCand_eq_some_iff, pickCandidate_iff]
  constructor
  · rintro ⟨d, b, hb, w, hbinding, htake, havailable, hc⟩
    exact ⟨d, w, _, ⟨b, hb, hbinding, htake, rfl, havailable⟩, hc⟩
  · rintro ⟨d, w, _, ⟨b, hb, hbinding, htake, rfl, havailable⟩, hc⟩
    exact ⟨d, b, hb, w, hbinding, htake, havailable, hc⟩

theorem eq_of_mem_pickCands {c d : PickCand} (hc : c ∈ x.pickCands article) (hd : d ∈ x.pickCands article)
    (h : c.addr = d.addr) : c = d := by
  obtain ⟨a, w, m, hcand, rfl⟩ := mem_pickCands_iff.mp hc
  obtain ⟨a', v, n, hcand', rfl⟩ := mem_pickCands_iff.mp hd
  obtain rfl : a = a' := h
  obtain ⟨rfl, rfl⟩ := pickCandidate_unique hcand hcand'
  rfl

theorem pickCands_sorted (x : Station) (article : Nat) : (x.pickCands article).Pairwise PickCand.Before := by
  refine sortCands_sorted (List.pairwise_filterMap.mpr ((allBays_pairwise_ne x).imp ?_))
  rintro ⟨a, b⟩ ⟨a', b'⟩ hne c hc d hd
  obtain ⟨_, -, -, -, rfl⟩ := pickCand_eq_some_iff.mp hc
  obtain ⟨_, -, -, -, rfl⟩ := pickCand_eq_some_iff.mp hd
  exact hne

end

end Sys2Proof.Machine
end

section
/-! ### The walk of R44 -/

namespace Sys2Proof.Machine

/-- The entry stands for the candidate's bay, for no more than it has available. -/
def PickCand.Gives (c : PickCand) (e : SelEntry) : Prop :=
  e.addr = c.addr ∧ e.week = c.week ∧ 1 ≤ e.qty ∧ e.qty ≤ c.available ∧ e.taskMark = false

/-- The selection takes the first candidates in their order, and all that each but the last has available. -/
def TakesFirst : List SelEntry → List PickCand → Prop
  | [], _ => True
  | _ :: _, [] => False
  | e :: es, c :: cs => c.Gives e ∧ (es ≠ [] → e.qty = c.available) ∧ TakesFirst es cs

/-- The quantity of a selection. -/
def quantityOf (sel : List SelEntry) : Nat := (sel.map (fun e => e.qty)).sum

@[simp] theorem quantityOf_nil : quantityOf [] = 0 := rfl

@[simp] theorem quantityOf_cons (e : SelEntry) (es : List SelEntry) : quantityOf (e :: es) = e.qty + quantityOf es := by
  simp [quantityOf]

/-- A walk that goes on takes at least one tyre more. -/
theorem quantityOf_pos_of_takesFirst {sel : List SelEntry} {cs : List PickCand} (h : TakesFirst sel cs)
    (hne : sel ≠ []) : 1 ≤ quantityOf sel := by
  match sel, cs, h with
  | [], _, _ => exact absurd rfl hne
  | e :: es, c :: cs, ⟨⟨_, _, hqty, _⟩, _⟩ =>
    rw [quantityOf_cons]
    omega

/-- The entry that the walk makes of a candidate of whose bay it takes `n` tyres. -/
def PickCand.entry (c : PickCand) (n : Nat) : SelEntry where
  carrier := c.carrier
  bay := c.bay
  qty := n
  week := c.week
  taskMark := false

theorem gives_iff (c : PickCand) (e : SelEntry) : c.Gives e ↔ ∃ n, 1 ≤ n ∧ n ≤ c.available ∧ e = c.entry n := by
  obtain ⟨carrier, bay, qty, week, mark⟩ := e
  constructor
  · rintro ⟨haddr, hweek, hpos, hle, hmark⟩
    refine ⟨qty, hpos, hle, ?_⟩
    cases haddr
    cases hweek
    cases hmark
    rfl
  · rintro ⟨n, hpos, hle, heq⟩
    cases heq
    exact ⟨rfl, rfl, hpos, hle, rfl⟩

/-- One step of the walk: the first candidate, then the walk over the rest. -/
theorem walkCands_cons (fuel q : Nat) (c : PickCand) (cs : List PickCand) :
    walkCands (fuel + 1) (q + 1) (c :: cs) =
      (walkCands fuel (q + 1 - min c.available (q + 1)) cs).map
        (fun rest => c.entry (min c.available (q + 1)) :: rest) :=
  rfl

/-- Without a bay left to take, and without a candidate, the quantity is not covered. -/
theorem walkCands_no_fuel (q : Nat) (cs : List PickCand) : walkCands 0 (q + 1) cs = none := by
  cases cs <;> rfl

theorem walkCands_nil (fuel q : Nat) : walkCands fuel (q + 1) [] = none := by
  cases fuel <;> rfl

/-- A walk for no tyre takes none. -/
theorem walkCands_zero_iff (fuel : Nat) (cs : List PickCand) (sel : List SelEntry) :
    walkCands fuel 0 cs = some sel ↔ TakesFirst sel cs ∧ quantityOf sel = 0 ∧ sel.length ≤ fuel := by
  have hwalk : walkCands fuel 0 cs = some [] := by cases fuel <;> rfl
  rw [hwalk, Option.some_inj]
  constructor
  · rintro rfl
    exact ⟨by cases cs <;> trivial, rfl, Nat.zero_le _⟩
  · rintro ⟨htakes, hzero, -⟩
    by_contra hne
    have := quantityOf_pos_of_takesFirst htakes (Ne.symm hne)
    omega

/-- A selection that covers the quantity takes from its first candidate the lesser of what is there and what is
uncovered (R44). -/
theorem takesFirst_cons_iff {c : PickCand} {cs : List PickCand} {e : SelEntry} {es : List SelEntry} {q : Nat}
    (hc : 1 ≤ c.available) : (TakesFirst (e :: es) (c :: cs) ∧ quantityOf (e :: es) = q + 1) ↔
      e = c.entry (min c.available (q + 1)) ∧ TakesFirst es cs ∧ quantityOf es = q + 1 - min c.available (q + 1) := by
  rw [TakesFirst, gives_iff, quantityOf_cons]
  constructor
  · rintro ⟨⟨⟨n, hpos, hle, rfl⟩, hall, hes⟩, hsum⟩
    simp only [PickCand.entry] at hall hsum
    have htaken : n = min c.available (q + 1) := by
      by_cases hlast : es = []
      · rw [hlast, quantityOf_nil] at hsum
        omega
      · have := hall hlast
        omega
    exact ⟨by rw [htaken], hes, by omega⟩
  · rintro ⟨rfl, hes, hrest⟩
    refine ⟨⟨⟨_, by omega, Nat.min_le_left _ _, rfl⟩, fun hmore => ?_, hes⟩, ?_⟩
    · have := quantityOf_pos_of_takesFirst hes hmore
      simp only [PickCand.entry]
      omega
    · simp only [PickCand.entry]
      omega

/-- The walk gives the selection that takes the first candidates and covers the quantity in as many bays as it may. -/
theorem walkCands_eq_some_iff {cs : List PickCand} (h : ∀ c ∈ cs, 1 ≤ c.available) {fuel q : Nat}
    {sel : List SelEntry} :
    walkCands fuel q cs = some sel ↔ TakesFirst sel cs ∧ quantityOf sel = q ∧ sel.length ≤ fuel := by
  induction cs generalizing fuel q sel with
  | nil =>
    match q, sel with
    | 0, sel => exact walkCands_zero_iff fuel [] sel
    | q + 1, [] => simp [walkCands_nil]
    | q + 1, e :: es => simp [walkCands_nil, TakesFirst]
  | cons c cs ih =>
    obtain ⟨hc, hcs⟩ := List.forall_mem_cons.mp h
    match q, fuel, sel with
    | 0, fuel, sel => exact walkCands_zero_iff fuel (c :: cs) sel
    | q + 1, 0, [] => simp [walkCands_no_fuel]
    | q + 1, 0, e :: es => simp [walkCands_no_fuel]
    | q + 1, fuel + 1, [] => simp [walkCands_cons]
    | q + 1, fuel + 1, e :: es =>
      rw [← and_assoc, takesFirst_cons_iff hc, walkCands_cons, Option.map_eq_some_iff]
      simp only [ih hcs, List.cons.injEq, List.length_cons, Nat.add_le_add_iff_right]
      constructor
      · rintro ⟨_, ⟨htakes, hrest, hlength⟩, rfl, rfl⟩
        exact ⟨⟨rfl, htakes, hrest⟩, hlength⟩
      · rintro ⟨⟨rfl, htakes, hrest⟩, hlength⟩
        exact ⟨es, ⟨htakes, hrest, hlength⟩, rfl, rfl⟩

end Sys2Proof.Machine
end

section
/-! ### The pick selection (R43, R44, R45, R10) -/

namespace Sys2Proof.Machine

/-- Stock of week `w` in bay `d` stands before stock of week `v` in bay `e` in the order of R44. -/
def Station.PicksBefore (x : Station) (w v : Nat) (d e : BayAddr) : Prop :=
  w < v ∨ (w = v ∧ (x.travel d.carrier < x.travel e.carrier ∨ (x.travel d.carrier = x.travel e.carrier
    ∧ (d.carrier < e.carrier ∨ (d.carrier = e.carrier ∧ d.bay < e.bay)))))

section
variable {x : Station}

theorem picksBefore_asymm {w v : Nat} {d e : BayAddr} (h : x.PicksBefore w v d e) : ¬ x.PicksBefore v w e d := by
  unfold Station.PicksBefore at *
  omega

theorem picksBefore_irrefl (w : Nat) (d : BayAddr) : ¬ x.PicksBefore w w d d := fun h => picksBefore_asymm h h

/-- Candidates in the order of R44, no two of one bay. -/
structure Station.Lined (x : Station) (cs : List PickCand) : Prop where
  sorted : cs.Pairwise (fun c d => x.PicksBefore c.week d.week c.addr d.addr)
  unique : ∀ c ∈ cs, ∀ d ∈ cs, c.addr = d.addr → c = d

theorem lined_pickCands (x : Station) (article : Nat) : x.Lined (x.pickCands article) where
  sorted := by
    refine (pickCands_sorted x article).imp_of_mem fun hc hd h => ?_
    obtain ⟨_, _, _, -, rfl⟩ := mem_pickCands_iff.mp hc
    obtain ⟨_, _, _, -, rfl⟩ := mem_pickCands_iff.mp hd
    exact (pickCandBefore_iff _ _).mp h
  unique := fun _ hc _ hd => eq_of_mem_pickCands hc hd

theorem lined_tail {c : PickCand} {cs : List PickCand} (h : x.Lined (c :: cs)) : x.Lined cs where
  sorted := h.sorted.of_cons
  unique := fun d hd e he => h.unique d (.tail _ hd) e (.tail _ he)

/-- The first candidate stands before every other, in another bay. -/
theorem lined_head {c : PickCand} {cs : List PickCand} (h : x.Lined (c :: cs)) {d : PickCand} (hd : d ∈ cs) :
    x.PicksBefore c.week d.week c.addr d.addr ∧ c.addr ≠ d.addr := by
  have hbefore := List.rel_of_pairwise_cons h.sorted hd
  refine ⟨hbefore, fun haddr => ?_⟩
  obtain rfl := h.unique c (.head _) d (.tail _ hd) haddr
  exact picksBefore_irrefl _ _ hbefore

/-- What R44 asks of a selection, said without the walk: each entry stands for a candidate, of which all but the last
takes everything; the entries stand in the order of R44; no candidate before one of them is passed over. -/
structure Station.SelectsInOrder (x : Station) (cs : List PickCand) (sel : List SelEntry) : Prop where
  given : ∀ pre e post, sel = pre ++ e :: post → ∃ c ∈ cs, c.Gives e ∧ (post ≠ [] → e.qty = c.available)
  sorted : sel.Pairwise (fun d e => x.PicksBefore d.week e.week d.addr e.addr)
  noneSkipped : ∀ c ∈ cs, (∀ e ∈ sel, e.addr ≠ c.addr) → ∀ e ∈ sel, x.PicksBefore e.week c.week e.addr c.addr

theorem given_of_takesFirst {sel : List SelEntry} {cs : List PickCand} (h : TakesFirst sel cs) (pre : List SelEntry)
    (e : SelEntry) (post : List SelEntry) (hsel : sel = pre ++ e :: post) :
    ∃ c ∈ cs, c.Gives e ∧ (post ≠ [] → e.qty = c.available) := by
  match pre, cs with
  | [], [] | _ :: _, [] =>
    subst hsel
    exact h.elim
  | [], c :: cs =>
    subst hsel
    obtain ⟨hgives, hall, -⟩ := h
    exact ⟨c, .head _, hgives, hall⟩
  | p :: pre, c :: cs =>
    subst hsel
    obtain ⟨-, -, hrest⟩ := h
    obtain ⟨d, hd, hgiven⟩ := given_of_takesFirst hrest pre e post rfl
    exact ⟨d, .tail _ hd, hgiven⟩

/-- Every entry that the candidates give stands for one of them. -/
theorem exists_gives {sel : List SelEntry} {cs : List PickCand}
    (h : ∀ pre e post, sel = pre ++ e :: post → ∃ c ∈ cs, c.Gives e ∧ (post ≠ [] → e.qty = c.available))
    {e : SelEntry} (he : e ∈ sel) : ∃ c ∈ cs, c.Gives e := by
  obtain ⟨pre, post, hsel⟩ := List.append_of_mem he
  obtain ⟨c, hc, hgives, -⟩ := h pre e post hsel
  exact ⟨c, hc, hgives⟩

theorem selectsInOrder_of_takesFirst {sel : List SelEntry} {cs : List PickCand} (hcs : x.Lined cs)
    (h : TakesFirst sel cs) : x.SelectsInOrder cs sel := by
  induction sel generalizing cs with
  | nil => exact ⟨given_of_takesFirst h, .nil, fun _ _ _ _ he => by cases he⟩
  | cons e es ih =>
    match cs, h with
    | c :: cs, ⟨hgives, hall, hes⟩ =>
      have hrest := ih (lined_tail hcs) hes
      have ⟨haddr, hweek, _⟩ := hgives
      refine ⟨given_of_takesFirst ⟨hgives, hall, hes⟩, List.pairwise_cons.mpr ⟨fun d hd => ?_, hrest.sorted⟩, ?_⟩
      · obtain ⟨c', hc', haddr', hweek', -⟩ := exists_gives hrest.given hd
        rw [haddr, hweek, haddr', hweek']
        exact (lined_head hcs hc').1
      · intro d hd hfree
        obtain ⟨hfirst, hfree⟩ := List.forall_mem_cons.mp hfree
        rcases List.mem_cons.mp hd with rfl | hd
        · exact absurd haddr hfirst
        · refine List.forall_mem_cons.mpr ⟨?_, hrest.noneSkipped d hd hfree⟩
          rw [haddr, hweek]
          exact (lined_head hcs hd).1

/-- A selection in the order of R44 begins with the first candidate: it would otherwise be passed over, or taken by a
later entry. -/
theorem gives_head_of_selectsInOrder {c : PickCand} {cs : List PickCand} {e : SelEntry} {es : List SelEntry}
    (hcs : x.Lined (c :: cs)) (h : x.SelectsInOrder (c :: cs) (e :: es)) :
    c.Gives e ∧ (es ≠ [] → e.qty = c.available) := by
  obtain ⟨d, hd, hgives, hall⟩ := h.given [] e es rfl
  rcases List.mem_cons.mp hd with rfl | hd
  · exact ⟨hgives, hall⟩
  · have ⟨haddr, hweek, _⟩ := hgives
    obtain ⟨hbefore, hne⟩ := lined_head hcs hd
    rw [← haddr, ← hweek] at hbefore
    have hfree : ∀ e' ∈ e :: es, e'.addr ≠ c.addr := by
      refine List.forall_mem_cons.mpr ⟨fun heq => hne (heq.symm.trans haddr), fun e' he' heq => ?_⟩
      obtain ⟨c', hc', haddr', hweek', -⟩ := exists_gives h.given (.tail _ he')
      obtain rfl := hcs.unique c' hc' c (.head _) (haddr'.symm.trans heq)
      have hlater := List.rel_of_pairwise_cons h.sorted he'
      rw [haddr', hweek'] at hlater
      exact absurd hlater (picksBefore_asymm hbefore)
    exact absurd (h.noneSkipped c (.head _) hfree e (.head _)) (picksBefore_asymm hbefore)

theorem selectsInOrder_tail {c : PickCand} {cs : List PickCand} {e : SelEntry} {es : List SelEntry}
    (hcs : x.Lined (c :: cs)) (h : x.SelectsInOrder (c :: cs) (e :: es)) (hgives : c.Gives e) :
    x.SelectsInOrder cs es where
  given := by
    intro pre e' post hes
    obtain ⟨d, hd, hgiven, hall⟩ := h.given (e :: pre) e' post (by rw [hes, List.cons_append])
    rcases List.mem_cons.mp hd with rfl | hd
    · obtain ⟨haddr, hweek, -⟩ := hgives
      have ⟨haddr', hweek', _⟩ := hgiven
      have hlater := List.rel_of_pairwise_cons h.sorted (a' := e') (by simp [hes])
      rw [haddr, hweek, haddr', hweek'] at hlater
      exact absurd hlater (picksBefore_irrefl _ _)
    · exact ⟨d, hd, hgiven, hall⟩
  sorted := h.sorted.of_cons
  noneSkipped := by
    intro d hd hfree e' he'
    have hne : e.addr ≠ d.addr := by
      obtain ⟨haddr, -⟩ := hgives
      rw [haddr]
      exact (lined_head hcs hd).2
    exact h.noneSkipped d (.tail _ hd) (List.forall_mem_cons.mpr ⟨hne, hfree⟩) e' (.tail _ he')

theorem takesFirst_of_selectsInOrder {sel : List SelEntry} {cs : List PickCand} (hcs : x.Lined cs)
    (h : x.SelectsInOrder cs sel) : TakesFirst sel cs := by
  induction sel generalizing cs with
  | nil => cases cs <;> trivial
  | cons e es ih =>
    cases cs with
    | nil =>
      obtain ⟨c, hc, -⟩ := h.given [] e es rfl
      cases hc
    | cons c cs =>
      obtain ⟨hgives, hall⟩ := gives_head_of_selectsInOrder hcs h
      exact ⟨hgives, hall, ih (lined_tail hcs) (selectsInOrder_tail hcs h hgives)⟩

theorem takesFirst_iff_selectsInOrder {sel : List SelEntry} {cs : List PickCand} (hcs : x.Lined cs) :
    TakesFirst sel cs ↔ x.SelectsInOrder cs sel :=
  ⟨selectsInOrder_of_takesFirst hcs, takesFirst_of_selectsInOrder hcs⟩

/-! #### The selection of an offer -/

/-- The unit mass of an article, as the projection of a pick reads it (R41). -/
def Station.unitMassOf (x : Station) (article : Nat) : Nat :=
  ((x.smap.article? article).map (fun e => e.unitMass)).getD 0

theorem pickSelection_eq_some_iff (article qty : Nat) (sel : List SelEntry) :
    x.pickSelection article qty = some sel ↔ x.SelectsInOrder (x.pickCands article) sel ∧ quantityOf sel = qty
      ∧ sel.length ≤ 4 ∧ x.legal (x.projectPick sel (x.unitMassOf article)) = true := by
  have havailable : ∀ c ∈ x.pickCands article, 1 ≤ c.available := by
    intro c hc
    obtain ⟨_, _, _, hcand, rfl⟩ := mem_pickCands_iff.mp hc
    obtain ⟨_, -, -, -, -, hpos⟩ := (pickCandidate_iff ..).mp hcand
    exact hpos
  rw [Station.pickSelection, Option.filter_eq_some_iff, walkCands_eq_some_iff havailable,
    takesFirst_iff_selectsInOrder (lined_pickCands x article), and_assoc, and_assoc]
  rfl

/-- The entries, without the candidates of the sort: each is of a bay that is a pick candidate. -/
theorem given_pickCands_iff (article : Nat) (e : SelEntry) (last : Prop) :
    (∃ c ∈ x.pickCands article, c.Gives e ∧ (last → e.qty = c.available)) ↔
      ∃ available, x.PickCandidate article e.addr e.week available
        ∧ 1 ≤ e.qty ∧ e.qty ≤ available ∧ (last → e.qty = available) ∧ e.taskMark = false := by
  simp only [mem_pickCands_iff]
  constructor
  · rintro ⟨_, ⟨d, w, n, hcand, rfl⟩, ⟨haddr, hweek, hpos, hle, hmark⟩, hall⟩
    rw [haddr, hweek]
    exact ⟨n, hcand, hpos, hle, hall, hmark⟩
  · rintro ⟨n, hcand, hpos, hle, hall, hmark⟩
    exact ⟨_, ⟨e.addr, e.week, n, hcand, rfl⟩, ⟨rfl, rfl, hpos, hle, hmark⟩, hall⟩

theorem forall_mem_pickCands_iff (article : Nat) (P : BayAddr → Nat → Prop) :
    (∀ c ∈ x.pickCands article, P c.addr c.week) ↔
      ∀ d week available, x.PickCandidate article d week available → P d week := by
  constructor
  · intro h d w n hcand
    exact h _ (mem_pickCands_iff.mpr ⟨d, w, n, hcand, rfl⟩)
  · intro h c hc
    obtain ⟨d, w, n, hcand, rfl⟩ := mem_pickCands_iff.mp hc
    exact h d w n hcand

/-! #### Its RESERVE -/

theorem askedOf_eq_zero {sel : List SelEntry} {a : BayAddr} (h : ∀ e ∈ sel, a ≠ e.addr) : askedOf sel a = 0 := by
  induction sel with
  | nil => rfl
  | cons e es ih =>
    obtain ⟨he, hes⟩ := List.forall_mem_cons.mp h
    rw [askedOf_cons, if_neg he, ih hes]

/-- Entries of different bays ask each bay for their own quantity alone. -/
theorem askedOf_of_mem {sel : List SelEntry} (h : sel.Pairwise (fun d e => d.addr ≠ e.addr)) {e : SelEntry}
    (he : e ∈ sel) : askedOf sel e.addr = e.qty := by
  induction sel with
  | nil => cases he
  | cons d es ih =>
    obtain ⟨hd, hes⟩ := List.pairwise_cons.mp h
    rw [askedOf_cons]
    rcases List.mem_cons.mp he with rfl | he
    · rw [if_pos rfl, askedOf_eq_zero hd, Nat.add_zero]
    · rw [if_neg (hd e he).symm, ih hes he, Nat.zero_add]

theorem selectsInOrder_addr_ne {sel : List SelEntry} {cs : List PickCand} (hcs : x.Lined cs)
    (h : x.SelectsInOrder cs sel) : sel.Pairwise (fun d e => d.addr ≠ e.addr) := by
  refine h.sorted.imp_of_mem fun hd he hbefore heq => ?_
  obtain ⟨c, hc, haddr, hweek, -⟩ := exists_gives h.given hd
  obtain ⟨c', hc', haddr', hweek', -⟩ := exists_gives h.given he
  obtain rfl := hcs.unique c hc c' hc' (by rw [← haddr, ← haddr', heq])
  rw [hweek, hweek', heq] at hbefore
  exact picksBefore_irrefl _ _ hbefore

/-- The RESERVE of the selection is accepted (R10, R45). -/
theorem reserve_pickSelection {article qty : Nat} {sel : List SelEntry} (h : x.pickSelection article qty = some sel) :
    (x.reserve article sel).1 = .accepted := by
  obtain ⟨horder, -⟩ := (pickSelection_eq_some_iff article qty sel).mp h
  have hdistinct := selectsInOrder_addr_ne (lined_pickCands x article) horder
  rw [reserve_of_fits fun e he => ?_]
  obtain ⟨pre, post, hsel⟩ := List.append_of_mem he
  obtain ⟨n, hcand, -, hle, -⟩ := (given_pickCands_iff article e _).mp (horder.given pre e post hsel)
  obtain ⟨b, hb, hbinding, -, rfl, -⟩ := (pickCandidate_iff ..).mp hcand
  exact ⟨b, e.week, hb, hbinding, by rwa [askedOf_of_mem hdistinct he]⟩

end

/-- Settles O50: the walk over the sorted candidates is the selection said without it, and its RESERVE fits. -/
theorem pickSelectionCovers : Obligations.PickSelectionCovers := by
  intro x article qty sel _ candidate before
  refine ⟨?_, reserve_pickSelection⟩
  have hskipped := forall_mem_pickCands_iff (x := x) article
    (fun d week => (∀ e ∈ sel, e.addr ≠ d) → ∀ e ∈ sel, before e.week week e.addr d)
  rw [pickSelection_eq_some_iff, legal_iff]
  constructor
  · rintro ⟨horder, hqty, hlength, hlegal⟩
    exact ⟨fun pre e post hsel => (given_pickCands_iff article e _).mp (horder.given pre e post hsel), horder.sorted,
      hskipped.mp horder.noneSkipped, hqty, hlength, hlegal⟩
  · rintro ⟨hentries, hsorted, hnone, hqty, hlength, hlegal⟩
    have hgiven := fun pre e post hsel => (given_pickCands_iff article e _).mpr (hentries pre e post hsel)
    exact ⟨⟨hgiven, hsorted, hskipped.mpr hnone⟩, hqty, hlength, hlegal⟩

end Sys2Proof.Machine
end

section
/-! ### What the requests between the blocks leave of the Bus Interface -/

namespace Sys2Proof.Machine

/-- The Bus Interface but for its post table and its owed set: all that the view shows of it. -/
def Bus.line (b : Bus) : Bus := { b with posts := [], nextHandle := 0, owed := [] }

/-- `c` is `b` with no more than posts added at the end of its table, under fresh handles, and kinds owed. -/
structure Bus.Grown (b c : Bus) : Prop where
  line : c.line = b.line
  posts : ∃ l, c.posts = b.posts ++ l ∧ ∀ p ∈ l, b.nextHandle ≤ p.handle
  handles : b.nextHandle ≤ c.nextHandle
  owed : ∀ k ∈ b.owed, k ∈ c.owed

/-- `c` is `b` but for posts, handles given out and kinds owed, and no slot that was free has come to hold its old post
again. -/
structure Bus.Carried (b c : Bus) : Prop where
  line : c.line = b.line
  handles : b.nextHandle ≤ c.nextHandle
  free : ∀ h < b.nextHandle, b.slotFree h → c.slotFree h

/-- Stations of one view have one line. -/
theorem line_of_view {s t : Station} (h : t.view = s.view) : t.bus.line = s.bus.line := congrArg View.bus h

section
variable {b c d : Bus}

@[simp] theorem Bus.Grown.refl (b : Bus) : b.Grown b :=
  ⟨rfl, ⟨[], by simp⟩, le_rfl, fun _ => id⟩

theorem Bus.Grown.trans (h₁ : b.Grown c) (h₂ : c.Grown d) : b.Grown d := by
  obtain ⟨l, hl, hfresh⟩ := h₁.posts
  obtain ⟨m, hm, hfresh'⟩ := h₂.posts
  refine ⟨h₂.line.trans h₁.line, ⟨l ++ m, by simp [hm, hl], ?_⟩, h₁.handles.trans h₂.handles,
    fun k hk => h₂.owed k (h₁.owed k hk)⟩
  intro p hp
  rcases List.mem_append.mp hp with hp | hp
  · exact hfresh p hp
  · exact h₁.handles.trans (hfresh' p hp)

@[simp] theorem Bus.Carried.refl (b : Bus) : b.Carried b := ⟨rfl, le_rfl, fun _ _ => id⟩

theorem Bus.Carried.trans (h₁ : b.Carried c) (h₂ : c.Carried d) : b.Carried d :=
  ⟨h₂.line.trans h₁.line, h₁.handles.trans h₂.handles,
    fun h hh hf => h₂.free h (hh.trans_le h₁.handles) (h₁.free h hh hf)⟩

theorem Bus.Grown.carried (h : b.Grown c) : b.Carried c := by
  refine ⟨h.line, h.handles, fun n hn hfree => ?_⟩
  obtain ⟨l, hl, hfresh⟩ := h.posts
  intro p hp
  rw [hl] at hp
  rcases List.mem_append.mp hp with hp | hp
  · exact hfree p hp
  · exact (hn.trans_le (hfresh p hp)).ne'

/-- A post that stands in the table still stands there. -/
theorem Bus.Grown.mem (h : b.Grown c) {p : Post} (hp : p ∈ b.posts) : p ∈ c.posts := by
  obtain ⟨l, hl, -⟩ := h.posts
  rw [hl]
  exact List.mem_append_left l hp

theorem Bus.Grown.holdsPost (h : b.Grown c) {n : Nat} {k : Kind} {p : List Byte} (hp : b.holdsPost n k p) :
    c.holdsPost n k p := by
  obtain ⟨x, hx, hpost⟩ := hp
  exact ⟨x, h.mem hx, hpost⟩

end

theorem foldl_grown {α : Type} {b : Bus} (f : Station → α → Station) (hf : ∀ s x, b.Grown s.bus → b.Grown (f s x).bus)
    (l : List α) {s : Station} (h : b.Grown s.bus) : b.Grown (l.foldl f s).bus := by
  induction l generalizing s with
  | nil => exact h
  | cons x xs ih => exact ih (hf s x h)

theorem foldl_carried {α : Type} {b : Bus} (f : Station → α → Station)
    (hf : ∀ s x, b.Carried s.bus → b.Carried (f s x).bus) (l : List α) {s : Station} (h : b.Carried s.bus) :
    b.Carried (l.foldl f s).bus := by
  induction l generalizing s with
  | nil => exact h
  | cons x xs ih => exact ih (hf s x h)

theorem foldl_bus {α : Type} (f : Station → α → Station) (h : ∀ s x, (f s x).bus = s.bus) (l : List α) (s : Station) :
    (l.foldl f s).bus = s.bus := by
  induction l generalizing s with
  | nil => rfl
  | cons x xs ih => rw [List.foldl_cons, ih, h]

section
variable {b : Bus} {s : Station}

/-! #### Posts added -/

theorem Bus.Grown.addPost (h : b.Grown s.bus) (k : Kind) (key : Key) (p : List Byte) :
    b.Grown (s.addPost k key p).bus := by
  refine h.trans ⟨rfl, ⟨_, rfl, ?_⟩, Nat.le_succ _, fun _ => id⟩
  intro x hx
  rw [List.mem_singleton.mp hx]

theorem mem_addKind {k x : Kind} {l : List Kind} : x ∈ addKind k l ↔ x = k ∨ x ∈ l := by
  induction l with
  | nil => simp [addKind]
  | cons y ys ih =>
    unfold addKind
    split
    · simp
    · split
      · rename_i h
        have hk : k = y := by revert h; cases k <;> cases y <;> decide
        subst hk
        simp
      · simp [ih]
        tauto

theorem Bus.Grown.oweKind (h : b.Grown s.bus) (k : Kind) : b.Grown (s.oweKind k).bus := by
  unfold Station.oweKind
  split
  · exact h
  · exact h.trans ⟨rfl, ⟨[], by simp⟩, le_rfl, fun _ hk => mem_addKind.mpr (.inr hk)⟩

theorem Bus.Grown.post (h : b.Grown s.bus) (k : Kind) (p : List Byte) : b.Grown (s.post k p).2.bus := by
  unfold Station.post
  split
  · exact h.addPost _ _ _
  · exact h.oweKind _

theorem Bus.Grown.post_of_eq {t : Station} {k : Kind} {p : List Byte} {n : Option Nat} (h : b.Grown s.bus)
    (e : s.post k p = (n, t)) : b.Grown t.bus := by
  have := h.post k p
  rwa [e] at this

@[simp] theorem Bus.Grown.statusTrigger (h : b.Grown s.bus) : b.Grown s.statusTrigger.bus := by
  unfold Station.statusTrigger
  split
  · exact h
  · split
    · rename_i e; exact h.post_of_eq e
    · rename_i u e
      have hu : b.Grown u.bus := h.post_of_eq e
      exact hu

@[simp] theorem Bus.Grown.nonHaltingFault (h : b.Grown s.bus) (f : StationFault) :
    b.Grown (s.nonHaltingFault f).bus :=
  Bus.Grown.statusTrigger h

/-! #### What follows within an event -/

@[simp] theorem Bus.Grown.postReady (h : b.Grown s.bus) (n : Nat) : b.Grown (s.postReady n).bus := by
  unfold Station.postReady
  split
  · exact h
  · split
    · split
      · rename_i u e
        have hu : b.Grown u.bus := h.post_of_eq e
        exact hu
      · rename_i u e
        have hu : b.Grown u.bus := h.post_of_eq e
        exact hu
    · exact h

@[simp] theorem Bus.Grown.postReadies (h : b.Grown s.bus) : b.Grown s.postReadies.bus :=
  foldl_grown _ (fun _ n ht => ht.postReady n) _ h

@[simp] theorem Bus.Grown.markStuck (h : b.Grown s.bus) (o : Nat) (d : Option BayAddr) :
    b.Grown (s.markStuck o d).bus := by
  unfold Station.markStuck
  split
  · exact h
  · split
    · exact h
    · exact Bus.Grown.nonHaltingFault (s := s.updGroup o _) h _

@[simp] theorem Bus.Grown.askPutback (h : b.Grown s.bus) (o : Nat) (d : Option BayAddr) :
    b.Grown (s.askPutback o d).bus := by
  unfold Station.askPutback
  dsimp only
  split <;> simp [h]

@[simp] theorem Bus.Grown.startPutback (h : b.Grown s.bus) : b.Grown s.startPutback.bus := by
  unfold Station.startPutback
  split
  · exact h
  · split
    · exact h
    · split <;> simp [h]

@[simp] theorem Bus.Grown.servePutback (h : b.Grown s.bus) : b.Grown s.servePutback.bus := by
  unfold Station.servePutback
  split
  · exact h
  · split
    · exact h
    · split
      · dsimp only
        refine Bus.Grown.askPutback ?_ _ _
        rw [expectDest_bus]
        split
        · rwa [unexpect_bus]
        · exact h
      · exact h

@[simp] theorem Bus.Grown.rechooseStuck (h : b.Grown s.bus) : b.Grown s.rechooseStuck.bus := by
  unfold Station.rechooseStuck
  split
  · exact h
  · split
    · exact h
    · rename_i t _ _
      have hb := expectDest_bus s t
      split
      · exact h
      · rename_i e
        rw [e] at hb
        dsimp only at hb ⊢
        split <;> simp [hb, h]

@[simp] theorem Bus.Grown.blockedPutback (h : b.Grown s.bus) (o : Nat) (d : BayAddr) :
    b.Grown (s.blockedPutback o d).bus := by
  unfold Station.blockedPutback
  split <;> simp [h]

@[simp] theorem Bus.Grown.decision (h : b.Grown s.bus) : b.Grown s.decision.bus := by
  unfold Station.decision
  split
  · refine foldl_grown _ (fun t x ht => ht.blockedPutback x.1 x.2) _ ?_
    split
    · exact h
    · rw [startTask_bus]
      exact h
  · exact h

@[simp] theorem Bus.Grown.decideAfter (h : b.Grown s.bus) (before : Station) : b.Grown (s.decideAfter before).bus := by
  unfold Station.decideAfter
  split <;> simp [h]

@[simp] theorem Bus.Grown.beginPutback (h : b.Grown s.bus) : b.Grown s.beginPutback.bus := by
  simp [Station.beginPutback, h]

@[simp] theorem Bus.Grown.serveClaims (h : b.Grown s.bus) (fuel : Nat) : b.Grown (s.serveClaims fuel).bus := by
  induction fuel generalizing s with
  | zero => exact h
  | succ n ih =>
    unfold Station.serveClaims
    split
    · exact h
    · split
      · exact ih (Bus.Grown.decision (by simp [h]))
      · exact h

@[simp] theorem Bus.Grown.serveAudit (h : b.Grown s.bus) (byCarrier : Bool) (fuel : Nat) :
    b.Grown (s.serveAudit byCarrier fuel).bus := by
  induction fuel generalizing s with
  | zero => exact h
  | succ n ih =>
    unfold Station.serveAudit
    split
    · split
      · exact h
      · exact ih (Bus.Grown.decision (by simp [h]))
    · exact h

@[simp] theorem Bus.Grown.serveLane (h : b.Grown s.bus) (old : Station) : b.Grown (s.serveLane old).bus := by
  unfold Station.serveLane
  dsimp only
  refine Bus.Grown.decideAfter (Bus.Grown.servePutback ?_) _
  split
  · exact h.postReadies.beginPutback.rechooseStuck.decideAfter _
  · exact h.postReadies.beginPutback

@[simp] theorem Bus.Grown.settleRound (h : b.Grown s.bus) (old : Station) : b.Grown (s.settleRound old).bus := by
  have hface : b.Grown s.faceAdvance.resumeMove.acknowledge.bus := by simpa using h
  have hround : b.Grown ((s.faceAdvance.resumeMove.acknowledge.serveTasks old).serveDrive old).bus := by
    rw [serveDrive_bus]
    exact ((hface.serveLane old).serveClaims 24).serveAudit _ 24
  unfold Station.settleRound
  dsimp only
  split
  · exact hround.decision
  · exact hround

theorem Bus.Grown.settleRounds (h : b.Grown s.bus) (fuel : Nat) (old : Station) :
    b.Grown (settleRounds fuel old s).bus := by
  induction fuel generalizing old s with
  | zero => exact h
  | succ n ih =>
    rw [Machine.settleRounds]
    split
    · exact h
    · exact ih (h.settleRound old) s

/-- What follows within an event adds posts and owed kinds to the Bus Interface, and changes nothing else of it. -/
@[simp] theorem Bus.Grown.settle (h : b.Grown s.bus) (old : Station) : b.Grown (s.settle old).bus := by
  unfold Station.settle
  split
  · exact h.settleRounds 16 old
  · exact h

end

theorem settle_grown (s old : Station) : s.bus.Grown (s.settle old).bus := (Bus.Grown.refl _).settle old

end Sys2Proof.Machine
end

section
/-! ### The Bus Interface under the offers, the Claim Unit and the Consolidation Unit -/

namespace Sys2Proof.Machine

section
variable {b : Bus} {s : Station}

/-! #### Requests that leave the Bus Interface as it is -/

@[simp] theorem updBid_bus (s : Station) (n : Nat) (f : Bid → Bid) : (s.updBid n f).bus = s.bus := rfl
@[simp] theorem updPick_bus (s : Station) (n : Nat) (f : PickBody → PickBody) : (s.updPick n f).bus = s.bus := rfl
@[simp] theorem updPut_bus (s : Station) (n : Nat) (f : PutBody → PutBody) : (s.updPut n f).bus = s.bus := rfl
@[simp] theorem putReason_bus (s : Station) (c : Nat) (r : Reason) (v : Bool) : (s.putReason c r v).bus = s.bus := rfl
@[simp] theorem dropOwnLine_bus (s : Station) (o l : Nat) : (s.dropOwnLine o l).bus = s.bus := rfl

@[simp] theorem testArticle_bus (s : Station) (code : Nat) : (s.testArticle code).bus = s.bus :=
  (testArticle_onlySmap s code).bus

@[simp] theorem unreserve_bus (s : Station) (l : List (BayAddr × Nat)) : (s.unreserve l).bus = s.bus :=
  (unreserve_onlySmap s l).bus

@[simp] theorem setCountAfterCut_bus (s : Station) (a : BayAddr) (n : Nat) (d : Bool) :
    (s.setCountAfterCut a n d).bus = s.bus :=
  changeBay_bus _ _ _

@[simp] theorem keepNote_bus (s : Station) (r : LineRec) : (s.keepNote r).bus = s.bus := by
  unfold Station.keepNote
  split
  · rfl
  · split <;> rfl

theorem reserve_bus (s : Station) (article : Nat) (entries : List SelEntry) :
    (s.reserve article entries).2.bus = s.bus := by
  unfold Station.reserve
  split
  · rfl
  · exact foldl_bus _ (fun _ _ => changeBay_bus _ _ _) _ _

@[simp] theorem releasePick_bus (s : Station) (n : Nat) : (s.releasePick n).bus = s.bus := by
  unfold Station.releasePick
  split <;> simp

@[simp] theorem dropIfRemoved_bus (s : Station) (id : Nat) : (s.dropIfRemoved id).bus = s.bus := by
  unfold Station.dropIfRemoved
  split <;> rfl

@[simp] theorem stopMove_bus (s : Station) : s.stopMove.bus = s.bus := by
  unfold Station.stopMove
  split
  · rfl
  · dsimp only
    split <;> simp

@[simp] theorem markMismatch_bus (s : Station) : s.markMismatch.bus = s.bus :=
  foldl_bus (fun (t : Station) (x : Nat × Nat) => (t.removeTask x.1).putReason x.2 .audit false) (fun _ _ => rfl) _ _

@[simp] theorem requestRelease_bus (s : Station) (o : Nat) : (s.requestRelease o).bus = s.bus := by
  unfold Station.requestRelease
  split
  · rfl
  · split <;> rfl

@[simp] theorem requestHeld_bus (s : Station) : s.requestHeld.bus = s.bus := by
  unfold Station.requestHeld
  split <;> simp

@[simp] theorem tyreTaken_bus (s : Station) (n : Nat) (a : BayAddr) : (s.tyreTaken n a).bus = s.bus := by
  unfold Station.tyreTaken
  split <;> rfl

@[simp] theorem tyreStaged_bus (s : Station) (o : Nat) (t : Tyre) : (s.tyreStaged o t).bus = s.bus := by
  unfold Station.tyreStaged
  split
  · unfold Station.raisePending
    split
    · split <;> rfl
    · rfl
  · rfl

@[simp] theorem infeedEmptied_bus (s : Station) : s.infeedEmptied.bus = s.bus := by
  unfold Station.infeedEmptied
  split <;> rfl

/-! #### Posts made and withdrawn -/

theorem Bus.Carried.grown {c d : Bus} (h : b.Carried c) (hg : c.Grown d) : b.Carried d := h.trans hg.carried

theorem Bus.Carried.post_of_eq {t : Station} {k : Kind} {p : List Byte} {n : Option Nat} (h : b.Carried s.bus)
    (e : s.post k p = (n, t)) : b.Carried t.bus :=
  h.grown ((Bus.Grown.refl _).post_of_eq e)

theorem Bus.Carried.addPost (h : b.Carried s.bus) (k : Kind) (key : Key) (p : List Byte) :
    b.Carried (s.addPost k key p).bus :=
  h.grown ((Bus.Grown.refl _).addPost k key p)

theorem Bus.Carried.statusTrigger (h : b.Carried s.bus) : b.Carried s.statusTrigger.bus :=
  h.grown (Bus.Grown.refl _).statusTrigger

theorem Bus.Carried.nonHaltingFault (h : b.Carried s.bus) (f : StationFault) : b.Carried (s.nonHaltingFault f).bus :=
  h.grown ((Bus.Grown.refl _).nonHaltingFault f)

theorem Bus.Carried.unoweKind (h : b.Carried s.bus) (k : Kind) : b.Carried (s.unoweKind k).bus :=
  h.trans ⟨rfl, le_rfl, fun _ _ hf => hf⟩

theorem Bus.Carried.freeSlot (h : b.Carried s.bus) (n : Nat) : b.Carried (s.freeSlot n).bus :=
  h.trans ⟨rfl, le_rfl, fun _ _ hf p hp => hf p (List.mem_of_mem_filter hp)⟩

theorem trimOwedReadies_bus (s : Station) (l : List Nat) : (s.trimOwedReadies l).bus = s.bus := by
  induction l generalizing s with
  | nil => rfl
  | cons n rest ih =>
    unfold Station.trimOwedReadies
    split
    · rfl
    · rw [ih]
      rfl

/-- An owner's answer to an offer adds at most its one post. -/
theorem fillOwed_grown (s : Station) (k : Kind) : s.bus.Grown (s.fillOwed k).station.bus := by
  have hpost : ∀ (t : Station) (k : Kind) (key : Key) (p : List Byte), t.bus.Grown (t.addPost k key p).bus :=
    fun t k key p => (Bus.Grown.refl t.bus).addPost k key p
  cases k <;> simp only [Station.fillOwed, declined]
  case abn =>
    unfold Station.fillAbn
    split
    · exact .refl _
    · exact hpost _ _ _ _
  case rdy =>
    have htrim := trimOwedReadies_bus s s.cnu.owedReadies
    unfold Station.fillRdy
    dsimp only
    split
    · simp [declined, htrim]
    · split
      · simp [declined, htrim]
      · rw [← htrim]
        exact hpost _ _ _ _
  case cls =>
    unfold Station.fillCls
    split
    · exact .refl _
    · exact hpost _ _ _ _
  case arp =>
    unfold Station.fillArp
    split
    · exact .refl _
    · exact hpost _ _ _ _
  case san =>
    unfold Station.fillSan
    split
    · exact .refl _
    · split
      · exact .refl _
      · split
        · exact .refl _
        · exact hpost _ _ _ _
  case sts =>
    unfold Station.fillSts
    split
    · exact hpost _ _ _ _
    · exact .refl _
  all_goals exact .refl _

theorem Bus.Carried.offerKinds (h : b.Carried s.bus) (ks : List Kind) : b.Carried (offerKinds s ks).bus := by
  induction ks generalizing s with
  | nil => exact h
  | cons k ks ih =>
    have hfill := h.grown (fillOwed_grown s k)
    unfold Machine.offerKinds
    dsimp only
    split
    · exact ih h
    · split
      · split
        · exact hfill
        · exact hfill.unoweKind k
      · exact ih (hfill.unoweKind k)

theorem Bus.Carried.offerSlot (h : b.Carried s.bus) : b.Carried s.offerSlot.bus := by
  unfold Station.offerSlot
  split
  · exact h.offerKinds _
  · exact h

theorem Bus.Carried.withdraw (h : b.Carried s.bus) (n : Option Nat) : b.Carried (s.withdraw n).bus := by
  unfold Station.withdraw
  split
  · exact h
  · split
    · exact (h.freeSlot _).offerSlot
    · exact h

/-! #### The Claim Unit -/

theorem Bus.Carried.raiseAbandon (h : b.Carried s.bus) (o : Nat) (c : Cause) : b.Carried (s.raiseAbandon o c).bus := by
  unfold Station.raiseAbandon
  split
  · exact h
  · split
    · split
      · rename_i u e
        have hu : b.Carried u.bus := h.post_of_eq e
        exact hu
      · rename_i u e
        have hu : b.Carried u.bus := h.post_of_eq e
        exact hu
    · exact h

theorem Bus.Carried.withdrawBid (h : b.Carried s.bus) (r : LineRec) : b.Carried (s.withdrawBid r).bus := by
  unfold Station.withdrawBid
  split
  · refine Bus.Carried.withdraw ?_ _
    split
    · exact h
    · exact h.withdraw _
  · exact h

theorem Bus.Carried.putawayEnded (h : b.Carried s.bus) (n : Nat) : b.Carried (s.putawayEnded n).bus := by
  unfold Station.putawayEnded
  split
  · exact Bus.Carried.nonHaltingFault (by exact h) _
  · exact h

theorem Bus.Carried.dropRecord (h : b.Carried s.bus) (n : Nat) : b.Carried (s.dropRecord n).bus := by
  unfold Station.dropRecord
  split
  · exact h
  · rename_i r _
    have hbid : b.Carried ((({ s with clu := { s.clu with
        records := s.clu.records.filter (fun x => x.serial != n) } } : Station).withdrawBid r).keepNote r).bus := by
      rw [keepNote_bus]
      exact Bus.Carried.withdrawBid (by exact h) r
    rw [testArticle_bus]
    dsimp only
    split
    · split <;> simpa using hbid
    · refine Bus.Carried.putawayEnded ?_ _
      simpa using hbid

theorem Bus.Carried.dropWhere (h : b.Carried s.bus) (p : LineRec → Bool) : b.Carried (s.dropWhere p).bus :=
  foldl_carried _ (fun _ n ht => ht.dropRecord n) _ h

theorem Bus.Carried.turnReturning (h : b.Carried s.bus) (n : Nat) : b.Carried (s.turnReturning n).bus := by
  unfold Station.turnReturning
  dsimp only
  split
  · simpa using h
  · refine Bus.Carried.dropRecord ?_ n
    simpa using h

theorem Bus.Carried.returnWhere (h : b.Carried s.bus) (p : LineRec → Bool) : b.Carried (s.returnWhere p).bus :=
  foldl_carried _ (fun _ n ht => ht.turnReturning n) _ h

theorem Bus.Carried.abandonRecord (h : b.Carried s.bus) (n : Nat) : b.Carried (s.abandonRecord n).bus := by
  unfold Station.abandonRecord
  split
  · exact h
  · split
    · exact (h.withdraw _).dropRecord n
    · exact h.dropRecord n

theorem Bus.Carried.abandonRecords (h : b.Carried s.bus) (o : Nat) : b.Carried (s.abandonRecords o).bus :=
  Bus.Carried.returnWhere (foldl_carried _ (fun _ n ht => ht.abandonRecord n) _ h) _

theorem Bus.Carried.cutWalk (h : b.Carried s.bus) (a : BayAddr) (l : List Nat) (excess : Nat) :
    b.Carried (cutWalk a l excess s).bus := by
  induction l generalizing excess s with
  | nil => exact h
  | cons n rest ih =>
    unfold Machine.cutWalk
    split
    · exact h
    · split
      · exact ih h _
      · split
        · refine ih ?_ _
          split
          · exact (h.dropRecord n).raiseAbandon _ _
          · exact h.dropRecord n
        · exact ih h _

theorem Bus.Carried.cutTo (h : b.Carried s.bus) (a : BayAddr) (n : Nat) : b.Carried (s.cutTo a n).bus := by
  unfold Station.cutTo
  split
  · exact h
  · exact h.cutWalk _ _ _

theorem Bus.Carried.setCount (h : b.Carried s.bus) (a : BayAddr) (n : Nat) : b.Carried (s.setCount a n).bus := by
  unfold Station.setCount
  split
  · exact h
  · rw [setCountAfterCut_bus]
    exact h.cutTo _ _

theorem Bus.Carried.openRecord (h : b.Carried s.bus) (article qty key : Nat) (body : RecBody) :
    b.Carried (s.openRecord article qty key body).bus := by
  unfold Station.openRecord
  dsimp only
  split
  · exact Bus.Carried.addPost (by exact h) _ _ _
  · exact Bus.Carried.dropRecord (by exact h) _

theorem Bus.Carried.bidPick (h : b.Carried s.bus) (o l a q : Nat) : b.Carried (s.bidPick o l a q).bus := by
  unfold Station.bidPick
  split
  · exact h
  · rename_i sel _
    have hreserve := reserve_bus s a sel
    split
    · rename_i e
      rw [e] at hreserve
      exact Bus.Carried.openRecord (hreserve ▸ h) _ _ _ _
    · exact h

theorem Bus.Carried.bidPutaway (h : b.Carried s.bus) (n w q : Nat) (a : Article) :
    b.Carried (s.bidPutaway n w q a).bus := by
  unfold Station.bidPutaway
  dsimp only
  split
  · exact h
  · rename_i x _
    have hexpect := expect_bus s x.addr w q ((s.smap.article? a.code).getD a)
    split
    · rename_i e
      rw [e] at hexpect
      exact Bus.Carried.openRecord (hexpect ▸ h) _ _ _ _
    · exact h

theorem Bus.Carried.hearClaim (h : b.Carried s.bus) (code : Nat × Nat) (key : Nat) :
    b.Carried (s.hearClaim code key).bus := by
  unfold Station.hearClaim
  split
  · exact h
  · split
    · dsimp only
      split
      · exact Bus.Carried.dropRecord (by exact h) _
      · exact h
    · exact h

theorem Bus.Carried.postClose (h : b.Carried s.bus) (r : LineRec) : b.Carried (s.postClose r).bus := by
  unfold Station.postClose
  split
  · rename_i u e
    have hu : b.Carried u.bus := h.post_of_eq e
    exact hu
  · rename_i u e
    have hu : b.Carried u.bus := h.post_of_eq e
    exact hu

theorem Bus.Carried.winRound (h : b.Carried s.bus) (r : LineRec) (own : Bool) : b.Carried (s.winRound r own).bus := by
  have hclose : b.Carried (if own then s else s.withdraw r.bid.close).bus := by
    split
    · exact h
    · exact h.withdraw _
  unfold Station.winRound
  dsimp only
  split <;> exact hclose

theorem Bus.Carried.hearClose (h : b.Carried s.bus) (code : Nat × Nat) (own : Bool) :
    b.Carried (s.hearClose code own).bus := by
  unfold Station.hearClose
  split
  · exact h
  · split
    · split
      · exact h.winRound _ _
      · exact h.dropRecord _
    · exact h

theorem Bus.Carried.windowExpired (h : b.Carried s.bus) (r : LineRec) : b.Carried (s.windowExpired r).bus := by
  unfold Station.windowExpired
  split
  · exact h.postClose r
  · split
    · exact h.dropRecord _
    · exact h

theorem Bus.Carried.claimsOnWithdrawal (h : b.Carried s.bus) : b.Carried s.claimsOnWithdrawal.bus :=
  (h.dropWhere _).returnWhere _

/-! #### The Consolidation Unit -/

theorem Bus.Carried.openOrder (h : b.Carried s.bus) (o n : Nat) : b.Carried (s.openOrder o n).bus := by
  unfold Station.openOrder
  split
  · exact h
  · split
    · exact h
    · split
      · rename_i e _
        have hevict : b.Carried (s.evict e).bus := by
          unfold Station.evict
          dsimp only
          split
          · exact Bus.Carried.dropWhere (by exact h) _
          · exact h
        exact hevict
      · exact h

theorem Bus.Carried.releaseComplete (h : b.Carried s.bus) (o : Nat) : b.Carried (s.releaseComplete o).bus := by
  unfold Station.releaseComplete
  dsimp only
  rw [requestHeld_bus]
  exact Bus.Carried.dropWhere (by exact h) _

theorem Bus.Carried.withdrawAbandon (h : b.Carried s.bus) (o : Nat) : b.Carried (s.withdrawAbandon o).bus := by
  unfold Station.withdrawAbandon
  split
  · exact h
  · exact Bus.Carried.withdraw (by exact h) _

theorem Bus.Carried.settleUnstaged (h : b.Carried s.bus) (o : Nat) : b.Carried (s.settleUnstaged o).bus := by
  unfold Station.settleUnstaged
  dsimp only
  rw [foldl_bus _ (fun _ _ => releasePick_bus _ _)]
  exact h.dropWhere _

theorem Bus.Carried.completeOrder (h : b.Carried s.bus) (o : Nat) : b.Carried (s.completeOrder o).bus := by
  have htentative := Bus.Carried.dropWhere (Bus.Carried.withdrawAbandon
    (s := s.updOrder o (fun e => { e with state := .releasing, holdStart := none })) h o)
    (fun r => r.pickOf o [.tentative])
  unfold Station.completeOrder
  dsimp only
  split
  · refine Bus.Carried.settleUnstaged ?_ o
    rw [requestRelease_bus]
    exact htentative
  · exact Bus.Carried.abandonRecords (by exact htentative) o

theorem Bus.Carried.hearReady (h : b.Carried s.bus) (o l : Nat) (own : Bool) : b.Carried (s.hearReady o l own).bus := by
  unfold Station.hearReady
  split
  · exact h
  · split
    · dsimp only
      split
      · exact Bus.Carried.completeOrder (by exact h) o
      · split <;> exact h
    · exact h

theorem Bus.Carried.withdrawReadies (h : b.Carried s.bus) (o : Nat) : b.Carried (s.withdrawReadies o).bus := by
  unfold Station.withdrawReadies
  refine foldl_carried _ (fun _ n ht => ht.withdraw (some n)) _ ?_
  rw [updGroup_bus, foldl_bus _ (fun _ _ => by exact rfl)]
  exact h

theorem Bus.Carried.hearAbandon (h : b.Carried s.bus) (o : Nat) : b.Carried (s.hearAbandon o).bus := by
  unfold Station.hearAbandon
  split
  · rw [updOrder_bus, updGroup_bus]
    exact ((h.withdrawReadies o).withdrawAbandon o).abandonRecords o
  · exact h

theorem Bus.Carried.tyreReturned (h : b.Carried s.bus) (o : Nat) : b.Carried (s.tyreReturned o).bus := by
  unfold Station.tyreReturned
  split
  · exact h
  · split
    · exact h
    · rename_i t rest _
      have hrecord : ∀ u : Station, b.Carried u.bus → b.Carried (match t.serial with
          | some n => if rest.any (fun x => x.serial == some n) then u else u.dropRecord n
          | none => u).bus := by
        intro u hu
        split
        · split
          · exact hu
          · exact hu.dropRecord _
        · exact hu
      dsimp only
      split <;> exact hrecord (s.updGroup o _) h

end
end Sys2Proof.Machine
end

section
/-! ### The Bus Interface under Station Control, the Audit Unit, the face and the drive -/

namespace Sys2Proof.Machine

section
variable {b : Bus} {s : Station}

/-! #### Station Control -/

theorem Bus.Carried.enterHalted (h : b.Carried s.bus) : b.Carried s.enterHalted.bus := by
  unfold Station.enterHalted
  refine foldl_carried _ (fun _ o ht => ht.raiseAbandon o _) _ (Bus.Carried.dropWhere ?_ _)
  rw [stopMove_bus]
  exact h

theorem Bus.Carried.haltFault (h : b.Carried s.bus) (f : StationFault) : b.Carried (s.haltFault f).bus := by
  have hmismatch : ∀ t : Station, b.Carried t.bus → b.Carried (if f = .homeMismatch then t.markMismatch else t).bus := by
    intro t ht
    split
    · rwa [markMismatch_bus]
    · exact ht
  have hhalt : b.Carried ({ s with stc := { s.stc with lastFault := some f } } : Station).enterHalted.bus :=
    Bus.Carried.enterHalted (by exact h)
  unfold Station.haltFault
  dsimp only
  split
  · exact h
  · exact (hmismatch _ hhalt).statusTrigger
  · exact (hmismatch _ hhalt).statusTrigger
  · refine Bus.Carried.statusTrigger ?_
    split
    · exact hmismatch _ h
    · exact hmismatch _ h

theorem Bus.Carried.resumeComplete (h : b.Carried s.bus) : b.Carried s.resumeComplete.bus := by
  unfold Station.resumeComplete Station.requestFailed
  refine Bus.Carried.statusTrigger ?_
  rw [foldl_bus _ (fun _ _ => requestRelease_bus _ _), foldl_bus _ touch_bus]
  exact h

theorem Bus.Carried.motionFailed (h : b.Carried s.bus) : b.Carried s.motionFailed.bus := by
  unfold Station.motionFailed
  split
  · exact h
  · exact h.haltFault _

theorem Bus.Carried.takeService (h : b.Carried s.bus) : b.Carried s.takeService.bus := by
  unfold Station.takeService
  split
  · split
    · exact h
    · exact h
    · exact h
    · exact Bus.Carried.statusTrigger (Bus.Carried.dropWhere (by exact h) _)
  · exact h

theorem Bus.Carried.endService (h : b.Carried s.bus) : b.Carried s.endService.bus := by
  unfold Station.endService
  split
  · exact h
  · dsimp only
    split
    · exact h.grown ((Bus.Grown.statusTrigger (by exact Bus.Grown.refl _)).decision)
    all_goals exact h

/-! #### The Audit Unit -/

theorem Bus.Carried.postReport (h : b.Carried s.bus) (r : Report) : b.Carried (s.postReport r).bus := by
  unfold Station.postReport
  split
  · rename_i e
    exact h.post_of_eq e
  · rename_i u e
    have hu : b.Carried u.bus := h.post_of_eq e
    exact hu

theorem Bus.Carried.applyGrade (h : b.Carried s.bus) (a : BayAddr) (x : Graded) :
    b.Carried (s.applyGrade a x).bus := by
  unfold Station.applyGrade
  split
  · exact h
  · exact h
  · unfold Station.adjust
    rw [setCountAfterCut_bus]
    exact Bus.Carried.cutTo (by exact h) _ _
  · exact h
  · dsimp only
    split <;> exact h

theorem Bus.Carried.touchAudit (h : b.Carried s.bus) (a : BayAddr) (n : Nat) : b.Carried (s.touchAudit a n).bus := by
  unfold Station.touchAudit
  split
  · exact h
  · rename_i y _
    have hgrade := h.applyGrade a (s.grade y n)
    dsimp only
    split
    · exact hgrade
    · exact hgrade
    · exact hgrade
    · exact hgrade.postReport _
    · refine Bus.Carried.postReport ?_ _
      split <;> exact hgrade

theorem Bus.Carried.scanReading (h : b.Carried s.bus) (a : BayAddr) (n : Nat) : b.Carried (s.scanReading a n).bus := by
  unfold Station.scanReading
  split
  · exact h
  · exact h.applyGrade _ _

theorem Bus.Carried.scanComplete (h : b.Carried s.bus) (c : Nat) (p : Purpose) : b.Carried (s.scanComplete c p).bus := by
  have hreport := h.postReport { carrier := c, results := s.adu.results }
  unfold Station.scanComplete Station.scanCompleted
  dsimp only
  split
  · exact hreport
  · exact hreport

theorem Bus.Carried.postAnswers (h : b.Carried s.bus) (fuel : Nat) : b.Carried (s.postAnswers fuel).bus := by
  induction fuel generalizing s with
  | zero => exact h
  | succ n ih =>
    unfold Station.postAnswers
    split
    · exact h
    · split
      · exact h
      · split
        · exact h
        · split
          · rename_i e
            exact h.post_of_eq e
          · rename_i u e
            have hu : b.Carried u.bus := h.post_of_eq e
            exact ih (by exact hu)

theorem Bus.Carried.takeQuery (h : b.Carried s.bus) (a : Nat) : b.Carried (s.takeQuery a).bus := by
  unfold Station.takeQuery
  split
  · exact Bus.Carried.postAnswers (by exact h) 4
  · exact h

theorem Bus.Carried.afterAnswer (h : b.Carried s.bus) (last : Bool) : b.Carried (s.afterAnswer last).bus := by
  unfold Station.afterAnswer
  split
  · split
    · exact h
    · exact Bus.Carried.postAnswers (by exact h) 4
  · exact h.postAnswers 1

/-! #### The face -/

theorem Bus.Carried.cycleTimedOut (h : b.Carried s.bus) (t : Task) (c : Cycle) :
    b.Carried (s.cycleTimedOut t c).bus := by
  unfold Station.cycleTimedOut Station.timeoutFault
  split
  · exact Bus.Carried.haltFault (by exact h) _
  · exact Bus.Carried.nonHaltingFault (by exact h) _

theorem Bus.Carried.settleAbort (h : b.Carried s.bus) (p : PickStop) : b.Carried (s.settleAbort p).bus := by
  unfold Station.settleAbort
  split
  · simpa using h
  · refine Bus.Carried.raiseAbandon ?_ _ _
    simpa using h

theorem Bus.Carried.takeEnd (h : b.Carried s.bus) (t : Task) (p : PickStop) (c : Cycle) :
    b.Carried (s.takeEnd t p c).bus := by
  unfold Station.takeEnd
  dsimp only
  split
  · rw [stow_bus]
    exact (h.cycleTimedOut t c).settleAbort p
  · split <;> simpa [Station.updTask, Station.takeReport] using h

@[simp] theorem storeReport_bus (s : Station) (a : BayAddr) : (s.storeReport a).bus = s.bus := changeBay_bus _ _ _

@[simp] theorem endLoad_bus (s : Station) (t : Task) : (s.endLoad t).bus = s.bus := by
  unfold Station.endLoad
  split <;> rfl

theorem Bus.Carried.storeEnd (h : b.Carried s.bus) (t : Task) (n : Nat) (a : BayAddr) (c : Cycle) :
    b.Carried (s.storeEnd t n a c).bus := by
  have htimeout := h.cycleTimedOut t c
  have hocc : ∀ u : Station, u.bus = s.bus → b.Carried (if u.pins.infeedOcc then u.surplus else u).bus := by
    intro u hu
    rw [← hu] at h
    split
    · exact Bus.Carried.nonHaltingFault (by exact h) _
    · exact h
  unfold Station.storeEnd
  dsimp only
  split
  · split <;> split <;> simpa using htimeout
  · split
    · split
      · rw [read_bus]
        refine Bus.Carried.dropRecord (hocc _ ?_) n
        simp
      · rw [handBack_bus]
        refine hocc _ ?_
        simp
    · rw [endLoad_bus]
      refine hocc _ ?_
      simp

theorem Bus.Carried.returnEnd (h : b.Carried s.bus) (t : Task) (o : Nat) (d : Option BayAddr) (c : Cycle) :
    b.Carried (s.returnEnd t o d c).bus := by
  unfold Station.returnEnd
  split
  · exact h
  · split
    · refine (unexpect_bus (s.cycleTimedOut t c) _ 1).symm ▸ h.cycleTimedOut t c
    · exact Bus.Carried.tyreReturned ((storeReport_bus _ _).symm ▸ h) o

theorem Bus.Carried.cycleEnded (h : b.Carried s.bus) (c : Cycle) : b.Carried (s.cycleEnded c).bus := by
  unfold Station.cycleEnded
  dsimp only
  split
  · exact h
  · split
    · exact Bus.Carried.takeEnd (by exact h) _ _ _
    · exact Bus.Carried.storeEnd (by exact h) _ _ _ _
    · exact Bus.Carried.returnEnd (by exact h) _ _ _ _
    · exact h

theorem Bus.Carried.arrival (h : b.Carried s.bus) : b.Carried s.arrival.bus := by
  have hsurplus : b.Carried s.surplus.bus := Bus.Carried.nonHaltingFault (by exact h) _
  unfold Station.arrival
  split
  · split
    · exact hsurplus
    · exact h
  · exact hsurplus
  · exact hsurplus

theorem Bus.Carried.readingEnded (h : b.Carried s.bus) (g : Reading) (n : Nat) :
    b.Carried (s.readingEnded g n).bus := by
  have hended : ∀ u : Station, b.Carried u.bus → b.Carried (match u.fct.task with
      | some id => u.endTask id
      | none => u).bus := by
    intro u hu
    split <;> exact hu
  have hreading := Bus.Carried.scanReading (s := { s with fct := { s.fct with gauge := none } }) h
    { carrier := g.carrier, bay := g.bay } n
  unfold Station.readingEnded
  dsimp only
  split
  · exact Bus.Carried.touchAudit (by exact h) _ _
  · split
    · exact hended (Station.scanAbandoned _ _) h
    · split
      · exact hreading
      · exact hended _ (hreading.scanComplete _ _)

theorem Bus.Carried.laneTimedOut (h : b.Carried s.bus) : b.Carried s.laneTimedOut.bus := by
  have hfault := Bus.Carried.haltFault (s := { s.laneIdle with fct := { s.laneIdle.fct with laneFault := true } }) h
    .releaseTimeout
  unfold Station.laneTimedOut
  dsimp only
  split
  · split
    · unfold Station.releaseFailed
      rw [requestHeld_bus]
      exact hfault
    · exact hfault
  · exact hfault

theorem Bus.Carried.exitPulse (h : b.Carried s.bus) : b.Carried s.exitPulse.bus := by
  unfold Station.exitPulse
  split
  · dsimp only
    split
    · split
      · exact Bus.Carried.releaseComplete (by exact h) _
      · exact h
    · exact h
  · exact h

/-! #### The drive -/

theorem Bus.Carried.homePulse (h : b.Carried s.bus) : b.Carried s.homePulse.bus := by
  unfold Station.homePulse
  split
  · split <;> exact h
  · split
    · exact h
    · exact h
    · refine Bus.Carried.haltFault ?_ _
      rw [stopMove_bus]
      exact h

theorem Bus.Carried.homeCheckDone (h : b.Carried s.bus) : b.Carried s.homeCheckDone.bus := by
  unfold Station.homeCheckDone
  dsimp only
  split
  · exact h
  · split
    · exact Bus.Carried.resumeComplete (by exact h)
    · exact h

theorem Bus.Carried.taskMoveDone (h : b.Carried s.bus) (m : Move) (id : Nat) :
    b.Carried (s.taskMoveDone m id).bus := by
  unfold Station.taskMoveDone
  dsimp only
  split
  · refine Bus.Carried.haltFault ?_ _
    rw [dropIfRemoved_bus]
    exact h
  · split
    · exact h
    · split
      · exact h
      · split
        · unfold Station.atTarget
          split <;> exact h
        · exact h

theorem Bus.Carried.inPosition (h : b.Carried s.bus) : b.Carried s.inPosition.bus := by
  unfold Station.inPosition
  split
  · exact h
  · split
    · split
      · exact h.homeCheckDone
      · exact h
    · exact h.taskMoveDone _ _

theorem Bus.Carried.motionExpired (h : b.Carried s.bus) : b.Carried s.motionExpired.bus := by
  unfold Station.motionExpired
  split
  · split
    · refine Bus.Carried.motionFailed ?_
      rwa [stopMove_bus]
    · exact h
  · exact h

theorem indexPulse_bus (s : Station) : s.indexPulse.bus = s.bus := by
  unfold Station.indexPulse
  split
  · rfl
  · dsimp only
    split <;> simp

end
end Sys2Proof.Machine
end

section
/-! ### The counters, the standing, and the rules of the Bus Interface (R67, R68, R70, R72, R73, R75) -/

namespace Sys2Proof.Machine

/-! #### The standing of the counters -/

theorem standingOf_withdrawn_iff (t r : Nat) : standingOf t r = .withdrawn ↔ 255 < t := by
  unfold standingOf
  split_ifs <;> simp_all

theorem standingOf_quiet_iff (t r : Nat) : standingOf t r = .quiet ↔ (128 ≤ t ∨ 128 ≤ r) ∧ t ≤ 255 := by
  unfold standingOf
  split_ifs <;> simp_all

theorem standingOf_caution_iff (t r : Nat) : standingOf t r = .caution ↔ (80 ≤ t ∨ 80 ≤ r) ∧ t < 128 ∧ r < 128 := by
  unfold standingOf
  split_ifs <;> simp_all <;> omega

theorem standingOf_active_iff (t r : Nat) : standingOf t r = .active ↔ t < 80 ∧ r < 80 := by
  unfold standingOf
  split_ifs <;> simp_all <;> omega

/-! #### New values of the counters -/

/-- The Bus Interface with these counters and their standing (R67, R68). -/
def Bus.counted (b : Bus) (t r : Nat) : Bus := { b with tec := t, recCtr := r, standing := standingOf t r }

/-- The Bus Interface through the effects of a withdrawal at the blocks (R70, R112, R167). -/
theorem withdrawal_carried (s : Station) : s.bus.withdrawn.Carried s.withdrawal.bus :=
  Bus.Carried.claimsOnWithdrawal (Bus.Grown.beginPutback (by exact Bus.Grown.refl _)).carried

theorem standingChanged_carried (s : Station) : s.bus.Carried s.standingChanged.bus := by
  unfold Station.standingChanged
  refine Bus.Carried.statusTrigger ?_
  split
  · exact (Bus.Carried.refl _).dropWhere _
  · exact .refl _

/-- Counters that keep the station on the bus (R68). -/
theorem setCounters_carried (s : Station) {t : Nat} (r : Nat) (ht : t ≤ 255) :
    (s.bus.counted t r).Carried (s.setCounters t r).bus := by
  have hw : standingOf t r ≠ .withdrawn := fun h => absurd ((standingOf_withdrawn_iff t r).mp h) (by omega)
  unfold Station.setCounters
  dsimp only
  rw [if_neg hw]
  split
  · exact .refl _
  · exact standingChanged_carried { s with bus := s.bus.counted t r }

/-- Counters that withdraw the station (R68, R70). -/
theorem setCounters_carried_of_withdrawn (s : Station) {t : Nat} (r : Nat) (ht : 255 < t) :
    (s.bus.counted t r).withdrawn.Carried (s.setCounters t r).bus := by
  unfold Station.setCounters
  dsimp only
  rw [if_pos ((standingOf_withdrawn_iff t r).mpr ht)]
  exact withdrawal_carried { s with bus := s.bus.counted t r }

/-! #### The rules -/

/-- The rules look at the line alone. -/
theorem sound_of_line {b c : Bus} (h : c.line = b.line) (hb : b.Sound) : c.Sound := by
  have hc : c.line.Sound := h ▸ hb
  exact hc

theorem Bus.Carried.sound {b c : Bus} (h : b.Carried c) (hb : b.Sound) : c.Sound := sound_of_line h.line hb

/-- The bounds that new counters leave alone: of the receive queue, of the delay signals, of the runs counted (R73, R75,
R72). -/
structure Bus.Bounded (b : Bus) : Prop where
  rxq : b.rxq.length ≤ 16
  delays : b.delayCount ≤ 2
  runs : b.rejoinRuns < 96

theorem bounded_of_line {b c : Bus} (h : c.line = b.line) (hb : b.Bounded) : c.Bounded where
  rxq := (congrArg (fun d : Bus => d.rxq.length) h).trans_le hb.rxq
  delays := (congrArg Bus.delayCount h).trans_le hb.delays
  runs := (congrArg Bus.rejoinRuns h).trans_lt hb.runs

theorem Bus.Sound.bounded {b : Bus} (h : b.Sound) : b.Bounded := by
  obtain ⟨-, -, hrxq, hdelays, hruns⟩ := h
  exact ⟨hrxq, hdelays, hruns⟩

theorem setCounters_sound {s : Station} (h : s.bus.Bounded) (t : Nat) {r : Nat} (hr : r ≤ 255) :
    (s.setCounters t r).bus.Sound := by
  rcases Nat.lt_or_ge 255 t with ht | ht
  · exact (setCounters_carried_of_withdrawn s r ht).sound 
      ⟨hr, .inl rfl, Nat.zero_le _, Nat.zero_le _, Nat.succ_pos 95⟩
  · exact (setCounters_carried s r ht).sound ⟨hr, .inr rfl, h.rxq, h.delays, h.runs⟩

theorem countErrors_sound {s : Station} (h : s.bus.Sound) (t r : Nat) : (s.countErrors t r).bus.Sound := by
  unfold Station.countErrors
  split
  · exact h
  · exact setCounters_sound h.bounded _ (Nat.min_le_left _ _)

theorem countSuccess_sound {s : Station} (h : s.bus.Bounded) (hr : s.bus.recCtr ≤ 255) (role : Role) :
    (s.countSuccess role).bus.Sound := by
  cases role
  · exact setCounters_sound h _ hr
  · exact setCounters_sound h _ ((Nat.sub_le _ _).trans hr)

/-! #### The commands of the store bus -/

section
variable {s : Station}

theorem startOpportunity_sound (h : s.bus.Sound) {f : Station → Station}
    (hf : ∀ u : Station, u.bus.Sound → (f u).bus.Sound) : (s.startOpportunity f).bus.Sound := by
  unfold Station.startOpportunity
  split
  · dsimp only
    split
    · exact hf _ h
    · exact h
  · exact h

/-- A frame begun leaves no delay signal counted. -/
theorem beginFrame_sound (h : s.bus.Sound) (p : Post) : (s.beginFrame p).bus.Sound := by
  obtain ⟨hrec, hstanding, hrxq, -, hruns⟩ := h
  exact ⟨hrec, hstanding, hrxq, Nat.zero_le _, hruns⟩

theorem takeOut_sound (h : s.bus.Sound) : s.takeOut.bus.Sound := by
  unfold Station.takeOut
  split
  · exact h
  · split
    · exact h
    · exact beginFrame_sound h _

theorem Bus.Carried.claimNotSent {b : Bus} (h : b.Carried s.bus) (n : Nat) : b.Carried (s.claimNotSent n).bus := by
  unfold Station.claimNotSent
  dsimp only
  refine Bus.Carried.offerSlot ?_
  split
  · exact (h.freeSlot n).dropRecord _
  · exact h.freeSlot n

theorem resend_sound (h : s.bus.Sound) : s.resend.bus.Sound := by
  unfold Station.resend
  split
  · exact h
  · split
    · exact ((Bus.Carried.refl _).claimNotSent _).sound h
    · exact beginFrame_sound h _

theorem loseArbitration_sound (h : s.bus.Sound) : s.loseArbitration.bus.Sound := by
  unfold Station.loseArbitration
  split <;> exact h

theorem Bus.Carried.noteSent {b : Bus} (h : b.Carried s.bus) (p : Post) : b.Carried (s.noteSent p).bus := by
  unfold Station.noteSent
  split
  case h_1 => split <;> exact h
  all_goals exact h

theorem Bus.Carried.afterSent {b : Bus} (h : b.Carried s.bus) (p : Post) : b.Carried (s.afterSent p).bus := by
  unfold Station.afterSent
  split
  case h_1 =>
    split
    · split
      · exact h.postClose _
      · exact h
    · exact h
  case h_2 => exact h.afterAnswer _
  all_goals exact h

/-- A frame that has a place in the receive queue joins it (R73, R74). -/
theorem appendFrame_bounded (h : s.bus.Sound) (hq : s.bus.rxq.length < 16) (f : Frame) (role : Role) :
    (s.appendFrame f role).bus.Bounded := by
  refine ⟨?_, Nat.zero_le _, h.bounded.runs⟩
  rw [appendFrame_rxq, List.length_append]
  exact hq

theorem receivedCompleted_sound (h : s.bus.Sound) (hq : s.bus.rxq.length < 16) (f : Frame) :
    (s.receivedCompleted f).bus.Sound :=
  countSuccess_sound (appendFrame_bounded h hq f _) h.1 _

theorem sentCompleted_sound (h : s.bus.Sound) (hq : s.bus.rxq.length < 16) (p : Post) :
    (s.sentCompleted p).bus.Sound := by
  have hsent := ((Bus.Carried.refl ((s.freeSlot p.handle).appendFrame p.frame .transmitter).bus).noteSent p).offerSlot
  have hbounded := appendFrame_bounded (s := s.freeSlot p.handle) h hq p.frame .transmitter
  have hrec := congrArg Bus.recCtr hsent.line
  unfold Station.sentCompleted
  refine ((Bus.Carried.refl _).afterSent p).sound ?_
  exact countSuccess_sound (bounded_of_line hsent.line hbounded) (hrec.trans_le h.1) .transmitter

theorem signalError_sound (h : s.bus.Sound) (role : Role) (e : BusError) (t r : Nat) :
    (s.signalError role e t r).bus.Sound := by
  obtain ⟨hrec, hstanding, hrxq, -, hruns⟩ := h
  refine countErrors_sound ?_ t r
  exact ⟨hrec, hstanding, hrxq, Nat.zero_le _, hruns⟩

theorem signalAgain_sound (h : s.bus.Sound) : s.signalAgain.bus.Sound := by
  unfold Station.signalAgain
  split <;> exact h

theorem dominantRun_sound (h : s.bus.Sound) (role : Role) : (s.dominantRun role).bus.Sound := by
  cases role
  · exact countErrors_sound (by exact h) 8 0
  · exact countErrors_sound h 0 1

theorem rejoined_sound (h : s.bus.Sound) : s.rejoined.bus.Sound := by
  unfold Station.rejoined
  refine (Bus.Carried.statusTrigger (by exact Bus.Carried.refl _)).sound ?_
  exact ⟨Nat.zero_le _, .inr rfl, h.bounded.rxq, h.bounded.delays, Nat.succ_pos 95⟩

theorem dropHead_sound (h : s.bus.Sound) : s.dropHead.bus.Sound := by
  obtain ⟨hrec, hstanding, hrxq, hdelays, hruns⟩ := h
  refine ⟨hrec, hstanding, ?_, hdelays, hruns⟩
  rw [dropHead_rxq, List.length_tail]
  omega

end

/-! #### Start -/

theorem atStart_sound : Bus.atStart.Sound := by
  refine ⟨?_, .inr ?_, ?_, ?_, ?_⟩ <;> decide

theorem endLaneWait_bus (s : Station) : s.endLaneWait.bus = s.bus := by
  unfold Station.endLaneWait
  split <;> rfl

theorem endSweep_bus (s : Station) : s.endSweep.bus = s.bus := by
  unfold Station.endSweep
  split <;> rfl

theorem configured_bus (s : Station) (read : ConfigRead) : (s.configured read).bus = s.bus := by
  unfold Station.configured
  rw [endLaneWait_bus, retainedLoad_eq]

/-- The mode in which start ends (R188). -/
def Station.startMode (s : Station) : Mode := if s.stc.homed then .running else .halted

/-- The station as it joins, before the posts and tasks that follow (R77, R188, R196, R132). -/
def Station.withJoin (s : Station) : Station :=
  { s with
    bus := { s.bus with joined := true, ready := true }
    stc := { s.stc with
      start := .done, mode := s.startMode
      lastFault := if s.stc.homed then s.stc.lastFault else some .motionTimeout }
    pins := { s.pins with fault := s.pins.fault || !s.stc.homed }
    fct := { s.fct with infeed := if s.pins.infeedOcc then .surplus else s.fct.infeed } }

/-- The station with the STS of the join posted and its START scans asked for (R195, R170). -/
def Station.withScans (s : Station) : Station := s.withJoin.statusTrigger.serveAudit true 24

theorem withScans_view (s : Station) : s.withScans.view = s.withJoin.view := by simp [Station.withScans]

theorem startEnds_eq (s : Station) :
    s.startEnds = if s.pins.svcReq then s.withScans.takeService else s.withScans := by
  have hreq : s.withScans.pins.svcReq = s.pins.svcReq :=
    congrArg (fun v : View => v.pins.svcReq) (withScans_view s)
  rw [← hreq]
  unfold Station.startEnds Station.withScans Station.withJoin Station.startMode
  rcases s with ⟨_, _, _, ⟨_, _, _, _, _, _, _, _, homed⟩, _, _, _, _, _, _, _, _,
    ⟨_, _, _, _, _, _, _, fault, _, _, _, _, occupied, _⟩⟩
  cases homed <;> cases occupied <;> cases fault <;> rfl

/-- The join brings the station onto the bus, which it leaves otherwise as it is but for what it posts (R77). -/
theorem startEnds_carried (s : Station) : s.withJoin.bus.Carried s.startEnds.bus := by
  have hscans : s.withJoin.bus.Carried s.withScans.bus :=
    ((Bus.Grown.refl s.withJoin.bus).statusTrigger.serveAudit true 24).carried
  rw [startEnds_eq]
  split
  · exact hscans.takeService
  · exact hscans

end Sys2Proof.Machine
end

section
/-! ### Every step keeps the Bus Interface within its rules -/

namespace Sys2Proof.Machine

section
variable {x : Station} {q : List Instr} {t : State}

/-- What follows within the event of a command keeps the rules that the command's own change keeps. -/
theorem answer_sound {f : Station → Station} (h : State.answer ⟨x, q⟩ f = .next t) (hf : (f x).bus.Sound) :
    t.station.bus.Sound := by
  cases h
  exact (settle_grown _ _).carried.sound hf

/-- A command of a powered station. -/
theorem powered_sound {f : Station → Station} (h : State.answer ⟨x, q⟩ (fun y => y.whenOn f) = .next t)
    (hx : x.bus.Sound) (hf : x.bus.Sound → (f x).bus.Sound) : t.station.bus.Sound := by
  refine answer_sound h ?_
  unfold Station.whenOn
  split
  · exact hf hx
  · exact hx

/-- A command of a station on the bus. -/
theorem joined_sound {f : Station → Station} (h : State.answer ⟨x, q⟩ (fun y => y.whenJoined f) = .next t)
    (hx : x.bus.Sound) (hf : x.bus.Sound → (f x).bus.Sound) : t.station.bus.Sound := by
  refine answer_sound h ?_
  unfold Station.whenJoined
  split
  · exact hf hx
  · exact hx

/-- A command of a powered station that changes no counter and no queue. -/
theorem powered_carried {f : Station → Station} (h : State.answer ⟨x, q⟩ (fun y => y.whenOn f) = .next t)
    (hx : x.bus.Sound) (hf : x.bus.Carried (f x).bus) : t.station.bus.Sound :=
  powered_sound h hx hf.sound

/-- A command of a station on the bus that changes no counter and no queue. -/
theorem joined_carried {f : Station → Station} (h : State.answer ⟨x, q⟩ (fun y => y.whenJoined f) = .next t)
    (hx : x.bus.Sound) (hf : x.bus.Carried (f x).bus) : t.station.bus.Sound :=
  joined_sound h hx hf.sound

/-- A command that takes the level of an input line, and acts on a station on the bus. -/
theorem line_carried {g : Station → Pins} {f : Station → Station}
    (h : State.answer ⟨x, q⟩ (fun y => ({ y with pins := g y } : Station).whenJoined f) = .next t)
    (hx : x.bus.Sound) (hf : ∀ s : Station, s.bus.Carried (f s).bus) : t.station.bus.Sound := by
  refine answer_sound h ?_
  unfold Station.whenJoined
  split
  · exact (hf { x with pins := g x }).sound hx
  · exact hx

/-- A command that takes a notice: the frame leaves the receive queue, and the action changes no counter. -/
theorem notice_sound {k : Kind} {test : List Byte → Bool} {f : Frame → Station → Station}
    (h : State.answer ⟨x, q⟩ (fun y => y.whenJoined (fun y => y.takeNotice k test f)) = .next t)
    (hx : x.bus.Sound) (hf : ∀ n (s : Station), s.bus.Carried (f n s).bus) : t.station.bus.Sound := by
  refine joined_sound h hx (fun _ => ?_)
  unfold Station.takeNotice
  split
  · split
    · exact (hf _ _).sound (dropHead_sound hx)
    · exact hx
  · exact hx

/-! #### Commands with a test of their own -/

theorem resetAssert_sound (h : exec .resetAssert ⟨x, q⟩ = .next t) (hx : x.bus.Sound) : t.station.bus.Sound := by
  unfold exec execResetAssert at h
  refine answer_sound h ?_
  unfold Station.whenOn
  split
  · exact atStart_sound
  · exact hx

theorem resetRelease_sound (h : exec .resetRelease ⟨x, q⟩ = .next t) (hx : x.bus.Sound) : t.station.bus.Sound := by
  unfold exec execResetRelease at h
  refine answer_sound h ?_
  dsimp only
  split
  · exact atStart_sound
  · exact hx

theorem configReadEnd_sound (read : ConfigRead) (h : exec (.configReadEnd read) ⟨x, q⟩ = .next t) (hx : x.bus.Sound) :
    t.station.bus.Sound := by
  refine powered_sound h hx (fun _ => ?_)
  split
  · split
    · exact hx
    · rwa [configured_bus]
  · exact hx

theorem laneClearAsserted_sound (h : exec .laneClearAsserted ⟨x, q⟩ = .next t) (hx : x.bus.Sound) :
    t.station.bus.Sound := by
  unfold exec execLaneClearAsserted at h
  refine answer_sound h ?_
  unfold Station.whenOn
  split
  · rw [endSweep_bus, endLaneWait_bus]
    exact hx
  · exact hx

theorem join_sound (occupied : Bool) (h : exec (.join occupied) ⟨x, q⟩ = .next t) (hx : x.bus.Sound) :
    t.station.bus.Sound := by
  refine powered_sound h hx (fun _ => ?_)
  split
  · exact (startEnds_carried _).sound hx
  · exact hx

theorem frameCompleted_sound (bits : List Bool) (h : exec (.frameCompleted bits) ⟨x, q⟩ = .next t)
    (hx : x.bus.Sound) : t.station.bus.Sound := by
  refine joined_sound h hx (fun _ => ?_)
  split
  · rename_i hready
    have hroom : x.bus.rxq.length < 16 := of_decide_eq_true (Bool.and_eq_true_iff.mp hready).2
    split
    · exact sentCompleted_sound hx hroom _
    · split
      · exact receivedCompleted_sound hx hroom _
      · exact hx
  · exact hx

theorem frameError_sound (error : BusError) (h : exec (.frameError error) ⟨x, q⟩ = .next t) (hx : x.bus.Sound) :
    t.station.bus.Sound := by
  refine joined_sound h hx (fun _ => ?_)
  split
  · split
    · exact signalAgain_sound hx
    · split
      · exact signalError_sound hx _ _ _ _
      · exact hx
  · exact hx

theorem delaySignal_sound (heard : Bool) (h : exec (.delaySignal heard) ⟨x, q⟩ = .next t) (hx : x.bus.Sound) :
    t.station.bus.Sound := by
  refine joined_sound h hx (fun _ => ?_)
  dsimp only
  split
  · rename_i hgap
    obtain ⟨hrec, hstanding, hrxq, -, hruns⟩ := hx
    simp only [Bool.and_eq_true, decide_eq_true_eq] at hgap
    obtain ⟨⟨-, hdelays⟩, -⟩ := hgap
    exact ⟨hrec, hstanding, hrxq, hdelays, hruns⟩
  · exact hx

theorem rejoin_sound (stretches : List Nat) (h : exec (.rejoin stretches) ⟨x, q⟩ = .next t) (hx : x.bus.Sound) :
    t.station.bus.Sound := by
  refine joined_sound h hx (fun _ => ?_)
  split
  · dsimp only
    split
    · exact rejoined_sound hx
    · rename_i hruns
      obtain ⟨hrec, hstanding, hrxq, hdelays, -⟩ := hx
      exact ⟨hrec, hstanding, hrxq, hdelays, Nat.lt_of_not_le hruns⟩
  · exact hx

/-- A frame removed from the receive queue without effect. -/
theorem dropped_sound {c : Prop} [Decidable c] (hx : x.bus.Sound) : (if c then x.dropHead else x).bus.Sound := by
  split
  · exact dropHead_sound hx
  · exact hx

theorem claimWindowExpiry_carried (s : Station) (round : RoundId) :
    s.bus.Carried (match s.roundRecord round with
      | some r => if s.windowDue r then s.windowExpired r else s
      | none => s).bus := by
  split
  · split
    · exact (Bus.Carried.refl _).windowExpired _
    · exact .refl _
  · exact .refl _

theorem infeedTimeout_carried (s : Station) (putaway : Nat) :
    s.bus.Carried (match s.roundRecord (.putaway putaway) with
      | some r => if (s.put? r.serial).any s.infeedDue then s.dropRecord r.serial else s
      | none => s).bus := by
  split
  · split
    · exact (Bus.Carried.refl _).dropRecord _
    · exact .refl _
  · exact .refl _

theorem holdTimerExpiry_carried (s : Station) (order : Nat) :
    s.bus.Carried (match s.order? order with
      | some e => if s.holdDue e then s.holdExpires e else s
      | none => s).bus := by
  split
  · split
    · exact Bus.Carried.raiseAbandon (by exact .refl _) _ _
    · exact .refl _
  · exact .refl _

/-! #### Commands that leave the Bus Interface as it is -/

theorem completeWrite_bus (s : Station) (r : RetainedId) : (s.completeWrite r).bus = s.bus := by
  unfold Station.completeWrite
  split <;> split <;> rfl

theorem endDwell_bus (s : Station) : s.endDwell.bus = s.bus := by
  unfold Station.endDwell
  split
  · split <;> rfl
  · rfl

theorem approachEnded_bus (s : Station) : s.approachEnded.bus = s.bus := by
  unfold Station.approachEnded
  split
  · split <;> rfl
  · rfl

theorem engageMinimumEnded_bus (s : Station) : s.engageMinimumEnded.bus = s.bus := by
  unfold Station.engageMinimumEnded
  split
  · split_ifs <;> rfl
  · rfl

theorem busyCleared_bus (s : Station) : s.busyCleared.bus = s.bus := by
  unfold Station.busyCleared
  split
  · split <;> rfl
  · rfl

theorem extensionEnded_bus (s : Station) : s.extensionEnded.bus = s.bus := by
  unfold Station.extensionEnded
  split
  · split <;> rfl
  · rfl

theorem headCleared_bus (s : Station) : s.headCleared.bus = s.bus := by
  unfold Station.headCleared
  split <;> rfl

theorem headAsserted_bus (s : Station) : s.headAsserted.bus = s.bus := by
  unfold Station.headAsserted
  split <;> rfl

theorem infeedFell_bus (s : Station) : s.infeedFell.bus = s.bus := by
  unfold Station.infeedFell
  split
  · rfl
  · exact infeedEmptied_bus s

/-- Stations with one Bus Interface. -/
theorem Bus.Carried.of_eq {b c : Bus} (h : c = b) : b.Carried c := h ▸ .refl b

/-! #### Notices -/

theorem Bus.Carried.hearLineOffer {b : Bus} {s : Station} (h : b.Carried s.bus) (p : List Byte) :
    b.Carried (s.hearLineOffer p).bus := by
  unfold Station.hearLineOffer
  dsimp only
  split
  · exact h.bidPick _ _ _ _
  · exact h

theorem Bus.Carried.hearPutawayOffer {b : Bus} {s : Station} (h : b.Carried s.bus) (p : List Byte) :
    b.Carried (s.hearPutawayOffer p).bus := by
  unfold Station.hearPutawayOffer
  dsimp only
  split
  · exact Bus.Carried.bidPutaway (by exact h) _ _ _ _
  · exact h

theorem putEach_bus (s : Station) (cs : List Nat) (r : Reason) (v : Bool) : (s.putEach cs r v).bus = s.bus :=
  foldl_bus _ (fun _ _ => putReason_bus _ _ _ _) _ _

theorem requestEach_bus (s : Station) (cs : List Nat) : (s.requestEach cs).bus = s.bus :=
  foldl_bus (fun (t : Station) c => t.setDue c .request) (fun _ _ => rfl) _ _

theorem Bus.Carried.takeSetCount {b : Bus} {s : Station} (h : b.Carried s.bus) (p : List Byte) :
    b.Carried (s.takeSetCount p).bus := by
  unfold Station.takeSetCount
  dsimp only
  split
  · exact Bus.Carried.setCount (by exact h) _ _
  · exact h

theorem takeResume_bus (s : Station) (p : List Byte) : (s.takeResume p).bus = s.bus := by
  unfold Station.takeResume
  split <;> rfl

/-- Every command keeps the Bus Interface within its rules. -/
theorem exec_sound (c : Instr) (hx : x.bus.Sound) (h : exec c ⟨x, q⟩ = .next t) : t.station.bus.Sound := by
  cases c with
  | powerUp =>
    unfold exec execPowerUp at h
    exact answer_sound h atStart_sound
  | powerLoss =>
    unfold exec execPowerLoss at h
    exact answer_sound h atStart_sound
  | resetAssert => exact resetAssert_sound h hx
  | resetRelease => exact resetRelease_sound h hx
  | configReadEnd read => exact configReadEnd_sound read h hx
  | laneClearAsserted => exact laneClearAsserted_sound h hx
  | laneClearFall =>
    exact answer_sound (f := fun y => { y with pins := { y.pins with laneClear := false } }) h hx
  | join occupied => exact join_sound occupied h hx
  | motionTimerExpiry => exact powered_carried h hx (Bus.Carried.refl _).motionExpired
  | index => exact powered_carried h hx (.of_eq (indexPulse_bus x))
  | home => exact powered_carried h hx (Bus.Carried.refl _).homePulse
  | inPos => exact powered_carried h hx (Bus.Carried.refl _).inPosition
  | retainedWriteComplete r => exact powered_carried h hx (.of_eq (completeWrite_bus x r))
  | takeOut => exact joined_sound h hx (fun hx => startOpportunity_sound hx (fun _ => takeOut_sound))
  | frameResend => exact joined_sound h hx (fun hx => startOpportunity_sound hx (fun _ => resend_sound))
  | arbitrationLost => exact joined_sound h hx loseArbitration_sound
  | frameCompleted bits => exact frameCompleted_sound bits h hx
  | frameError error => exact frameError_sound error h hx
  | dominantRun16 =>
    refine joined_sound h hx (fun _ => ?_)
    split
    · exact hx
    · exact dominantRun_sound hx _
  | delaySignal heard => exact delaySignal_sound heard h hx
  | rejoin stretches => exact rejoin_sound stretches h hx
  | elevenRecessiveBitsAfterRejoin => exact joined_sound h hx (fun _ => by split <;> exact hx)
  | noticeRejected => exact joined_sound h hx dropped_sound
  | statusFrameDiscarded => exact joined_sound h hx dropped_sound
  | abnTaken => exact notice_sound h hx (fun _ _ => (Bus.Carried.refl _).hearAbandon _)
  | rdyTaken => exact notice_sound h hx (fun _ _ => (Bus.Carried.refl _).hearReady _ _ _)
  | clsTaken => exact notice_sound h hx (fun _ _ => (Bus.Carried.refl _).hearClose _ _)
  | clmTaken => exact notice_sound h hx (fun _ _ => (Bus.Carried.refl _).hearClaim _ _)
  | opnTaken =>
    exact notice_sound h hx (fun n s => Bus.Carried.openOrder (b := s.bus) (s := s.hearWeek _) (.refl _) _ _)
  | lofTaken => exact notice_sound h hx (fun _ _ => (Bus.Carried.refl _).hearLineOffer _)
  | pofTaken => exact notice_sound h hx (fun _ _ => (Bus.Carried.refl _).hearPutawayOffer _)
  | cctHold => exact notice_sound h hx (fun _ s => .of_eq (putEach_bus s _ _ _))
  | cctUnhold => exact notice_sound h hx (fun _ s => .of_eq (putEach_bus s _ _ _))
  | cctHoldAll => exact notice_sound h hx (fun _ s => .of_eq (putEach_bus s _ _ _))
  | cctUnholdAll => exact notice_sound h hx (fun _ s => .of_eq (putEach_bus s _ _ _))
  | cctRetire => exact notice_sound h hx (fun _ s => .of_eq (putEach_bus s _ _ _))
  | cctUnretire => exact notice_sound h hx (fun _ s => .of_eq (foldl_bus Station.unretire (fun _ _ => rfl) _ s))
  | cctClearQuarantine => exact notice_sound h hx (fun _ s => .of_eq (putEach_bus s _ _ _))
  | cctSetCount => exact notice_sound h hx (fun _ _ => (Bus.Carried.refl _).takeSetCount _)
  | sctResume => exact notice_sound h hx (fun _ s => .of_eq (takeResume_bus s _))
  | arqByRange => exact notice_sound h hx (fun _ s => .of_eq (requestEach_bus s _))
  | arqByArticle => exact notice_sound h hx (fun _ s => .of_eq (requestEach_bus s _))
  | sqyTaken =>
    refine notice_sound h hx (fun _ s => ?_)
    split
    · exact (Bus.Carried.refl _).takeQuery _
    · exact .refl _
  | claimWindowExpiry round => exact joined_carried h hx (claimWindowExpiry_carried x round)
  | infeedTimeout putaway => exact joined_carried h hx (infeedTimeout_carried x putaway)
  | holdTimerExpiry order => exact joined_carried h hx (holdTimerExpiry_carried x order)
  | idleTimerExpiry => exact joined_carried h hx (by split <;> exact .refl _)
  | reversalDwellExpiry => exact joined_carried h hx (.of_eq (endDwell_bus x))
  | approachEnd => exact joined_carried h hx (.of_eq (approachEnded_bus x))
  | engageMinimumEnd busy => exact joined_carried h hx (.of_eq (engageMinimumEnded_bus _))
  | extBusyClear =>
    exact line_carried (g := fun y => { y.pins with extBusy := false }) h hx (fun s => .of_eq (busyCleared_bus s))
  | extensionMaximumExpiry => exact joined_carried h hx (.of_eq (extensionEnded_bus x))
  | cycleEnd occupied =>
    refine joined_carried h hx ?_
    unfold Station.withdrawEnded
    split
    · split
      · exact Bus.Carried.cycleEnded (by exact .refl _) _
      · exact .refl _
    · exact .refl _
  | headOccClear =>
    exact line_carried (g := fun y => { y.pins with headOcc := false }) h hx (fun s => .of_eq (headCleared_bus s))
  | headOccAsserted =>
    exact line_carried (g := fun y => { y.pins with headOcc := true }) h hx (fun s => .of_eq (headAsserted_bus s))
  | laneTimerExpiry =>
    refine joined_carried h hx ?_
    unfold Station.laneExpired
    split
    · exact (Bus.Carried.refl _).laneTimedOut
    · exact .refl _
  | laneExitPulse => exact joined_carried h hx (Bus.Carried.refl _).exitPulse
  | infeedArrival =>
    exact line_carried (g := fun y => { y.pins with infeedOcc := true }) h hx (fun _ => (Bus.Carried.refl _).arrival)
  | infeedOccFall =>
    exact line_carried (g := fun y => { y.pins with infeedOcc := false }) h hx (fun s => .of_eq (infeedFell_bus s))
  | gaugeAnswer height =>
    refine joined_carried h hx ?_
    unfold Station.gaugeAnswered
    split
    · exact (Bus.Carried.refl _).readingEnded _ _
    · exact .refl _
  | gaugeReadTimeout =>
    refine joined_carried h hx ?_
    unfold Station.gaugeTimedOut
    split
    · split
      · exact (Bus.Carried.refl _).readingEnded _ _
      · exact .refl _
    · exact .refl _
  | svcReqRise =>
    exact line_carried (g := fun y => { y.pins with svcReq := true }) h hx (fun _ => (Bus.Carried.refl _).takeService)
  | svcReqFall =>
    exact line_carried (g := fun y => { y.pins with svcReq := false }) h hx (fun _ => (Bus.Carried.refl _).endService)

end

/-- Settles O55: each command by what it leaves of the Bus Interface; the idle tick leaves all of it. -/
theorem stepKeepsBusSound : Obligations.StepKeepsBusSound := by
  rintro ⟨x, q⟩ t hx h
  cases q with
  | nil =>
    cases h
    unfold Station.idleTick Station.whenOn
    split <;> exact hx
  | cons c rest => exact exec_sound c hx h

end Sys2Proof.Machine
end

section
/-! ### The frame on the bus: stuffing, fields, check (R56, R57, R58, R62) -/

namespace Sys2Proof.Machine

/-! #### Stuffing -/

/-- The length of the run that a bit is the last of. -/
def runWith (last : Bool) (run : Nat) (b : Bool) : Nat := if b = last then run + 1 else 1

theorem runWith_bounds (last : Bool) (run : Nat) (b : Bool) : 1 ≤ runWith last run b ∧ runWith last run b ≤ run + 1 := by
  unfold runWith
  split <;> omega

/-- A bit that fills a run of 6 is followed by its stuff bit (R57). -/
theorem stuffFrom_of_full {last b : Bool} {run : Nat} (h : runWith last run b = 6) (bs : List Bool) :
    stuffFrom last run (b :: bs) = b :: (!b) :: stuffFrom (!b) 1 bs := if_pos h

theorem stuffFrom_of_not_full {last b : Bool} {run : Nat} (h : runWith last run b ≠ 6) (bs : List Bool) :
    stuffFrom last run (b :: bs) = b :: stuffFrom b (runWith last run b) bs := if_neg h

/-- A bit that is no stuff bit is read (R57). -/
theorem unstuffFrom_cons {run : Nat} (h : run ≠ 6) (last b : Bool) (bs : List Bool) :
    unstuffFrom last run (b :: bs) = (unstuffFrom b (runWith last run b) bs).map (fun rest => b :: rest) := if_neg h

/-- The stuff bit after a run of 6 is left out (R57). -/
theorem unstuffFrom_stuffBit (b : Bool) (bs : List Bool) : unstuffFrom b 6 ((!b) :: bs) = unstuffFrom (!b) 1 bs := by
  cases b <;> rfl

/-- What the stuffing adds, the receiver takes out again (R57). -/
theorem unstuffFrom_stuffFrom (bs : List Bool) (last : Bool) {run : Nat} (hrun : run < 6) :
    unstuffFrom last run (stuffFrom last run bs) = some bs := by
  induction bs generalizing last run with
  | nil => simp [stuffFrom, unstuffFrom, hrun.ne]
  | cons b bs ih =>
    by_cases hfull : runWith last run b = 6
    · rw [stuffFrom_of_full hfull, unstuffFrom_cons hrun.ne, hfull, unstuffFrom_stuffBit, ih _ (by decide)]
      rfl
    · have hrun' : runWith last run b < 6 := by
        have := (runWith_bounds last run b).2
        omega
      rw [stuffFrom_of_not_full hfull, unstuffFrom_cons hrun.ne, ih _ hrun']
      rfl

/-- A receiver meets a pattern error in equal bits that make a run of 7 with those before them (R64). -/
theorem unstuffFrom_replicate (n : Nat) {last b : Bool} {run : Nat} (post : List Bool) (hrun : run ≤ 6)
    (hn : 7 ≤ n + if b = last then run else 0) : unstuffFrom last run (List.replicate n b ++ post) = none := by
  induction n generalizing last run with
  | zero => split at hn <;> omega
  | succ n ih =>
    rw [List.replicate_succ, List.cons_append]
    by_cases hfull : run = 6
    · rw [unstuffFrom, if_pos hfull]
      split
      · rfl
      · rename_i hb
        rw [if_neg hb] at hn
        exact ih (by decide) (by simpa using hn)
    · have hnext : 7 ≤ n + runWith last run b := by
        unfold runWith
        by_cases hb : b = last
        · rw [if_pos hb] at hn ⊢
          omega
        · rw [if_neg hb] at hn ⊢
          omega
      have hle := (runWith_bounds last run b).2
      rw [unstuffFrom_cons hfull, ih (by omega) (by simpa using hnext), Option.map_none]

/-- A receiver meets a pattern error wherever 7 equal bits stand together (R64). -/
theorem unstuffFrom_of_seven (pre post : List Bool) (b : Bool) {last : Bool} {run : Nat} (hrun : run ≤ 6) :
    unstuffFrom last run (pre ++ List.replicate 7 b ++ post) = none := by
  induction pre generalizing last run with
  | nil => exact unstuffFrom_replicate 7 post hrun (by omega)
  | cons a pre ih =>
    rw [List.cons_append, List.cons_append, unstuffFrom]
    split
    · split
      · rfl
      · exact ih (by decide)
    · rw [ih, Option.map_none]
      split <;> omega

theorem length_le_length_stuffFrom (bs : List Bool) (last : Bool) (run : Nat) :
    bs.length ≤ (stuffFrom last run bs).length := by
  induction bs generalizing last run with
  | nil => exact Nat.zero_le _
  | cons b bs ih =>
    by_cases hfull : runWith last run b = 6
    · rw [stuffFrom_of_full hfull]
      exact Nat.succ_le_succ ((ih _ _).trans (Nat.le_succ _))
    · rw [stuffFrom_of_not_full hfull]
      exact Nat.succ_le_succ (ih _ _)

/-- Each stuff bit takes 5 bits more: it begins the next run itself (R57). -/
theorem length_stuffFrom_le (bs : List Bool) (last : Bool) {run : Nat} (h1 : 1 ≤ run) (h6 : run < 6) :
    5 * (stuffFrom last run bs).length + 1 ≤ 6 * bs.length + run := by
  induction bs generalizing last run with
  | nil => simpa [stuffFrom] using h1
  | cons b bs ih =>
    obtain ⟨hpos, hle⟩ := runWith_bounds last run b
    by_cases hfull : runWith last run b = 6
    · have hrest := ih (!b) (le_refl 1) (by decide)
      rw [stuffFrom_of_full hfull]
      simp only [List.length_cons]
      omega
    · have hrest := ih b hpos (by omega)
      rw [stuffFrom_of_not_full hfull]
      simp only [List.length_cons]
      omega

/-! #### Numbers in bits -/

@[simp] theorem length_numBits (k v : Nat) : (numBits k v).length = k := by
  induction k with
  | zero => rfl
  | succ k ih => rw [numBits, List.length_cons, ih]

theorem foldl_numBits (k v a : Nat) :
    (numBits k v).foldl (fun a b => 2 * a + b.toNat) a = a * 2 ^ k + v % 2 ^ k := by
  induction k generalizing a with
  | zero => simp [numBits, Nat.mod_one]
  | succ k ih =>
    have hbit : (decide (v / 2 ^ k % 2 = 1)).toNat = v / 2 ^ k % 2 := by
      rcases Nat.mod_two_eq_zero_or_one (v / 2 ^ k) with h | h <;> rw [h] <;> rfl
    rw [numBits, List.foldl_cons, ih, hbit, Nat.mod_pow_succ]
    ring

/-- A number read back from its bits (R56). -/
@[simp] theorem bitsNum_numBits (k v : Nat) : bitsNum (numBits k v) = v % 2 ^ k := by
  rw [bitsNum, foldl_numBits, Nat.zero_mul, Nat.zero_add]

theorem ofNat_bitsNum_numBits {k : Nat} (v : BitVec k) : BitVec.ofNat k (bitsNum (numBits k v.toNat)) = v := by
  rw [bitsNum_numBits, Nat.mod_eq_of_lt v.isLt, BitVec.ofNat_toNat, BitVec.setWidth_eq]

/-- The bits of a payload, byte by byte (R56). -/
def payloadBits (p : List Byte) : List Bool := p.flatMap (fun b => numBits 8 b.toNat)

theorem length_payloadBits (p : List Byte) : (payloadBits p).length = 8 * p.length := by
  induction p with
  | nil => rfl
  | cons b p ih =>
    rw [payloadBits, List.flatMap_cons, List.length_append, length_numBits, List.length_cons]
    change 8 + (payloadBits p).length = _
    omega

/-- The payload read back from its bits, whatever follows them. -/
theorem bitsBytes_payloadBits (p : List Byte) (rest : List Bool) : bitsBytes p.length (payloadBits p ++ rest) = p := by
  induction p with
  | nil => rfl
  | cons b p ih =>
    have hsplit : payloadBits (b :: p) ++ rest = numBits 8 b.toNat ++ (payloadBits p ++ rest) := by
      simp [payloadBits]
    rw [hsplit, List.length_cons, bitsBytes, List.take_left' (length_numBits _ _), List.drop_left' (length_numBits _ _),
      ih, ofNat_bitsNum_numBits]

/-! #### The fields of a frame -/

/-- The bits of a frame between its start bit and its stuffing: arbitration field, length, payload, check. -/
def frameFields (f : Frame) : List Bool := f.body ++ numBits 16 (checkOf f.body).toNat

theorem body_eq (f : Frame) :
    f.body = numBits 4 f.kind.toNat ++ (numBits 20 f.key.toNat ++ (numBits 4 f.payload.length ++ payloadBits f.payload)) := by
  simp [Frame.body, payloadBits]

theorem length_body (f : Frame) : f.body.length = 28 + 8 * f.payload.length := by
  simp only [body_eq, List.length_append, length_numBits, length_payloadBits]
  omega

theorem length_frameFields (f : Frame) : (frameFields f).length = 44 + 8 * f.payload.length := by
  rw [frameFields, List.length_append, length_body, length_numBits]
  omega

/-- The unstuffed bits of a frame are read as that frame (R56, R58). -/
theorem parseFrame_frameFields {f : Frame} (h : f.payload.length ≤ 12) :
    parseFrame (false :: frameFields f) = some f := by
  have hbits : frameFields f = numBits 4 f.kind.toNat ++ (numBits 20 f.key.toNat ++ (numBits 4 f.payload.length
      ++ (payloadBits f.payload ++ numBits 16 (checkOf f.body).toNat))) := by simp [frameFields, body_eq]
  have hkind : (frameFields f).take 4 = numBits 4 f.kind.toNat := by
    rw [hbits, List.take_left' (length_numBits _ _)]
  have hdrop4 : (frameFields f).drop 4 = numBits 20 f.key.toNat ++ (numBits 4 f.payload.length
      ++ (payloadBits f.payload ++ numBits 16 (checkOf f.body).toNat)) := by
    rw [hbits, List.drop_left' (length_numBits _ _)]
  have hdrop24 : (frameFields f).drop 24 = numBits 4 f.payload.length
      ++ (payloadBits f.payload ++ numBits 16 (checkOf f.body).toNat) := by
    rw [show 24 = 4 + 20 from rfl, ← List.drop_drop, hdrop4, List.drop_left' (length_numBits _ _)]
  have hdrop28 : (frameFields f).drop 28 = payloadBits f.payload ++ numBits 16 (checkOf f.body).toNat := by
    rw [show 28 = 24 + 4 from rfl, ← List.drop_drop, hdrop24, List.drop_left' (length_numBits _ _)]
  have hlen : bitsNum (((frameFields f).drop 24).take 4) = f.payload.length := by
    rw [hdrop24, List.take_left' (length_numBits _ _), bitsNum_numBits]
    omega
  have hbody : (frameFields f).take (28 + 8 * f.payload.length) = f.body := List.take_left' (length_body f)
  have hcheck : bitsNum ((frameFields f).drop (28 + 8 * f.payload.length)) = (checkOf f.body).toNat := by
    rw [frameFields, List.drop_left' (length_body f), bitsNum_numBits, Nat.mod_eq_of_lt (checkOf f.body).isLt]
  rw [parseFrame]
  simp only [hlen, hbody, hcheck, hkind, hdrop4, hdrop28, length_frameFields, h, and_self, if_true,
    List.take_left' (length_numBits _ _), bitsBytes_payloadBits, ofNat_bitsNum_numBits]

theorem unstuffFrom_wire (f : Frame) : unstuffFrom true 0 f.wire = some (false :: frameFields f) :=
  unstuffFrom_stuffFrom _ _ (by decide)

/-- Settles O9: the stuffing taken out, then the fields read. -/
theorem wireRoundTrip : Obligations.WireRoundTrip := by
  intro f hf
  rw [receiveWire, unstuffFrom_wire]
  exact parseFrame_frameFields (of_decide_eq_true hf)

/-- Settles O10: 7 equal bits would be a pattern error to a receiver, and it meets none; the start bit begins the first
run, so at most one stuff bit follows each 5 of the bits after it. -/
theorem stuffedPartShape : Obligations.StuffedPartShape := by
  intro f hf
  have hpayload : f.payload.length ≤ 12 := of_decide_eq_true hf
  have hfields := length_frameFields f
  have hwire : f.wire = false :: stuffFrom false 1 (frameFields f) := rfl
  refine ⟨fun pre post b hseven => ?_, ?_, ?_, rfl⟩
  · have hread := unstuffFrom_wire f
    rw [hseven, unstuffFrom_of_seven pre post b (Nat.zero_le 6)] at hread
    cases hread
  · have hle := length_le_length_stuffFrom (frameFields f) false 1
    rw [hwire, List.length_cons]
    omega
  · have hle := length_stuffFrom_le (frameFields f) false (le_refl 1) (by decide)
    rw [hwire, List.length_cons]
    omega

end Sys2Proof.Machine
end

section
/-! ### Start opportunities: take-out, resend, arbitration, delay signals (R59, R60, R61, R66, R75, R85, R86) -/

namespace Sys2Proof.Machine

/-! #### A command of the bus at a station on the bus -/

/-- A command of a live station makes its own change, and what the rules tie to the event follows. -/
theorem answer_of_live {x : Station} (q : List Instr) (f : Station → Station) (hx : x.live) :
    State.answer ⟨x, q⟩ (fun y => y.whenJoined f) = .next ⟨(f x).settle x, q⟩ := by
  unfold State.answer
  dsimp only
  rw [whenJoined_of_live hx]

/-- The same where the change is given, with the frame of what follows. -/
theorem answer_change {x u : Station} (q : List Instr) {f : Station → Station} (hx : x.live) (hf : f x = u) :
    State.answer ⟨x, q⟩ (fun y => y.whenJoined f) = .next ⟨u.settle x, q⟩ ∧ (u.settle x).view = u.view := by
  rw [answer_of_live q f hx, hf]
  exact ⟨rfl, settle_view u x⟩

/-- The station takes part in the bus (R59, R71, R77). -/
theorem onBus_of_live {x : Station} (hx : x.live) (hready : x.bus.ready = true) (hw : x.bus.standing ≠ .withdrawn) :
    x.onBus = true := by
  unfold Station.onBus
  rw [hx.2, hready, Bool.true_and, Bool.true_and]
  exact decide_eq_true hw

/-! #### Arbitration, delay signals, the end of the wait after join or rejoin -/

theorem loseArbitration_of_sending {x : Station} {h : Nat} (hs : x.bus.sending = some h) :
    x.loseArbitration = { x with bus := { x.bus with
      posts := x.bus.posts.map (fun (o : Post) => if o.handle = h then { o with onBus := false } else o)
      sending := none, drive := [] } } := by
  unfold Station.loseArbitration
  rw [hs]

/-- The gaps of a delay signal of the station's own (R75). -/
theorem ownDelay_iff (g : Gap) : g.ownDelay = true ↔ g = .afterFrame ∨ g = .afterDelay := by
  cases g <;> simp [Gap.ownDelay]

/-- Settles O14: the three commands, each by its own change. -/
theorem arbitrationDelayAndReady : Obligations.ArbitrationDelayAndReady := by
  refine ⟨fun x q h hx hs => ?_, fun heard x q hx hready hw => ?_, fun x q hx hw => ?_⟩
  · exact answer_change q hx (loseArbitration_of_sending hs)
  · have hbus := onBus_of_live hx hready hw
    have hown : (x.bus.gap.ownDelay && decide (14 ≤ x.bus.rxq.length)) = true ↔
        14 ≤ x.bus.rxq.length ∧ (x.bus.gap = .afterFrame ∨ x.bus.gap = .afterDelay) := by
      rw [Bool.and_eq_true, ownDelay_iff, decide_eq_true_iff, and_comm]
    refine ⟨fun hgap hcount hsignal => answer_change q hx ?_, fun hnone => answer_change q hx ?_⟩
    · dsimp only
      simp only [hbus, hgap, hcount, Bool.or_eq_true, hown, ne_eq, not_false_eq_true, decide_true, Bool.and_self,
        Bool.true_and, hsignal, if_true]
      rfl
    · dsimp only
      refine if_neg (fun h => ?_)
      simp only [Bool.and_eq_true, Bool.or_eq_true, hown, decide_eq_true_eq] at h
      obtain ⟨⟨⟨-, hgap⟩, hcount⟩, hsignal⟩ := h
      rcases hnone with hgap' | hcount' | ⟨hnown, hheard⟩
      · exact hgap hgap'
      · omega
      · rw [hheard] at hsignal
        exact hsignal.elim hnown nofun
  · exact answer_change q hx (if_neg hw)

/-! #### The choice of take-out -/

/-- The slots that take-out chooses from (R61, R85). -/
def Station.candidate (x : Station) (p : Post) : Prop :=
  p.onBus = false ∧ (p.kind = .clm → x.stc.mode = .running ∧ x.bus.standing.bids = true)

theorem claimsAllowed_iff (x : Station) :
    x.claimsAllowed = true ↔ x.stc.mode = .running ∧ x.bus.standing.bids = true := by
  simp [Station.claimsAllowed]

theorem candidate_iff (x : Station) (p : Post) :
    (!p.onBus && (p.kind ≠ .clm || x.claimsAllowed)) = true ↔ x.candidate p := by
  rw [Station.candidate, ← claimsAllowed_iff, Bool.and_eq_true, Bool.or_eq_true, Bool.not_eq_true', decide_eq_true_iff,
    ne_eq, imp_iff_not_or]

theorem lowerPost_some (q p : Post) :
    lowerPost (some q) p = if p.frame.arbitration < q.frame.arbitration then some p else some q := rfl

theorem lowerPost_ne_none (best : Option Post) (p : Post) : lowerPost best p ≠ none := by
  cases best with
  | none => exact nofun
  | some q =>
    rw [lowerPost_some]
    split <;> exact nofun

theorem foldl_lowerPost_eq_none_iff (l : List Post) : l.foldl lowerPost none = none ↔ l = [] := by
  induction l using List.reverseRecOn with
  | nil => simp
  | append_singleton l x _ =>
    rw [List.foldl_append, List.foldl_cons, List.foldl_nil]
    simp [lowerPost_ne_none]

/-- The best of a list of slots has a lower field than every slot before it, and no higher one than any after it. -/
theorem foldl_lowerPost_split (l : List Post) {p : Post} (h : l.foldl lowerPost none = some p) :
    ∃ before after, l = before ++ p :: after ∧ (∀ o ∈ before, p.frame.arbitration < o.frame.arbitration)
      ∧ ∀ o ∈ after, p.frame.arbitration ≤ o.frame.arbitration := by
  induction l using List.reverseRecOn generalizing p with
  | nil => cases h
  | append_singleton l x ih =>
    rw [List.foldl_append, List.foldl_cons, List.foldl_nil] at h
    cases hbest : l.foldl lowerPost none with
    | none =>
      have hl := (foldl_lowerPost_eq_none_iff l).mp hbest
      rw [hbest] at h
      cases h
      exact ⟨[], [], by simp [hl], nofun, nofun⟩
    | some y =>
      obtain ⟨before, after, rfl, hbefore, hafter⟩ := ih hbest
      rw [hbest] at h
      rw [lowerPost_some] at h
      split at h
      · rename_i hlow
        cases h
        refine ⟨before ++ y :: after, [], rfl, fun o ho => ?_, nofun⟩
        rcases List.mem_append.mp ho with ho | ho
        · exact hlow.trans (hbefore o ho)
        · rcases List.mem_cons.mp ho with rfl | ho
          · exact hlow
          · exact hlow.trans_le (hafter o ho)
      · rename_i hhigh
        cases h
        refine ⟨before, after ++ [x], by simp, hbefore, fun o ho => ?_⟩
        rcases List.mem_append.mp ho with ho | ho
        · exact hafter o ho
        · rw [List.mem_singleton.mp ho]
          exact Nat.le_of_not_lt hhigh

theorem takeOutChoice_eq_none_iff (x : Station) :
    x.takeOutChoice = none ↔ ∀ p ∈ x.bus.posts, ¬ x.candidate p := by
  unfold Station.takeOutChoice
  rw [foldl_lowerPost_eq_none_iff, List.filter_eq_nil_iff]
  simp only [candidate_iff]

theorem takeOutChoice_split {x : Station} {p : Post} (h : x.takeOutChoice = some p) :
    ∃ before after, x.bus.posts = before ++ p :: after ∧ x.candidate p
      ∧ (∀ o ∈ before, x.candidate o → p.frame.arbitration < o.frame.arbitration)
      ∧ ∀ o ∈ after, x.candidate o → p.frame.arbitration ≤ o.frame.arbitration := by
  obtain ⟨cands, cands', hsplit, hlower, hleast⟩ := foldl_lowerPost_split _ h
  obtain ⟨before, rest, hposts, hbefore, hrest⟩ := List.filter_eq_append_iff.mp hsplit
  obtain ⟨passed, after, rfl, hpassed, hp, hafter⟩ := List.filter_eq_cons_iff.mp hrest
  refine ⟨before ++ passed, after, by simp [hposts], (candidate_iff x p).mp hp, fun o ho hc => ?_, fun o ho hc => ?_⟩
  · rcases List.mem_append.mp ho with ho | ho
    · exact hlower o (hbefore ▸ List.mem_filter.mpr ⟨ho, (candidate_iff x o).mpr hc⟩)
    · exact absurd ((candidate_iff x o).mpr hc) (hpassed o ho)
  · exact hleast o (hafter ▸ List.mem_filter.mpr ⟨ho, (candidate_iff x o).mpr hc⟩)

/-! #### The start opportunity -/

/-- The station at a start opportunity (R59, R55): the gap has ended, and nothing is driven. -/
def Station.atOpportunity (x : Station) : Station :=
  { x with bus := { x.bus with errorWait := none, gap := .none, acked := false, drive := [] } }

section
variable {x : Station} (hx : x.live) (hready : x.bus.ready = true) (hw : x.bus.standing ≠ .withdrawn)
  (hs : x.bus.sending = none)
include hx hready hw hs

theorem startOpportunity_of_no_skip (f : Station → Station) (hskip : x.bus.skip = 0) :
    x.startOpportunity f = f x.atOpportunity := by
  unfold Station.startOpportunity
  rw [onBus_of_live hx hready hw, hs]
  exact if_pos hskip

/-- A QUIET station that sent the last frame lets an opportunity pass (R59, R69). -/
theorem startOpportunity_of_skip (f : Station → Station) (hskip : x.bus.skip ≠ 0) :
    x.startOpportunity f = { x with bus := { x.bus with
      skip := x.bus.skip - 1, errorWait := none, gap := .none, acked := false, drive := [] } } := by
  unfold Station.startOpportunity
  rw [onBus_of_live hx hready hw, hs]
  exact if_neg hskip

end

/-- No slot awaits a resend where none is ON_BUS (R66). -/
theorem awaiting_eq_none {b : Bus} (h : ∀ o ∈ b.posts, o.onBus = false) : b.awaiting = none := by
  unfold Bus.awaiting
  split
  · rfl
  · exact List.find?_eq_none.mpr (fun o ho => by simp [h o ho])

theorem awaiting_eq_some {b : Bus} {before after : List Post} {p : Post} (hs : b.sending = none)
    (hposts : b.posts = before ++ p :: after) (hbefore : ∀ o ∈ before, o.onBus = false) (hp : p.onBus = true) :
    b.awaiting = some p := by
  unfold Bus.awaiting
  rw [hs]
  exact (List.find?_eq_some_iff_append.mpr
    ⟨hp, before, after, hposts, fun o ho => by simp [hbefore o ho]⟩ : b.posts.find? (fun p => p.onBus) = some p)

theorem takeOut_of_choice {x : Station} {p : Post} (hfree : ∀ o ∈ x.bus.posts, o.onBus = false)
    (hp : x.takeOutChoice = some p) : x.takeOut = x.beginFrame { p with payload := x.filledPayload p } := by
  unfold Station.takeOut
  rw [awaiting_eq_none hfree, hp]
  rfl

theorem takeOut_of_no_choice {x : Station} (hp : x.takeOutChoice = none) : x.takeOut = x := by
  unfold Station.takeOut
  split
  · rfl
  · rw [hp]

/-- Nothing is taken out while a slot awaits its resend (R66). -/
theorem takeOut_of_awaiting {x : Station} {p : Post} (h : x.bus.awaiting = some p) : x.takeOut = x := by
  unfold Station.takeOut
  rw [h]
  rfl

/-- Settles O12: the choice; then the opportunity used, let pass, and without a candidate. -/
theorem takeOutChoosesAndBegins : Obligations.TakeOutChoosesAndBegins := by
  refine ⟨fun x => ⟨takeOutChoice_eq_none_iff x, fun _ => takeOutChoice_split⟩,
    fun x q hx hready hw hs => ⟨fun p hskip hfree hp => ?_, fun hskip => ?_, fun hskip hp => ?_⟩⟩
  · refine answer_change q hx ?_
    rw [startOpportunity_of_no_skip hx hready hw hs _ hskip]
    exact takeOut_of_choice (x := x.atOpportunity) hfree hp
  · exact answer_change q hx (startOpportunity_of_skip hx hready hw hs _ hskip)
  · refine answer_change q hx ?_
    rw [startOpportunity_of_no_skip hx hready hw hs _ hskip]
    exact takeOut_of_no_choice (x := x.atOpportunity) hp

/-! #### The resend -/

/-- The slot sent again keeps its place and its payload (R66). -/
theorem resend_of_allowed {x : Station} {p : Post} (h : x.bus.awaiting = some p)
    (hallowed : p.kind ≠ .clm ∨ x.claimsAllowed = true) : x.resend = x.beginFrame p := by
  unfold Station.resend
  rw [h]
  refine if_neg (fun hc => ?_)
  rcases hallowed with hk | hk
  · exact hk hc.1
  · exact Bool.false_ne_true (hc.2.symm.trans hk)

/-- A claim that may not be sent is given up (R61). -/
theorem resend_of_forbidden {x : Station} {p : Post} (h : x.bus.awaiting = some p) (hk : p.kind = .clm)
    (hforbidden : x.claimsAllowed = false) : x.resend = x.claimNotSent p.handle := by
  unfold Station.resend
  rw [h]
  exact if_pos ⟨hk, hforbidden⟩

/-- A slot that is ON_BUS and alone has its handle stays as it is when its frame begins. -/
theorem beginFrame_posts {x : Station} {before after : List Post} {p : Post} (hposts : x.bus.posts = before ++ p :: after)
    (hp : p.onBus = true) (hother : ∀ o ∈ before ++ after, o.handle ≠ p.handle) :
    x.bus.posts.map (fun o => if o.handle = p.handle then { p with onBus := true } else o) = x.bus.posts := by
  have hself : ({ p with onBus := true } : Post) = p := by rw [← hp]
  rw [hself]
  have hkept : ∀ l : List Post, (∀ o ∈ l, o.handle ≠ p.handle) →
      l.map (fun o => if o.handle = p.handle then p else o) = l :=
    fun l hl => (List.map_congr_left (fun o ho => if_neg (hl o ho))).trans (List.map_id' l)
  rw [hposts, List.map_append, List.map_cons, if_pos rfl,
    hkept before (fun o ho => hother o (List.mem_append_left _ ho)),
    hkept after (fun o ho => hother o (List.mem_append_right _ ho))]

end Sys2Proof.Machine
end

section
/-! ### What the offer of a slot and the removal of a record leave alone (R87, R90, R110, R111) -/

namespace Sys2Proof.Machine

/-! #### The view without the parts that a removal can change -/

/-- The view with the parts that `View.dropping` exchanges at fixed values. -/
def View.rest (v : View) : View :=
  { v with records := [], notes := [], stock := [], orders := [], owedReports := [], snapshot := none, infeed := .none }

/-- Two views that agree on the rest differ in the exchanged parts alone. -/
theorem eq_dropping_of_rest {v w : View} (h : w.rest = v.rest) : w = v.dropping w := by
  rcases v with ⟨⟩
  rcases w with ⟨⟩
  simp only [View.rest, View.mk.injEq] at h
  simp only [View.dropping, View.mk.injEq]
  tauto

theorem rest_of_view {s t : Station} (h : t.view = s.view) : t.view.rest = s.view.rest := congrArg View.rest h

theorem foldl_rest {α : Type} (f : Station → α → Station) (h : ∀ s x, (f s x).view.rest = s.view.rest) (l : List α)
    (s : Station) : (l.foldl f s).view.rest = s.view.rest := by
  induction l generalizing s with
  | nil => rfl
  | cons x xs ih => rw [List.foldl_cons, ih, h]

/-! #### Offers -/

/-- What no offer of a slot changes, nor the post of a notice: the rest of the view, the stock, the tasks, the face, the
close notes, and the records and order entries but for the handles and owed marks of their notices. -/
structure Steady where
  rest : View
  smap : Smap
  mpl : Mpl
  fct : Fct
  notes : List CloseNote
  records : List ((Nat × RoundId × Nat × Nat × (Nat × Nat × Nat)) × Bid)
  orders : List OrderEntry

/-- A record without the handle of its close and the close owed mark. -/
def LineRec.sure (r : LineRec) : (Nat × RoundId × Nat × Nat × (Nat × Nat × Nat)) × Bid :=
  (r.core, { r.bid with close := none, closeOwed := false })

def Station.steady (s : Station) : Steady where
  rest := s.view.rest
  smap := s.smap
  mpl := s.mpl
  fct := s.fct
  notes := s.clu.notes
  records := s.clu.records.map LineRec.sure
  orders := s.cnu.orders.map OrderEntry.kept

theorem updRecord_steady (s : Station) (n : Nat) (f : LineRec → LineRec) (h : ∀ r, (f r).sure = r.sure) :
    (s.updRecord n f).steady = s.steady := by
  have hrecords : (s.updRecord n f).clu.records.map LineRec.sure = s.clu.records.map LineRec.sure := by
    refine map_map_of_eq _ _ (fun r => ?_) _
    split <;> simp [h]
  unfold Station.steady
  rw [hrecords]
  rfl

/-- A change of the close of a record (R105). -/
theorem updBid_steady (s : Station) (n : Nat) {f : Bid → Bid}
    (h : ∀ b : Bid, { f b with close := none, closeOwed := false } = { b with close := none, closeOwed := false }) :
    (s.updBid n f).steady = s.steady :=
  updRecord_steady s n _ (fun r => Prod.ext rfl (h r.bid))

theorem updOrder_steady (s : Station) (o : Nat) (f : OrderEntry → OrderEntry) (h : ∀ e, (f e).kept = e.kept) :
    (s.updOrder o f).steady = s.steady := by
  have horders : (s.updOrder o f).cnu.orders.map OrderEntry.kept = s.cnu.orders.map OrderEntry.kept := by
    refine map_map_of_eq _ _ (fun e => ?_) _
    split <;> simp [h]
  unfold Station.steady
  rw [horders]
  rfl

theorem updGroup_steady (s : Station) (o : Nat) (f : Group → Group) (h : ∀ g, (f g).kept = g.kept) :
    (s.updGroup o f).steady = s.steady := by
  have hview := rest_of_view (updGroup_view s o f h)
  unfold Station.steady
  rw [hview]
  rfl

theorem sure_mapPick (r : LineRec) (f : PickBody → PickBody)
    (h : ∀ b, (f b).state = b.state ∧ (f b).order = b.order ∧ (f b).line = b.line) : (r.mapPick f).sure = r.sure := by
  rcases r with ⟨serial, article, qty, bid, body⟩
  cases body <;> simp [LineRec.mapPick, LineRec.sure, LineRec.core, LineRec.round, LineRec.reported, h]

section
variable (s : Station)

@[simp] theorem addPost_steady (k : Kind) (key : Key) (p : List Byte) : (s.addPost k key p).steady = s.steady := rfl

@[simp] theorem unoweKind_steady (k : Kind) : (s.unoweKind k).steady = s.steady := rfl

@[simp] theorem freeSlot_steady (h : Nat) : (s.freeSlot h).steady = s.steady := rfl

@[simp] theorem setOwedReadies_steady (l : List Nat) : (s.setOwedReadies l).steady = s.steady := rfl

@[simp] theorem oweKind_steady (k : Kind) : (s.oweKind k).steady = s.steady := by
  unfold Station.oweKind
  split <;> rfl

@[simp] theorem post_steady (k : Kind) (p : List Byte) : (s.post k p).2.steady = s.steady := by
  unfold Station.post
  split <;> simp

theorem post_steady_of_eq {s t : Station} {k : Kind} {p : List Byte} {h : Option Nat} (e : s.post k p = (h, t)) :
    t.steady = s.steady := by
  have hpost := post_steady s k p
  rwa [e] at hpost

@[simp] theorem statusTrigger_steady : s.statusTrigger.steady = s.steady := by
  unfold Station.statusTrigger
  split
  · rfl
  · split
    · exact post_steady_of_eq (by assumption)
    · rename_i hpost
      exact (post_steady_of_eq hpost :)

@[simp] theorem readyPosted_steady (n o h : Nat) : (s.readyPosted n o h).steady = s.steady := by
  unfold Station.readyPosted
  refine (updGroup_steady _ _ _ ?_).trans ?_
  · exact fun _ => rfl
  · exact updRecord_steady _ _ _ (fun r => sure_mapPick r _ (fun _ => ⟨rfl, rfl, rfl⟩))

@[simp] theorem trimOwedReadies_steady (l : List Nat) : (s.trimOwedReadies l).steady = s.steady := by
  induction l generalizing s with
  | nil => rfl
  | cons n rest ih =>
    unfold Station.trimOwedReadies
    split
    · rfl
    · exact (ih _).trans (updRecord_steady _ _ _ (fun r => sure_mapPick r _ (fun _ => ⟨rfl, rfl, rfl⟩)))

theorem clearOlderMarks_kept (o : Nat) (l : List OrderEntry) :
    (clearOlderMarks o l).map OrderEntry.kept = l.map OrderEntry.kept := by
  induction l with
  | nil => rfl
  | cons e es ih =>
    unfold clearOlderMarks
    split
    · rfl
    · rw [List.map_cons, List.map_cons, ih]
      split <;> rfl

@[simp] theorem fillOwed_steady (k : Kind) : (s.fillOwed k).station.steady = s.steady := by
  cases k <;> simp only [Station.fillOwed, declined]
  case abn =>
    unfold Station.fillAbn
    split
    · rfl
    · refine (updOrder_steady _ _ _ ?_).trans ?_
      · exact fun _ => rfl
      · simp only [Station.steady, clearOlderMarks_kept, Station.addPost]
        rfl
  case rdy =>
    unfold Station.fillRdy
    dsimp only
    split
    · simp [declined]
    · split <;> simp [declined]
  case cls =>
    unfold Station.fillCls
    split
    · rfl
    · refine (updBid_steady _ _ ?_).trans (addPost_steady _ _ _ _)
      exact fun _ => rfl
  case arp =>
    unfold Station.fillArp
    split <;> rfl
  case san =>
    unfold Station.fillSan
    split
    · rfl
    · split
      · rfl
      · split <;> rfl
  case sts =>
    unfold Station.fillSts
    split <;> rfl

@[simp] theorem offerKinds_steady (ks : List Kind) : (offerKinds s ks).steady = s.steady := by
  induction ks generalizing s with
  | nil => rfl
  | cons k ks ih =>
    unfold offerKinds
    dsimp only
    split
    · exact ih s
    · split
      · split <;> simp
      · simp [ih]

@[simp] theorem offerSlot_steady : s.offerSlot.steady = s.steady := by
  unfold Station.offerSlot
  split <;> simp

@[simp] theorem withdraw_steady (h : Option Nat) : (s.withdraw h).steady = s.steady := by
  unfold Station.withdraw
  split
  · rfl
  · split <;> simp

@[simp] theorem withdrawBid_steady (r : LineRec) : (s.withdrawBid r).steady = s.steady := by
  unfold Station.withdrawBid
  split
  · split <;> simp
  · rfl

@[simp] theorem postClose_steady (r : LineRec) : (s.postClose r).steady = s.steady := by
  unfold Station.postClose
  split
  · rename_i hpost
    refine (updBid_steady _ _ ?_).trans (post_steady_of_eq hpost)
    exact fun _ => rfl
  · rename_i hpost
    refine (updBid_steady _ _ ?_).trans (post_steady_of_eq hpost)
    exact fun _ => rfl

end

theorem rest_of_steady {s t : Station} (h : t.steady = s.steady) : t.view.rest = s.view.rest := congrArg Steady.rest h

theorem cores_of_steady {s t : Station} (h : t.steady = s.steady) :
    t.clu.records.map LineRec.core = s.clu.records.map LineRec.core := by
  have hcores : ∀ l : List LineRec, l.map LineRec.core = (l.map LineRec.sure).map Prod.fst := fun l => by
    rw [List.map_map]
    rfl
  rw [hcores, hcores, show List.map LineRec.sure t.clu.records = _ from congrArg Steady.records h]
  rfl

theorem kept_of_steady {s t : Station} (h : t.steady = s.steady) :
    t.cnu.orders.map OrderEntry.kept = s.cnu.orders.map OrderEntry.kept := congrArg Steady.orders h

/-! #### The removal of a record -/

/-- What the removal of a record leaves alone, but for the record itself and the line of a WON pick. -/
structure Lasting where
  rest : View
  holdings : List Stock
  cores : List (Nat × RoundId × Nat × Nat × (Nat × Nat × Nat))
  orders : List OrderEntry

def Station.lasting (s : Station) : Lasting where
  rest := s.view.rest
  holdings := s.smap.carriers.map Carrier.holdings
  cores := s.clu.records.map LineRec.core
  orders := s.cnu.orders.map OrderEntry.kept

theorem lasting_of_steady {s t : Station} (h : t.steady = s.steady) : t.lasting = s.lasting := by
  have hsmap : t.smap = s.smap := congrArg Steady.smap h
  unfold Station.lasting
  rw [rest_of_steady h, cores_of_steady h, kept_of_steady h, hsmap]

/-- The holdings of a carrier, from its stock. -/
def Stock.holdings (k : Stock) : Stock := { k with bays := k.bays.map (fun x => (x.1, 0)) }

theorem map_holdings (l : List Carrier) : l.map Carrier.holdings = (l.map Carrier.stock).map Stock.holdings := by
  rw [List.map_map]
  refine List.map_congr_left (fun k _ => ?_)
  simp [Carrier.holdings, Stock.holdings, Carrier.stock]

theorem lasting_of_onlySmap {s t : Station} (h : OnlySmap s t)
    (hk : t.smap.carriers.map Carrier.holdings = s.smap.carriers.map Carrier.holdings) : t.lasting = s.lasting := by
  unfold OnlySmap at h
  unfold Station.lasting
  rw [hk, h]
  rfl

/-- The core of a record, from its view. -/
def RecordView.core (v : RecordView) : Nat × RoundId × Nat × Nat × (Nat × Nat × Nat) :=
  (v.serial, v.round, v.article, v.qty, v.reported)

theorem map_core (l : List LineRec) : l.map LineRec.core = (l.map LineRec.kept).map RecordView.core := by
  rw [List.map_map]
  rfl

theorem lasting_of_view {s t : Station} (h : t.view = s.view) : t.lasting = s.lasting := by
  have horders : t.cnu.orders = s.cnu.orders := congrArg View.orders h
  have hrecords : t.clu.records.map LineRec.kept = s.clu.records.map LineRec.kept := congrArg View.records h
  have hstock : t.smap.carriers.map Carrier.stock = s.smap.carriers.map Carrier.stock := congrArg View.stock h
  unfold Station.lasting
  rw [map_holdings, map_holdings, map_core, map_core, hrecords, h, horders, hstock]

theorem foldl_lasting {α : Type} (f : Station → α → Station) (h : ∀ s x, (f s x).lasting = s.lasting) (l : List α)
    (s : Station) : (l.foldl f s).lasting = s.lasting := by
  induction l generalizing s with
  | nil => rfl
  | cons x xs ih => rw [List.foldl_cons, ih, h]

/-- A change of a bay that keeps its count. -/
theorem changeBay_lasting (s : Station) (a : BayAddr) {f : Bay → Bay} {g : Nat → Nat}
    (hg : ∀ b, (f b).count = b.count ∧ (f b).reserved = g b.reserved) : (s.changeBay a f).lasting = s.lasting := by
  refine lasting_of_onlySmap (changeBay_onlySmap s a f) ?_
  rw [map_holdings, map_holdings,
    changeBay_stock s a (g := fun x => (x.1, g x.2)) (fun b => Prod.ext (hg b).1 (hg b).2)]
  refine map_modify_of_eq _ _ (fun k => ?_) _ _
  unfold Stock.holdings
  dsimp only
  rw [map_modify_of_eq (fun x : Nat × Nat => (x.1, 0)) (fun x => (x.1, g x.2)) (fun _ => rfl)]

section
variable (s : Station)

@[simp] theorem unexpect_lasting (a : BayAddr) (q : Nat) : (s.unexpect a q).lasting = s.lasting := by
  unfold Station.unexpect
  split
  · exact changeBay_lasting s a (g := id) (fun _ => ⟨rfl, rfl⟩)
  · rfl

theorem unreserveOne_lasting (e : BayAddr × Nat) : (s.unreserveOne e).lasting = s.lasting :=
  changeBay_lasting s e.1 (g := fun n => n - e.2) (fun _ => ⟨rfl, rfl⟩)

@[simp] theorem unreserve_lasting (entries : List (BayAddr × Nat)) : (s.unreserve entries).lasting = s.lasting := by
  unfold Station.unreserve
  split
  · exact foldl_lasting Station.unreserveOne unreserveOne_lasting _ _
  · rfl

@[simp] theorem testArticle_lasting (code : Nat) : (s.testArticle code).lasting = s.lasting := by
  refine lasting_of_onlySmap (testArticle_onlySmap s code) ?_
  rw [map_holdings, map_holdings]
  exact congrArg (List.map Stock.holdings) (congrArg View.stock (testArticle_view s code))

@[simp] theorem keepNote_lasting (r : LineRec) : (s.keepNote r).lasting = s.lasting := by
  unfold Station.keepNote
  split
  · rfl
  · split <;> rfl

@[simp] theorem removeJobs_lasting (m : Job → Bool) : (s.removeJobs m).lasting = s.lasting := rfl

@[simp] theorem setOwedReadies_lasting (l : List Nat) : (s.setOwedReadies l).lasting = s.lasting := rfl

@[simp] theorem statusTrigger_lasting : s.statusTrigger.lasting = s.lasting := lasting_of_steady (statusTrigger_steady s)

@[simp] theorem withdrawBid_lasting (r : LineRec) : (s.withdrawBid r).lasting = s.lasting :=
  lasting_of_steady (withdrawBid_steady s r)

@[simp] theorem putawayEnded_lasting (n : Nat) : (s.putawayEnded n).lasting = s.lasting := by
  unfold Station.putawayEnded Station.nonHaltingFault
  split
  · exact statusTrigger_lasting _
  · rfl

@[simp] theorem dropOwnLine_lasting (o l : Nat) :
    (s.dropOwnLine o l).lasting = { s.lasting with orders := (s.dropOwnLine o l).lasting.orders } := rfl

end

theorem mem_of_record? {s : Station} {n : Nat} {r : LineRec} (h : s.record? n = some r) : r ∈ s.clu.records ∧ r.serial = n :=
  ⟨List.mem_of_find?_eq_some h, by simpa using List.find?_some h⟩

/-- The cores without those of one serial. -/
def Lasting.without (l : Lasting) (n : Nat) : Lasting := { l with cores := l.cores.filter (fun c => c.1 ≠ n) }

/-- The station with the record taken out of the line table, before anything is withdrawn or given back. -/
def Station.withoutRecord (s : Station) (n : Nat) : Station :=
  { s with clu := { s.clu with records := s.clu.records.filter (fun x => x.serial != n) } }

theorem filter_cores (l : List LineRec) (n : Nat) :
    (l.map LineRec.core).filter (fun c => c.1 ≠ n) = (l.filter (fun r => r.serial ≠ n)).map LineRec.core := by
  rw [List.filter_map]
  rfl

theorem withoutRecord_lasting (s : Station) (n : Nat) : (s.withoutRecord n).lasting = s.lasting.without n := by
  have hcores : (s.withoutRecord n).clu.records.map LineRec.core =
      (s.clu.records.map LineRec.core).filter (fun c => c.1 ≠ n) := by
    rw [filter_cores]
    refine congrArg (List.map LineRec.core) (List.filter_congr (fun r _ => ?_))
    by_cases h : r.serial = n <;> simp [h]
  unfold Station.lasting Lasting.without
  rw [hcores]
  rfl

theorem without_of_record?_none {s : Station} {n : Nat} (h : s.record? n = none) : s.lasting.without n = s.lasting := by
  have hfilter : s.lasting.cores.filter (fun c => c.1 ≠ n) = s.lasting.cores := by
    refine List.filter_eq_self.mpr (fun c hc => ?_)
    obtain ⟨r, hr, rfl⟩ := List.mem_map.mp hc
    have hserial : r.serial ≠ n := by simpa using List.find?_eq_none.mp h r hr
    exact decide_eq_true hserial
  unfold Lasting.without
  rw [hfilter]

/-- A record goes, and the rest lasts but for the own lines of the orders. -/
theorem dropRecord_lasting (s : Station) (n : Nat) :
    (s.dropRecord n).lasting = { s.lasting.without n with orders := (s.dropRecord n).lasting.orders } := by
  cases hr : s.record? n with
  | none =>
    have hsame : s.dropRecord n = s := by
      unfold Station.dropRecord
      rw [hr]
    rw [hsame, without_of_record?_none hr]
  | some r =>
    rw [← withoutRecord_lasting]
    unfold Station.dropRecord
    rw [hr]
    dsimp only
    split
    · split
      · rw [testArticle_lasting, dropOwnLine_lasting, setOwedReadies_lasting, removeJobs_lasting, unreserve_lasting,
          keepNote_lasting, withdrawBid_lasting]
        rfl
      · rw [testArticle_lasting, setOwedReadies_lasting, removeJobs_lasting, unreserve_lasting,
          keepNote_lasting, withdrawBid_lasting]
        rfl
    · rw [testArticle_lasting, putawayEnded_lasting, removeJobs_lasting, unexpect_lasting,
        keepNote_lasting, withdrawBid_lasting]
      rfl

/-- The order entries last as well, but where the record is a WON pick, whose line leaves the order (R111). -/
theorem dropRecord_orders {s : Station} {n : Nat} {r : LineRec} (hr : s.record? n = some r) (hwon : r.won = false) :
    (s.dropRecord n).lasting = s.lasting.without n := by
  rw [← withoutRecord_lasting]
  unfold Station.dropRecord
  rw [hr]
  dsimp only
  split
  · rename_i b hb
    have hstate : b.state ≠ .won := by simpa [LineRec.won, hb] using hwon
    rw [if_neg hstate, testArticle_lasting, setOwedReadies_lasting, removeJobs_lasting, unreserve_lasting,
      keepNote_lasting, withdrawBid_lasting]
    rfl
  · rw [testArticle_lasting, putawayEnded_lasting, removeJobs_lasting, unexpect_lasting,
      keepNote_lasting, withdrawBid_lasting]
    rfl

theorem dropRecord_rest (s : Station) (n : Nat) : (s.dropRecord n).view.rest = s.view.rest :=
  congrArg Lasting.rest (dropRecord_lasting s n)

theorem dropRecord_cores (s : Station) (n : Nat) :
    (s.dropRecord n).clu.records.map LineRec.core = (s.clu.records.map LineRec.core).filter (fun c => c.1 ≠ n) :=
  congrArg Lasting.cores (dropRecord_lasting s n)

/-! #### The removal of the records that satisfy a test -/

theorem foldl_dropRecord_cores (l : List Nat) (s : Station) :
    (l.foldl (fun t n => t.dropRecord n) s).clu.records.map LineRec.core =
      (s.clu.records.map LineRec.core).filter (fun c => c.1 ∉ l) := by
  induction l generalizing s with
  | nil => simp
  | cons n l ih =>
    rw [List.foldl_cons, ih, dropRecord_cores, List.filter_filter]
    refine List.filter_congr (fun c _ => ?_)
    simp [Bool.and_comm]

theorem dropWhere_rest (s : Station) (p : LineRec → Bool) : (s.dropWhere p).view.rest = s.view.rest :=
  foldl_rest _ dropRecord_rest _ _

/-- The records that stay have the core of a record that fails the test. -/
theorem core_of_mem_dropWhere {s : Station} {p : LineRec → Bool} {k : LineRec} (h : k ∈ (s.dropWhere p).clu.records) :
    ∃ k' ∈ s.clu.records, p k' = false ∧ k'.core = k.core := by
  have hk : k.core ∈ (s.dropWhere p).clu.records.map LineRec.core := List.mem_map_of_mem h
  unfold Station.dropWhere at hk
  rw [foldl_dropRecord_cores] at hk
  obtain ⟨hcore, hserial⟩ := List.mem_filter.mp hk
  obtain ⟨k', hk', hsame⟩ := List.mem_map.mp hcore
  refine ⟨k', hk', ?_, hsame⟩
  rw [← hsame] at hserial
  by_contra hp
  exact of_decide_eq_true hserial
    (List.mem_map.mpr ⟨k', List.mem_filter.mpr ⟨hk', by simpa using hp⟩, rfl⟩)

/-- Where no two records have one serial, those that stay are those that fail the test. -/
theorem dropWhere_cores {s : Station} (hnodup : (s.clu.records.map (fun r => r.serial)).Nodup) (p : LineRec → Bool) :
    (s.dropWhere p).clu.records.map LineRec.core = (s.clu.records.filter (fun k => !p k)).map LineRec.core := by
  unfold Station.dropWhere
  rw [foldl_dropRecord_cores, List.filter_map]
  refine congrArg (List.map LineRec.core) (List.filter_congr (fun k hk => ?_))
  have hiff : k.serial ∈ (s.clu.records.filter p).map (fun r => r.serial) ↔ p k = true := by
    refine ⟨fun h => ?_, fun h => List.mem_map.mpr ⟨k, List.mem_filter.mpr ⟨hk, h⟩, rfl⟩⟩
    obtain ⟨k', hk', hserial⟩ := List.mem_map.mp h
    obtain ⟨hmem, hp⟩ := List.mem_filter.mp hk'
    exact List.inj_on_of_nodup_map hnodup hmem hk hserial ▸ hp
  simp only [Function.comp_apply, LineRec.core, hiff]
  cases p k <;> rfl

theorem tentative_iff_core (r : LineRec) : r.tentative = true ↔ r.core.2.2.2.2.2.1 = 0 := by
  rcases r with ⟨serial, article, qty, bid, body⟩
  cases body with
  | pick b => rcases b with ⟨order, line, state⟩; cases state <;> simp [LineRec.tentative, LineRec.core, LineRec.reported]
  | putaway b => rcases b with ⟨number, week, target, state⟩; cases state <;> simp [LineRec.tentative, LineRec.core, LineRec.reported]

theorem tentative_of_core {r k : LineRec} (h : r.core = k.core) : r.tentative = k.tentative := by
  rw [Bool.eq_iff_iff, tentative_iff_core, tentative_iff_core, h]

end Sys2Proof.Machine
end

section
/-! ### The resend, and a claim given up (R61, R66, R88) -/

namespace Sys2Proof.Machine

/-! #### A claim given up -/

theorem claimNotSent_of_holder {s : Station} {h : Nat} {r : LineRec} (hr : s.claimHolder h = some r) :
    s.claimNotSent h = ((s.freeSlot h).dropRecord r.serial).offerSlot := by
  unfold Station.claimNotSent
  dsimp only
  rw [show (s.freeSlot h).claimHolder h = some r from hr]

theorem claimNotSent_of_no_holder {s : Station} {h : Nat} (hr : s.claimHolder h = none) :
    s.claimNotSent h = (s.freeSlot h).offerSlot := by
  unfold Station.claimNotSent
  dsimp only
  rw [show (s.freeSlot h).claimHolder h = none from hr]

/-- Where nothing is owed, an offer is taken by none. -/
theorem offerSlot_of_none_owed {s : Station} (h : s.bus.owed = []) : s.offerSlot = s := by
  unfold Station.offerSlot
  rw [h]
  split <;> rfl

theorem claimHolder_eq_none {s : Station} {h : Nat} (hr : ∀ r ∈ s.clu.records, r.bid.claim ≠ some h) :
    s.claimHolder h = none :=
  List.find?_eq_none.mpr (fun r hmem hc => by simp [hr r hmem] at hc)

theorem claimHolder_mem {s : Station} {h : Nat} {r : LineRec} (hr : s.claimHolder h = some r) :
    r ∈ s.clu.records ∧ r.bid.claim = some h ∧ r.tentative = true := by
  have hfound := List.find?_some hr
  simp only [Bool.and_eq_true, beq_iff_eq] at hfound
  exact ⟨List.mem_of_find?_eq_some hr, hfound⟩

/-- The slot of a handle freed among the others. -/
theorem filter_handle_split {before after : List Post} {p : Post} (hother : ∀ o ∈ before ++ after, o.handle ≠ p.handle) :
    (before ++ p :: after).filter (fun o => o.handle != p.handle) = before ++ after := by
  have hkept : ∀ l : List Post, (∀ o ∈ l, o.handle ≠ p.handle) → l.filter (fun o => o.handle != p.handle) = l :=
    fun l hl => List.filter_eq_self.mpr (fun o ho => by simp [hl o ho])
  rw [List.filter_append, List.filter_cons_of_neg (by simp),
    hkept before (fun o ho => hother o (List.mem_append_left _ ho)),
    hkept after (fun o ho => hother o (List.mem_append_right _ ho))]

/-- A name that the table holds has its one record. -/
theorem record?_of_mem {s : Station} (hnodup : (s.clu.records.map (fun r => r.serial)).Nodup) {r : LineRec}
    (hr : r ∈ s.clu.records) : s.record? r.serial = some r := by
  cases hfound : s.record? r.serial with
  | none => exact absurd (List.find?_eq_none.mp hfound r hr) (by simp)
  | some k =>
    obtain ⟨hk, hserial⟩ := mem_of_record? hfound
    rw [List.inj_on_of_nodup_map hnodup hk hr hserial]

theorem not_won_of_tentative {r : LineRec} (h : r.tentative = true) : r.won = false := by
  rcases r with ⟨serial, article, qty, bid, body⟩
  cases body <;> simp_all [LineRec.tentative, LineRec.won]

/-- What is left where a claim is given up: all but its slot, its record and the offer of the slot. -/
theorem claimNotSent_leaves {s : Station} {h : Nat} {r : LineRec} (hr : s.claimHolder h = some r) :
    (s.claimNotSent h).lasting = { s.lasting.without r.serial with orders := (s.claimNotSent h).lasting.orders }
      ∧ (s.NamesFresh → (s.claimNotSent h).lasting = s.lasting.without r.serial)
      ∧ (h < s.bus.nextHandle → (s.claimNotSent h).bus.slotFree h) := by
  have hoffer : (s.claimNotSent h).lasting = ((s.freeSlot h).dropRecord r.serial).lasting := by
    rw [claimNotSent_of_holder hr]
    exact lasting_of_steady (offerSlot_steady _)
  refine ⟨?_, fun hnames => ?_, fun hold => ?_⟩
  · rw [hoffer, dropRecord_lasting]
    rfl
  · obtain ⟨hmem, -, htentative⟩ := claimHolder_mem hr
    obtain ⟨-, -, -, -, hserials, -⟩ := hnames
    rw [hoffer, dropRecord_orders (s := s.freeSlot h) (record?_of_mem hserials hmem) (not_won_of_tentative htentative)]
    rfl
  · have hcarried : (s.freeSlot h).bus.Carried (s.claimNotSent h).bus := by
      rw [claimNotSent_of_holder hr]
      exact ((Bus.Carried.of_eq rfl).dropRecord _).offerSlot
    exact hcarried.free h hold (fun o ho => by simpa using List.of_mem_filter ho)

/-- Settles O13: the resend of a slot, and the claim given up, without a record and with one. -/
theorem frameResendRepeats : Obligations.FrameResendRepeats := by
  intro x q before after p hx hready hw hs hskip hposts hbefore hp hother
  have hopp := startOpportunity_of_no_skip hx hready hw hs
  have hawait : x.atOpportunity.bus.awaiting = some p := awaiting_eq_some hs hposts hbefore hp
  have hclaims : ¬ (x.stc.mode = .running ∧ x.bus.standing.bids = true) → x.atOpportunity.claimsAllowed = false :=
    fun hforbidden => Bool.eq_false_iff.mpr (fun h => hforbidden ((claimsAllowed_iff x).mp h))
  refine ⟨fun hallowed => answer_change q hx ?_, fun hk hnone hforbidden howed => answer_change q hx ?_,
    fun hk hforbidden r hr => ?_, answer_change q hx ?_⟩
  · rw [hopp _ hskip, resend_of_allowed hawait (hallowed.imp_right (claimsAllowed_iff x.atOpportunity).mpr),
      Station.beginFrame, beginFrame_posts (x := x.atOpportunity) hposts hp hother]
    rfl
  · rw [hopp _ hskip, resend_of_forbidden hawait hk (hclaims hforbidden),
      claimNotSent_of_no_holder (s := x.atOpportunity) (claimHolder_eq_none hnone),
      offerSlot_of_none_owed (by exact howed), Station.freeSlot,
      show x.atOpportunity.bus.posts = before ++ p :: after from hposts, filter_handle_split hother]
    rfl
  · obtain ⟨hlasting, hfresh, hfree⟩ := claimNotSent_leaves (s := x.atOpportunity) (h := p.handle) hr
    obtain ⟨hstep, hview⟩ := answer_change (u := x.atOpportunity.claimNotSent p.handle) q hx
      ((hopp _ hskip).trans (resend_of_forbidden hawait hk (hclaims hforbidden)))
    have hsettled := lasting_of_view hview
    have hcores : ((x.atOpportunity.claimNotSent p.handle).settle x).clu.records.map LineRec.core =
        (x.clu.records.filter (fun k => k.serial ≠ r.serial)).map LineRec.core :=
      (congrArg Lasting.cores (hsettled.trans hlasting)).trans (filter_cores x.clu.records r.serial)
    refine ⟨_, hstep, ?_, fun r' hr' hserial => ?_, congrArg Lasting.holdings (hsettled.trans hlasting), fun hnames => ?_⟩
    · exact eq_dropping_of_rest (v := x.atOpportunity.view) (congrArg Lasting.rest (hsettled.trans hlasting))
    · obtain ⟨k, hk, hcore⟩ := List.mem_map.mp (hcores ▸ List.mem_map_of_mem (f := LineRec.core) hr')
      exact of_decide_eq_true (List.mem_filter.mp hk).2 ((congrArg Prod.fst hcore).trans hserial)
    · have hall := hsettled.trans (hfresh hnames)
      obtain ⟨hhandles, -⟩ := hnames
      have hpmem : p ∈ x.bus.posts := hposts ▸ List.mem_append_right _ (List.mem_cons_self ..)
      refine ⟨?_, congrArg Lasting.orders hall, hcores⟩
      have hcarried := (settle_grown (x.atOpportunity.claimNotSent p.handle) x).carried
      have hold : x.bus.nextHandle ≤ (x.atOpportunity.claimNotSent p.handle).bus.nextHandle :=
        ((Bus.Carried.of_eq rfl).claimNotSent p.handle : x.atOpportunity.bus.Carried _).handles
      exact hcarried.free p.handle ((hhandles p hpmem).trans_le hold) (hfree (hhandles p hpmem))
  · rw [hopp _ hskip, takeOut_of_awaiting hawait]
    rfl

end Sys2Proof.Machine
end

section
/-! ### The counters, the standing, errors, reception and rejoin (R62 to R72, R112) -/

namespace Sys2Proof.Machine

/-! #### New values of the counters -/

/-- The station with these counters and their standing, before anything follows from a change of standing. -/
def Station.counted (s : Station) (t r : Nat) : Station := { s with bus := s.bus.counted t r }

theorem standingOf_ne_withdrawn {t : Nat} (r : Nat) (ht : t ≤ 255) : standingOf t r ≠ .withdrawn :=
  fun h => absurd ((standingOf_withdrawn_iff t r).mp h) (by omega)

/-- Where the standing stays, nothing follows (R68). -/
theorem setCounters_of_same {s : Station} {t r : Nat} (ht : t ≤ 255) (h : standingOf t r = s.bus.standing) :
    s.setCounters t r = s.counted t r := by
  unfold Station.setCounters
  dsimp only
  rw [if_neg (standingOf_ne_withdrawn r ht), if_pos h]
  rfl

theorem setCounters_of_changed {s : Station} {t r : Nat} (ht : t ≤ 255) (h : standingOf t r ≠ s.bus.standing) :
    s.setCounters t r = (s.counted t r).standingChanged := by
  unfold Station.setCounters
  dsimp only
  rw [if_neg (standingOf_ne_withdrawn r ht), if_neg h]
  rfl

/-- On entering QUIET the TENTATIVE records go, before the STS of the change (R112, R195). -/
theorem setCounters_of_entering_quiet {s : Station} {t r : Nat} (h : standingOf t r = .quiet)
    (hold : s.bus.standing ≠ .quiet) : s.setCounters t r = (s.counted t r).dropTentatives.statusTrigger := by
  obtain ⟨-, ht⟩ := (standingOf_quiet_iff t r).mp h
  rw [setCounters_of_changed ht (h ▸ hold.symm)]
  unfold Station.standingChanged
  rw [if_pos (by exact h)]

/-- But for an entry to QUIET, a change of standing brings an STS alone. -/
theorem setCounters_view {s : Station} {t r : Nat} (ht : t ≤ 255) (h : standingOf t r = .quiet → s.bus.standing = .quiet) :
    (s.setCounters t r).view = (s.counted t r).view := by
  by_cases hsame : standingOf t r = s.bus.standing
  · rw [setCounters_of_same ht hsame]
  · have hquiet : (s.counted t r).bus.standing ≠ .quiet := fun hq => hsame (hq.trans (h hq).symm)
    rw [setCounters_of_changed ht hsame, Station.standingChanged, if_neg hquiet, statusTrigger_view]

theorem standingChanged_rest (s : Station) : s.standingChanged.view.rest = s.view.rest := by
  unfold Station.standingChanged
  rw [rest_of_view (statusTrigger_view _)]
  split
  · exact dropWhere_rest _ _
  · rfl

theorem setCounters_rest {s : Station} {t : Nat} (r : Nat) (ht : t ≤ 255) :
    (s.setCounters t r).view.rest = (s.counted t r).view.rest := by
  by_cases hsame : standingOf t r = s.bus.standing
  · rw [setCounters_of_same ht hsame]
  · rw [setCounters_of_changed ht hsame, standingChanged_rest]

/-- The records of a station that enters QUIET. -/
theorem setCounters_cores_of_entering_quiet {s : Station} {t r : Nat} (h : standingOf t r = .quiet)
    (hold : s.bus.standing ≠ .quiet) : (s.setCounters t r).clu.records.map LineRec.core =
      (s.counted t r).dropTentatives.clu.records.map LineRec.core := by
  rw [setCounters_of_entering_quiet h hold]
  exact cores_of_steady (statusTrigger_steady _)

/-- Settles O11: the bounds of the standings, then the three things a change of the counters brings. -/
theorem standingFollowsCounters : Obligations.StandingFollowsCounters := by
  refine ⟨fun t r => ⟨standingOf_active_iff t r, standingOf_caution_iff t r, standingOf_quiet_iff t r,
    standingOf_withdrawn_iff t r⟩, fun x t r ht => ⟨?_, fun hquiet hold => ?_, fun hsame => ?_⟩⟩
  · have hline := (setCounters_carried x r ht).line
    exact ⟨congrArg Bus.tec hline, congrArg Bus.recCtr hline, congrArg Bus.standing hline⟩
  · have hcores := setCounters_cores_of_entering_quiet hquiet hold
    refine ⟨fun k hk => ?_, fun hnames => ?_⟩
    · obtain ⟨k', hk', hcore⟩ := List.mem_map.mp (hcores ▸ List.mem_map_of_mem (f := LineRec.core) hk)
      obtain ⟨k'', -, htentative, hcore'⟩ := core_of_mem_dropWhere hk'
      rw [← tentative_of_core (hcore'.trans hcore), htentative]
    · obtain ⟨-, -, -, -, hserials, -⟩ := hnames
      rw [hcores]
      exact dropWhere_cores (s := x.counted t r) hserials _
  · rw [setCounters_of_same ht hsame, Station.counted, Bus.counted, hsame]

/-! #### Errors counted -/

/-- The Bus Interface with the standing of its counters. -/
def Bus.restanding (b : Bus) : Bus := { b with standing := standingOf b.tec b.recCtr }

/-- A command that only counts, in the terms of what the counters then give: `b` is the Bus Interface before the count,
`c` after it, but for the standing. -/
theorem counted_of_setCounters {x : Station} {f : Station → Station} {b c : Bus} (q : List Instr)
    (hx : x.live) (hw : x.bus.standing ≠ .withdrawn) (hf : f x = { x with bus := b }.setCounters c.tec c.recCtr)
    (hold : b.standing = x.bus.standing)
    (hb : standingOf c.tec c.recCtr ≠ .withdrawn → c.restanding = b.counted c.tec c.recCtr) :
    let u := { x with bus := c.restanding }
    let outcome := State.answer ⟨x, q⟩ (fun y => y.whenJoined f)
    (u.bus.standing = x.bus.standing → outcome = .next ⟨u.settle x, q⟩ ∧ (u.settle x).view = u.view)
      ∧ (u.bus.standing ≠ .withdrawn →
        ∃ y, outcome = .next ⟨y, q⟩ ∧ y.view = { x.view.dropping y.view with bus := u.view.bus })
      ∧ (u.bus.standing = .withdrawn →
        ∃ y, outcome = .next ⟨y, q⟩ ∧ y.bus.standing = .withdrawn ∧ y.bus.drive = []) := by
  have hle : standingOf c.tec c.recCtr ≠ .withdrawn → c.tec ≤ 255 := fun h =>
    Nat.le_of_not_lt (fun hlt => h ((standingOf_withdrawn_iff _ _).mpr hlt))
  obtain ⟨hstep, hview⟩ := answer_change q hx hf
  refine ⟨fun hsame => ?_, fun hstays => ?_, fun hgoes => ?_⟩
  · have hstays : standingOf c.tec c.recCtr ≠ .withdrawn := fun h => hw (hsame.symm.trans h)
    rw [setCounters_of_same (hle hstays) (by exact hsame.trans hold.symm)] at hf
    rw [hb hstays]
    exact answer_change q hx hf
  · dsimp only
    rw [hb hstays]
    exact ⟨_, hstep, eq_dropping_of_rest (v := ({ x with bus := b.counted c.tec c.recCtr } : Station).view)
      ((rest_of_view hview).trans (setCounters_rest _ (hle hstays)))⟩
  · have hline := (line_of_view hview).trans
      (setCounters_carried_of_withdrawn { x with bus := b } _ ((standingOf_withdrawn_iff _ _).mp hgoes)).line
    exact ⟨_, hstep, congrArg Bus.standing hline, congrArg Bus.drive hline⟩

/-- The signal of the standing that the counters give: active but in QUIET (R65). -/
theorem bids_eq {st : Standing} (h : st ≠ .withdrawn) : st.bids = decide (¬ st = .quiet) := by
  cases st <;> simp_all [Standing.bids]

/-- The Bus Interface as an error signal of the station leaves it, before the count (R65, R66). -/
def Bus.signalled (b : Bus) (role : Role) (error : BusError) (standing : Standing) : Bus :=
  { b with
    sending := none, errorWait := some { role := role, active := standing.bids }, delayCount := 0, gap := .afterError
    acked := decide (role = Role.receiver) && afterSlot error, drive := errorSignal standing.bids
    skip := if role = Role.transmitter then standing.skipped else 0 }

theorem signalError_eq {s : Station} (hw : s.bus.standing ≠ .withdrawn) (role : Role) (e : BusError) (t r : Nat) :
    s.signalError role e t r =
      { s with bus := s.bus.signalled role e (s.bus.standingAfter t r) }.setCounters
        (s.bus.tec + t) (min 255 (s.bus.recCtr + r)) :=
  if_neg hw

/-- What an error adds, as R67 gives it row by row. -/
theorem errorCounts_eq {b : Bus} {e : BusError} (he : e ≠ .delimiter)
    (hrx : b.sending = none → e ≠ .echo ∧ e ≠ .acknowledgeMissing) (htx : b.sending ≠ none → e ≠ .check) :
    errorCounts b.role b.standing e = some
      (if b.sending ≠ none ∧ e ≠ .roomTest ∧ e ≠ .shapeEnd ∧ ¬ (e = .acknowledgeMissing ∧ b.standing = .quiet)
        then 8 else 0,
      if e = .roomTest ∨ (¬ b.sending ≠ none ∧ e ≠ .shapeEnd) then 1 else 0) := by
  cases hs : b.sending with
  | none =>
    obtain ⟨hecho, hack⟩ := hrx hs
    have hrole : b.role = .receiver := by simp [Bus.role, hs]
    rw [hrole]
    cases e <;> simp_all [errorCounts]
  | some h =>
    have hcheck := htx (by simp [hs])
    have hrole : b.role = .transmitter := by simp [Bus.role, hs]
    rw [hrole]
    cases e <;> simp_all [errorCounts]
    split <;> simp_all

/-- TEC and REC after an error, as R67 gives them. -/
def Bus.tecAfter (b : Bus) (e : BusError) : Nat :=
  if b.sending ≠ none ∧ e ≠ .roomTest ∧ e ≠ .shapeEnd ∧ ¬ (e = .acknowledgeMissing ∧ b.standing = .quiet)
  then b.tec + 8 else b.tec

def Bus.recAfter (b : Bus) (e : BusError) : Nat :=
  if e = .roomTest ∨ (¬ b.sending ≠ none ∧ e ≠ .shapeEnd) then min 255 (b.recCtr + 1) else b.recCtr

/-- The Bus Interface after an error, but for the standing: the counters, and the signal of what they give (R65, R66). -/
def Bus.errored (b : Bus) (e : BusError) : Bus :=
  { b with
    tec := b.tecAfter e, recCtr := b.recAfter e, sending := none
    errorWait := some {
      role := if b.sending ≠ none then .transmitter else .receiver
      active := decide (¬ standingOf (b.tecAfter e) (b.recAfter e) = .quiet) }
    delayCount := 0, gap := .afterError
    acked := decide (¬ b.sending ≠ none ∧ (e = BusError.shapeDelimiter ∨ e = BusError.shapeEnd ∨ e = BusError.roomTest))
    drive := List.replicate 6 (decide (standingOf (b.tecAfter e) (b.recAfter e) = .quiet)) ++ List.replicate 8 true
    skip := if b.sending ≠ none ∧ standingOf (b.tecAfter e) (b.recAfter e) = .quiet then 8 else 0 }

theorem role_eq (b : Bus) : b.role = if b.sending ≠ none then .transmitter else .receiver := by
  cases h : b.sending <;> simp [Bus.role, h]

theorem afterSlot_eq (e : BusError) :
    afterSlot e = decide (e = BusError.shapeDelimiter ∨ e = BusError.shapeEnd ∨ e = BusError.roomTest) := by
  cases e <;> rfl

/-- The signal as the model makes it is the signal of R65. -/
theorem errored_restanding {b : Bus} {e : BusError} (h : standingOf (b.tecAfter e) (b.recAfter e) ≠ .withdrawn) :
    (b.errored e).restanding = (b.signalled b.role e (standingOf (b.tecAfter e) (b.recAfter e))).counted
      (b.tecAfter e) (b.recAfter e) := by
  have hacked : (decide (¬ b.sending ≠ none ∧
        (e = BusError.shapeDelimiter ∨ e = BusError.shapeEnd ∨ e = BusError.roomTest))) =
      (decide (b.role = .receiver) && afterSlot e) := by
    rw [role_eq, afterSlot_eq]
    cases b.sending <;> simp
  have hskip : (if b.sending ≠ none ∧ standingOf (b.tecAfter e) (b.recAfter e) = .quiet then 8 else 0) =
      if b.role = .transmitter then (standingOf (b.tecAfter e) (b.recAfter e)).skipped else 0 := by
    rw [role_eq, Standing.skipped]
    cases b.sending <;> simp
  have hdrive : List.replicate 6 (decide (standingOf (b.tecAfter e) (b.recAfter e) = .quiet)) ++ List.replicate 8 true =
      errorSignal (standingOf (b.tecAfter e) (b.recAfter e)).bids := by
    rw [bids_eq h, errorSignal]
    simp
  unfold Bus.restanding Bus.errored Bus.signalled Bus.counted
  dsimp only
  rw [hacked, hskip, hdrive, bids_eq h, ← role_eq]

/-- An error that the station can meet is counted, and its signal follows the counters. -/
theorem signalError_counted {x : Station} {e : BusError} (he : e ≠ .delimiter) (hw : x.bus.standing ≠ .withdrawn)
    (hrec : x.bus.recCtr ≤ 255) (hrx : x.bus.sending = none → e ≠ .echo ∧ e ≠ .acknowledgeMissing)
    (htx : x.bus.sending ≠ none → e ≠ .check) :
    ∃ t r, errorCounts x.bus.role x.bus.standing e = some (t, r) ∧ x.signalError x.bus.role e t r =
      { x with bus := x.bus.signalled x.bus.role e (standingOf (x.bus.tecAfter e) (x.bus.recAfter e)) }.setCounters
        (x.bus.tecAfter e) (x.bus.recAfter e) := by
  have htec : ∀ p : Prop, [Decidable p] → x.bus.tec + (if p then 8 else 0) = if p then x.bus.tec + 8 else x.bus.tec := by
    intro p _
    split <;> rfl
  have hcount : ∀ p : Prop, [Decidable p] →
      min 255 (x.bus.recCtr + (if p then 1 else 0)) = if p then min 255 (x.bus.recCtr + 1) else x.bus.recCtr := by
    intro p _
    split
    · rfl
    · exact Nat.min_eq_right hrec
  refine ⟨_, _, errorCounts_eq he hrx htx, ?_⟩
  rw [signalError_eq hw, Bus.standingAfter, htec, hcount]
  rfl

/-- A dominant bit in the station's own error delimiter (R65, R67). -/
theorem signalAgain_eq {x : Station} {w : OwnSignal} (hwait : x.bus.errorWait = some w) (hgap : x.bus.gap = .afterError) :
    x.signalAgain = if w.active = true then { x with bus := { x.bus with drive := errorSignal true } } else x := by
  unfold Station.signalAgain
  rw [hwait, hgap]
  cases h : w.active <;> simp [h]

/-- The Bus Interface as a dominant run leaves it, but for the standing (R67, R69). -/
def Bus.dominated (b : Bus) (role : Role) : Bus :=
  let t := if role = .transmitter then b.tec + 8 else b.tec
  let r := min 255 (if role = .transmitter then b.recCtr else b.recCtr + 1)
  { b with
    tec := t, recCtr := r
    skip := if role = .transmitter then (if standingOf t r = .quiet then 8 else 0) else b.skip }

theorem dominantRun_eq {x : Station} (hw : x.bus.standing ≠ .withdrawn) (role : Role) :
    x.dominantRun role = { x with bus := { x.bus with skip := (x.bus.dominated role).skip } }.setCounters
      (x.bus.dominated role).tec (x.bus.dominated role).recCtr := by
  cases role
  · exact if_neg hw
  · exact if_neg hw

/-- Settles O17: the error of a frame, the dominant bit in the delimiter, the dominant run. -/
theorem errorsAreCounted : Obligations.ErrorsAreCounted := by
  refine ⟨fun e x q hx hready hw hsound he hroom hrx htx => ?_,
    fun x q w hx hready hw hwait hgap => ⟨fun hactive => ?_, fun hpassive => ?_⟩, fun x q w hx hwait hw => ?_⟩
  · obtain ⟨hrec, -⟩ := hsound
    obtain ⟨t, r, hcounts, hsignal⟩ := signalError_counted he hw hrec hrx htx
    have hguard : (x.onBus && (e ≠ .roomTest || decide (16 ≤ x.bus.rxq.length))) = true := by
      by_cases h : e = .roomTest
      · simp [onBus_of_live hx hready hw, hroom h]
      · simp [onBus_of_live hx hready hw, h]
    refine counted_of_setCounters (c := x.bus.errored e)
      (b := x.bus.signalled x.bus.role e (standingOf (x.bus.tecAfter e) (x.bus.recAfter e))) q hx hw ?_ rfl
      errored_restanding
    rw [if_pos hguard, if_neg he, hcounts]
    exact hsignal
  · have hbus := onBus_of_live hx hready hw
    refine answer_change q hx ?_
    rw [hbus, signalAgain_eq hwait hgap, if_pos hactive]
    rfl
  · have hbus := onBus_of_live hx hready hw
    refine answer_change q hx ?_
    rw [hbus, signalAgain_eq hwait hgap, if_neg (Bool.eq_false_iff.mp hpassive)]
    rfl
  · refine counted_of_setCounters (c := x.bus.dominated w.role)
      (b := { x.bus with skip := (x.bus.dominated w.role).skip }) q hx hw ?_ rfl (fun _ => rfl)
    rw [hwait]
    exact dominantRun_eq hw w.role

/-! #### A frame received -/

/-- A success at a receiver leaves the station at its standing or takes it to a better one (R67, R68). -/
theorem countSuccess_receiver_view {s : Station} (hw : s.bus.standing ≠ .withdrawn)
    (hst : s.bus.standing = standingOf s.bus.tec s.bus.recCtr) :
    (s.countSuccess .receiver).view = (s.counted s.bus.tec (s.bus.recCtr - 1)).view := by
  have ht : s.bus.tec ≤ 255 := Nat.le_of_not_lt (fun h => hw (hst.trans ((standingOf_withdrawn_iff _ _).mpr h)))
  refine setCounters_view ht (fun hquiet => ?_)
  obtain ⟨hhigh, -⟩ := (standingOf_quiet_iff _ _).mp hquiet
  exact hst.trans ((standingOf_quiet_iff _ _).mpr ⟨hhigh.imp_right (fun h => h.trans (Nat.sub_le _ _)), ht⟩)

/-- The standing is that of the counters while the station is on the bus. -/
theorem standing_of_sound {b : Bus} (h : b.Sound) (hw : b.standing ≠ .withdrawn) :
    b.standing = standingOf b.tec b.recCtr := by
  obtain ⟨-, hst, -⟩ := h
  exact hst.resolve_left hw

/-- Settles O15: the frame joins the queue, then the success is counted. -/
theorem frameReceived : Obligations.FrameReceived := by
  intro bits x q f hx hready hw hsound hs hroom hf
  have hst := standing_of_sound hsound hw
  have hbus := onBus_of_live hx hready hw
  have hstep : exec (.frameCompleted bits) ⟨x, q⟩ = .next ⟨(x.receivedCompleted f).settle x, q⟩ :=
    (answer_change q hx (by simp [hbus, hroom, hs, hf])).1
  refine ⟨_, hstep, (settle_view _ x).trans
    ((countSuccess_receiver_view (s := x.appendFrame f .receiver) hw hst).trans ?_)⟩
  dsimp only
  rw [hs]
  rfl

/-! #### The rejoin -/

/-- The runs that one stretch brings, bit by bit (R72). -/
def countBit (c : Nat × Nat) (bit : Bool) : Nat × Nat :=
  if bit = false then (c.1, 0) else if c.2 = 11 then (c.1 + 1, 0) else (c.1, c.2 + 1)

theorem countBit_recessive {c : Nat × Nat} (h : c.2 < 12) : countBit c true = (c.1 + (c.2 + 1) / 12, (c.2 + 1) % 12) := by
  unfold countBit
  rw [if_neg nofun]
  split
  · rename_i hfull
    simp [hfull]
  · exact Prod.ext (by dsimp only; omega) (by dsimp only; omega)

theorem foldl_countBit_stretch (n : Nat) {c : Nat × Nat} (h : c.2 < 12) :
    (List.replicate n true).foldl countBit c = (c.1 + (c.2 + n) / 12, (c.2 + n) % 12) := by
  induction n with
  | zero => exact Prod.ext (by dsimp only [List.replicate, List.foldl]; omega) (by dsimp only [List.replicate, List.foldl]; omega)
  | succ n ih =>
    rw [List.replicate_succ', List.foldl_append, ih, List.foldl_cons, List.foldl_nil,
      countBit_recessive (by dsimp only; omega)]
    exact Prod.ext (by dsimp only; omega) (by dsimp only; omega)

/-- The recessive bits of the stretches, each but the last ended by a dominant one. -/
def stretchBits (stretches : List Nat) : List Bool := [false].intercalate (stretches.map (fun n => List.replicate n true))

theorem stretchBits_cons_cons (n m : Nat) (l : List Nat) :
    stretchBits (n :: m :: l) = List.replicate n true ++ [false] ++ stretchBits (m :: l) := by
  simp [stretchBits, List.intercalate]

theorem foldl_countBit (stretches : List Nat) {c : Nat × Nat} (h : c.2 < 12) :
    (stretchBits stretches).foldl countBit c =
      (c.1 + (recessiveRuns c.2 stretches).1, (recessiveRuns c.2 stretches).2) := by
  induction stretches generalizing c with
  | nil => rfl
  | cons n l ih =>
    cases l with
    | nil =>
      have hbits : stretchBits [n] = List.replicate n true := by simp [stretchBits, List.intercalate]
      rw [hbits, foldl_countBit_stretch n h]
      rfl
    | cons m l =>
      rw [stretchBits_cons_cons, List.foldl_append, List.foldl_append, foldl_countBit_stretch n h, List.foldl_cons,
        List.foldl_nil, ih (by exact Nat.succ_pos 11)]
      exact Prod.ext (Nat.add_assoc _ _ _) rfl

/-- A record without its close owed mark (R91). -/
def LineRec.closeCleared (r : LineRec) : LineRec := { r with bid := { r.bid with closeOwed := false } }

/-- An order entry without its owed mark (R168). -/
def OrderEntry.markCleared (e : OrderEntry) : OrderEntry := { e with abandonOwed := none }

/-- The station with its marks cleared and its counters at 0, as it rejoins, before the STS (R72, R91, R168, R169). -/
def Station.cleared (s : Station) : Station :=
  ({ s with
    bus := { s.bus with
      standing := .active, tec := 0, recCtr := 0, rejoinRuns := 0, rejoinPartial := 0, owed := [], ready := false }
    clu := { s.clu with records := s.clu.records.map LineRec.closeCleared }
    adu := { s.adu with owedReports := [] }
    stc := { s.stc with statusOwed := false } } : Station).cnuRejoin

theorem rejoined_eq (s : Station) : s.rejoined = s.cleared.statusTrigger := rfl

theorem kept_mapPick (r : LineRec) (f : PickBody → PickBody)
    (h : ∀ b, (f b).state = b.state ∧ (f b).order = b.order ∧ (f b).line = b.line) : (r.mapPick f).kept = r.kept := by
  rcases r with ⟨serial, article, qty, bid, body⟩
  cases body <;> simp [LineRec.mapPick, LineRec.kept, LineRec.round, LineRec.reported, h]

/-- An STS trigger on a station with no post and nothing owed posts an STS (R93). -/
theorem statusTrigger_posts {s : Station} (hj : s.bus.joined = true) (hw : s.bus.standing ≠ .withdrawn)
    (ho : s.stc.statusOwed = false) (hp : s.bus.posts = []) (howed : s.bus.owed = []) :
    ∃ p ∈ s.statusTrigger.bus.posts, p.kind = .sts ∧ p.onBus = false := by
  have hpost : s.post .sts (stsPayload s.statusFields) =
      (some s.bus.nextHandle, s.addPost .sts s.ownKey (stsPayload s.statusFields)) := by
    simp [Station.post, Bus.accepts, hj, hw, hp, howed, Kind.claimClass]
  have htrigger : s.statusTrigger = s.addPost .sts s.ownKey (stsPayload s.statusFields) := by
    simp [Station.statusTrigger, hj, hw, ho, hp, hpost]
  rw [htrigger]
  exact ⟨_, List.mem_append_right _ (List.mem_singleton_self _), rfl, rfl⟩

/-- The view of a station that rejoins: the marks cleared, nothing else of the records and the orders. -/
theorem rejoined_view (s : Station) : s.rejoined.view = { s.view with
    bus := { s.view.bus with
      standing := .active, tec := 0, recCtr := 0, rejoinRuns := 0, rejoinPartial := 0, ready := false }
    records := (s.clu.records.map LineRec.closeCleared).map LineRec.kept
    orders := s.cnu.orders.map OrderEntry.markCleared, owedReports := [] } := by
  have hready : ∀ r : LineRec, (r.mapPick (fun b => { b with readyOwed := false })).kept = r.kept :=
    fun r => kept_mapPick r _ (fun _ => ⟨rfl, rfl, rfl⟩)
  have hrecords : s.cleared.clu.records.map LineRec.kept = (s.clu.records.map LineRec.closeCleared).map LineRec.kept :=
    map_map_of_eq _ _ hready _
  rw [rejoined_eq, statusTrigger_view, ← hrecords]
  rfl

/-- Settles O19: the runs below 96, the rejoin, and the count bit by bit. -/
theorem rejoinCountsRuns : Obligations.RejoinCountsRuns := by
  refine ⟨fun stretches x q hx hw => ⟨fun hfew => ?_, fun hmany => ?_⟩, fun rest n m => ⟨rfl, ?_⟩,
    fun rest stretches hrest => ?_⟩
  · refine answer_change q hx ?_
    rw [if_pos hw]
    exact if_neg (Nat.not_le_of_lt hfew)
  · have hstep : exec (.rejoin stretches) ⟨x, q⟩ = .next ⟨x.rejoined.settle x, q⟩ := by
      refine (answer_change q hx ?_).1
      rw [if_pos hw]
      exact if_pos hmany
    have hview := (settle_view x.rejoined x).trans (rejoined_view x)
    have horders : (x.rejoined.settle x).cnu.orders = x.cnu.orders.map OrderEntry.markCleared :=
      congrArg View.orders hview
    have hrecords : (x.rejoined.settle x).clu.records.map LineRec.kept =
        (x.clu.records.map LineRec.closeCleared).map LineRec.kept := congrArg View.records hview
    refine ⟨_, hstep, hview, fun e he => ?_, fun r hr => ?_, ?_, ?_, fun hposts => ?_⟩
    · rw [horders] at he
      obtain ⟨e', -, rfl⟩ := List.mem_map.mp he
      rfl
    · obtain ⟨r', hr', hkept⟩ := List.mem_map.mp (hrecords ▸ List.mem_map_of_mem (f := LineRec.kept) hr)
      obtain ⟨r'', -, rfl⟩ := List.mem_map.mp hr'
      exact (congrArg (fun v => v.bid.closeOwed) hkept).symm
    · rw [map_core, hrecords, ← map_core]
      exact map_map_of_eq LineRec.core LineRec.closeCleared (fun _ => rfl) _
    · rw [horders]
      exact map_map_of_eq OrderEntry.kept OrderEntry.markCleared (fun _ => rfl) _
    · obtain ⟨hpower, hjoined⟩ := hx
      obtain ⟨p, hp, hkind⟩ := statusTrigger_posts (s := x.cleared) hjoined nofun rfl hposts rfl
      exact ⟨p, (settle_grown x.rejoined x).mem hp, hkind⟩
  · simp [recessiveRuns]
  · have hbits := foldl_countBit stretches (c := (0, rest)) hrest
    rw [Nat.zero_add] at hbits
    exact hbits.symm

end Sys2Proof.Machine
end

section
/-! ### The removal of records on a silent bus (R70, R91, R112) -/

namespace Sys2Proof.Machine

/-! #### A station with nothing on the bus -/

/-- The Bus Interface as R70 leaves it: WITHDRAWN, with nothing posted and nothing owed. -/
def Bus.Silent (b : Bus) : Prop := b.standing = .withdrawn ∧ b.posts = [] ∧ b.owed = []

theorem withdrawn_silent (b : Bus) : b.withdrawn.Silent := ⟨rfl, rfl, rfl⟩

theorem statusTrigger_of_silent {s : Station} (h : s.bus.Silent) : s.statusTrigger = s := by
  obtain ⟨hw, -, -⟩ := h
  simp [Station.statusTrigger, hw]

theorem nonHaltingFault_of_silent {s : Station} (h : s.bus.Silent) (f : StationFault) :
    s.nonHaltingFault f = { s with stc := { s.stc with lastFault := some f } } :=
  statusTrigger_of_silent (by exact h)

theorem withdraw_of_silent {s : Station} (h : s.bus.Silent) (n : Option Nat) : s.withdraw n = s := by
  obtain ⟨-, hposts, -⟩ := h
  cases n <;> simp [Station.withdraw, Bus.canWithdraw, Bus.post?, hposts]

theorem withdrawBid_of_silent {s : Station} (h : s.bus.Silent) (r : LineRec) : s.withdrawBid r = s := by
  unfold Station.withdrawBid
  split
  · split
    · exact withdraw_of_silent h _
    · rw [withdraw_of_silent h, withdraw_of_silent h]
  · rfl

theorem keepNote_of_silent {s : Station} (h : s.bus.Silent) (r : LineRec) : s.keepNote r = s := by
  obtain ⟨-, hposts, -⟩ := h
  unfold Station.keepNote
  split
  · rfl
  · simp [Bus.post?, hposts]

/-! #### What a removal leaves alone -/

/-- An order entry without its own lines, which alone a removal changes (R111). -/
def OrderEntry.shape (e : OrderEntry) : OrderEntry := { e with own := [] }

/-- A PUTBACK task. -/
def Job.isPutback : Job → Bool
  | .putback _ _ => true
  | .pickStop _ | .load _ _ | .scan _ _ => false

/-- `t` is what the removal of records can make of `s` where the bus is silent. -/
structure Removal (s t : Station) : Prop where
  bus : t.bus = s.bus
  groups : t.cnu.groups = s.cnu.groups
  orders : t.cnu.orders.map OrderEntry.shape = s.cnu.orders.map OrderEntry.shape
  readies : s.cnu.owedReadies = [] → t.cnu.owedReadies = []
  rest : t.view.rest = s.view.rest
  putbacks : ∀ o ∈ s.mpl.tasks, o.job.isPutback = true → ∃ o' ∈ t.mpl.tasks, o'.job = o.job

@[refl] theorem Removal.refl (s : Station) : Removal s s := ⟨rfl, rfl, rfl, id, rfl, fun o ho _ => ⟨o, ho, rfl⟩⟩

section
variable {s t u : Station}

theorem Removal.trans (h : Removal s t) (h' : Removal t u) : Removal s u where
  bus := h'.bus.trans h.bus
  groups := h'.groups.trans h.groups
  orders := h'.orders.trans h.orders
  readies := h'.readies ∘ h.readies
  rest := h'.rest.trans h.rest
  putbacks o ho hput := by
    obtain ⟨o', ho', hjob⟩ := h.putbacks o ho hput
    obtain ⟨o'', ho'', hjob'⟩ := h'.putbacks o' ho' (hjob ▸ hput)
    exact ⟨o'', ho'', hjob'.trans hjob⟩

theorem Removal.silent (h : Removal s t) (hs : s.bus.Silent) : t.bus.Silent := h.bus ▸ hs

theorem Removal.onLane (h : Removal s t) (n : Nat) : t.onLane n = s.onLane n := by
  unfold Station.onLane
  rw [h.groups]

theorem removal_updRecord (s : Station) (n : Nat) (f : LineRec → LineRec) : Removal s (s.updRecord n f) :=
  ⟨rfl, rfl, rfl, id, rfl, fun o ho _ => ⟨o, ho, rfl⟩⟩

/-! #### What a record gives back as it goes -/

/-- A removal's steps that leave the line table alone. -/
structure GivesBack (s t : Station) : Prop extends Removal s t where
  records : t.clu.records = s.clu.records

@[refl] theorem GivesBack.refl (s : Station) : GivesBack s s := ⟨.refl s, rfl⟩

theorem GivesBack.trans (h : GivesBack s t) (h' : GivesBack t u) : GivesBack s u :=
  ⟨h.toRemoval.trans h'.toRemoval, h'.records.trans h.records⟩

theorem GivesBack.of_onlySmap (h : OnlySmap s t) : GivesBack s t := by
  unfold OnlySmap at h
  rw [h]
  exact ⟨⟨rfl, rfl, rfl, id, rfl, fun o ho _ => ⟨o, ho, rfl⟩⟩, rfl⟩

/-- The tasks of a record are no PUTBACKs (R115). -/
theorem removeJobs_givesBack (s : Station) (n : Nat) : GivesBack s (s.removeJobs (Job.ofRecord n)) := by
  refine ⟨⟨rfl, rfl, rfl, id, rfl, fun o ho hput => ⟨o, ?_, rfl⟩⟩, rfl⟩
  have hother : Job.ofRecord n o.job = false := by
    cases hj : o.job <;> simp_all [Job.isPutback, Job.ofRecord]
  exact List.mem_filter.mpr ⟨List.mem_map.mpr ⟨o, ho, by simp [hother]⟩, by simp [hother]⟩

theorem dropReady_givesBack (s : Station) (p : Nat → Bool) :
    GivesBack s (s.setOwedReadies (s.cnu.owedReadies.filter p)) :=
  ⟨⟨rfl, rfl, rfl, fun h => by simp [Station.setOwedReadies, h], rfl, fun o ho _ => ⟨o, ho, rfl⟩⟩, rfl⟩

theorem dropOwnLine_givesBack (s : Station) (o l : Nat) : GivesBack s (s.dropOwnLine o l) :=
  ⟨⟨rfl, rfl, map_map_of_eq _ _ (fun e => by split <;> rfl) _, id, rfl, fun o ho _ => ⟨o, ho, rfl⟩⟩, rfl⟩

theorem putawayEnded_givesBack (hs : s.bus.Silent) (n : Nat) : GivesBack s (s.putawayEnded n) := by
  unfold Station.putawayEnded
  split
  · rw [nonHaltingFault_of_silent (by exact hs)]
    exact ⟨⟨rfl, rfl, rfl, id, rfl, fun o ho _ => ⟨o, ho, rfl⟩⟩, rfl⟩
  · rfl

theorem unexpect_onlySmap (s : Station) (a : BayAddr) (q : Nat) : OnlySmap s (s.unexpect a q) := by
  unfold Station.unexpect
  split
  · exact changeBay_onlySmap _ _ _
  · rfl

/-- What follows the withdrawal of a removed record's bid: its stock, its tasks, its line, its owed ready, the article
test of R94. -/
def Station.giveBack (s : Station) (n : Nat) (r : LineRec) : Station :=
  let s : Station :=
    match r.body with
    | .pick b =>
      let s := s.unreserve (s.releaseList n b)
      let s := s.removeJobs (Job.ofRecord n)
      let s := s.setOwedReadies (s.cnu.owedReadies.filter (fun x => x != n))
      if b.state = .won then s.dropOwnLine b.order b.line else s
    | .putaway b =>
      let s := s.unexpect b.target (r.qty - b.stored - s.storeHeld n)
      let s := s.removeJobs (Job.ofRecord n)
      s.putawayEnded n
  s.testArticle r.article

theorem dropRecord_eq {s : Station} {n : Nat} {r : LineRec} (hr : s.record? n = some r) :
    s.dropRecord n = (((s.withoutRecord n).withdrawBid r).keepNote r).giveBack n r := by
  unfold Station.dropRecord
  rw [hr]
  rfl

theorem giveBack_givesBack (hs : s.bus.Silent) (n : Nat) (r : LineRec) : GivesBack s (s.giveBack n r) := by
  unfold Station.giveBack
  refine GivesBack.trans ?_ (.of_onlySmap (testArticle_onlySmap _ _))
  split
  · rename_i b _
    have hpick := ((GivesBack.of_onlySmap (unreserve_onlySmap s (s.releaseList n b))).trans
      (removeJobs_givesBack _ n)).trans (dropReady_givesBack _ (fun x => x != n))
    dsimp only
    split
    · exact hpick.trans (dropOwnLine_givesBack _ _ _)
    · exact hpick
  · rename_i b _
    have hput := (GivesBack.of_onlySmap (unexpect_onlySmap s b.target (r.qty - b.stored - s.storeHeld n))).trans
      (removeJobs_givesBack _ n)
    exact hput.trans (putawayEnded_givesBack (hput.silent hs) n)

/-- A record goes, and on a silent bus nothing follows: the records that stay are untouched. -/
theorem dropRecord_of_silent (hs : s.bus.Silent) (n : Nat) :
    Removal s (s.dropRecord n) ∧ (s.dropRecord n).clu.records = s.clu.records.filter (fun x => x.serial != n) := by
  cases hr : s.record? n with
  | none =>
    have hsame : s.dropRecord n = s := by
      unfold Station.dropRecord
      rw [hr]
    have hall : s.clu.records.filter (fun x => x.serial != n) = s.clu.records :=
      List.filter_eq_self.mpr (fun r hmem => by simpa using List.find?_eq_none.mp hr r hmem)
    rw [hsame, hall]
    exact ⟨.refl s, rfl⟩
  | some r =>
    have hw : (s.withoutRecord n).bus.Silent := hs
    have hfirst : Removal s (s.withoutRecord n) := ⟨rfl, rfl, rfl, id, rfl, fun o ho _ => ⟨o, ho, rfl⟩⟩
    rw [dropRecord_eq hr, withdrawBid_of_silent hw, keepNote_of_silent hw]
    have hgives := giveBack_givesBack hw n r
    exact ⟨hfirst.trans hgives.toRemoval, hgives.records⟩

/-! #### A record turned RETURNING -/

/-- What of a record its removal or its turn looks at and changes: the serial, and the state with the ready owed flag of a
pick, or the state of a putaway. -/
def LineRec.gist (r : LineRec) : Nat × (PickState × Bool ⊕ PutState) :=
  (r.serial, match r.body with
    | .pick b => .inl (b.state, b.readyOwed)
    | .putaway b => .inr b.state)

/-- A pick turned RETURNING (R114, R156). -/
def turned (g : Nat × (PickState × Bool ⊕ PutState)) : Nat × (PickState × Bool ⊕ PutState) :=
  (g.1, g.2.map (fun _ => (.returning, false)) id)

theorem turned_turned (g : Nat × (PickState × Bool ⊕ PutState)) : turned (turned g) = turned g := by
  rcases g with ⟨n, st | st⟩ <;> rfl

/-- The gists of the line table. -/
def Station.gists (s : Station) : List (Nat × (PickState × Bool ⊕ PutState)) := s.clu.records.map LineRec.gist

theorem gists_of_records (h : t.clu.records = s.clu.records) : t.gists = s.gists := congrArg (List.map LineRec.gist) h

/-- A change of a pick record that keeps its state and its ready owed flag. -/
theorem updPick_gists (s : Station) (n : Nat) {f : PickBody → PickBody}
    (h : ∀ b, (f b).state = b.state ∧ (f b).readyOwed = b.readyOwed) : (s.updPick n f).gists = s.gists := by
  refine map_map_of_eq _ _ (fun r => ?_) _
  split
  · rcases r with ⟨serial, article, qty, bid, body⟩
    cases body <;> simp [LineRec.mapPick, LineRec.gist, h]
  · rfl

theorem updPick_gists_of_turn (s : Station) (n : Nat) {f : PickBody → PickBody}
    (h : ∀ b, (f b).state = .returning ∧ (f b).readyOwed = false) :
    (s.updPick n f).gists = s.gists.map (fun g => if g.1 = n then turned g else g) := by
  unfold Station.gists Station.updPick Station.updRecord
  dsimp only
  rw [List.map_map, List.map_map]
  refine List.map_congr_left (fun r _ => ?_)
  rcases r with ⟨serial, article, qty, bid, body⟩
  by_cases hn : serial = n
  · cases body <;> simp [LineRec.mapPick, LineRec.gist, turned, h, hn]
  · simp [LineRec.gist, hn]

theorem releasePick_of_silent (s : Station) (n : Nat) :
    Removal s (s.releasePick n) ∧ (s.releasePick n).gists = s.gists := by
  unfold Station.releasePick
  split
  · exact ⟨.refl s, rfl⟩
  · rename_i b _
    have hstock := GivesBack.of_onlySmap (unreserve_onlySmap s (s.releaseList n b))
    refine ⟨(hstock.toRemoval.trans (removal_updRecord _ n _)).trans (removeJobs_givesBack _ n).toRemoval, ?_⟩
    refine (gists_of_records (removeJobs_givesBack _ n).records).trans
      ((updPick_gists _ n ?_).trans (gists_of_records hstock.records))
    exact fun _ => ⟨rfl, rfl⟩

/-- What becomes of a record as the serials of a list turn RETURNING: it stays with a tyre on the lane alone. -/
def fate (lane : Nat → Bool) (l : List Nat) (g : Nat × (PickState × Bool ⊕ PutState)) :
    Option (Nat × (PickState × Bool ⊕ PutState)) :=
  if g.1 ∈ l then (if lane g.1 = true then some (turned g) else none) else some g

theorem fate_bind (lane : Nat → Bool) (n : Nat) (l : List Nat) (g : Nat × (PickState × Bool ⊕ PutState)) :
    (fate lane [n] g).bind (fate lane l) = fate lane (n :: l) g := by
  have hsame : (turned g).1 = g.1 := rfl
  by_cases hn : g.1 = n <;> by_cases hl : g.1 ∈ l <;> by_cases hlane : lane g.1 = true
  all_goals simp_all [fate, turned_turned]

/-- The pick record as it turns (R114, R156). -/
def PickBody.turn (b : PickBody) : PickBody := { b with state := .returning, readyOwed := false, readySent := false }

/-- The station with the record turned, before the test of the lane. -/
def Station.withTurned (s : Station) (n : Nat) : Station :=
  let t := (s.releasePick n).updPick n PickBody.turn
  t.setOwedReadies (t.cnu.owedReadies.filter (fun x => x != n))

theorem turnReturning_eq (s : Station) (n : Nat) :
    s.turnReturning n = if (s.withTurned n).onLane n = true then s.withTurned n else (s.withTurned n).dropRecord n := rfl

theorem withTurned_of_silent (s : Station) (n : Nat) :
    Removal s (s.withTurned n) ∧ (s.withTurned n).gists = s.gists.map (fun g => if g.1 = n then turned g else g) := by
  obtain ⟨hrelease, hgists⟩ := releasePick_of_silent s n
  refine ⟨(hrelease.trans (removal_updRecord _ n _)).trans (dropReady_givesBack _ _).toRemoval, ?_⟩
  rw [← hgists]
  exact updPick_gists_of_turn (s.releasePick n) n (f := PickBody.turn) (fun _ => ⟨rfl, rfl⟩)

theorem dropRecord_gists (hs : s.bus.Silent) (n : Nat) : (s.dropRecord n).gists = s.gists.filter (fun g => g.1 ≠ n) := by
  unfold Station.gists
  rw [(dropRecord_of_silent hs n).2, List.filter_map]
  refine congrArg (List.map LineRec.gist) (List.filter_congr (fun r _ => ?_))
  by_cases h : r.serial = n <;> simp [LineRec.gist, h]

theorem turnReturning_of_silent (hs : s.bus.Silent) (n : Nat) :
    Removal s (s.turnReturning n) ∧ (s.turnReturning n).gists = s.gists.filterMap (fate s.onLane [n]) := by
  obtain ⟨hturned, hgists⟩ := withTurned_of_silent s n
  rw [turnReturning_eq, hturned.onLane]
  split
  · rename_i hlane
    refine ⟨hturned, ?_⟩
    rw [hgists, ← List.filterMap_eq_map]
    refine List.filterMap_congr (fun g _ => ?_)
    by_cases hn : g.1 = n <;> simp [fate, hn, hlane]
  · rename_i hlane
    have hs' := hturned.silent hs
    refine ⟨hturned.trans (dropRecord_of_silent hs' n).1, ?_⟩
    rw [dropRecord_gists hs', hgists, ← List.filterMap_eq_filter, ← List.filterMap_eq_map, List.filterMap_filterMap]
    refine List.filterMap_congr (fun g _ => ?_)
    have hsame : (turned g).1 = g.1 := rfl
    by_cases hn : g.1 = n <;> simp_all [fate, Option.guard]

/-! #### Several records at once -/

theorem foldl_dropRecord_of_silent (l : List Nat) (hs : s.bus.Silent) :
    Removal s (l.foldl (fun t n => t.dropRecord n) s)
      ∧ (l.foldl (fun t n => t.dropRecord n) s).clu.records = s.clu.records.filter (fun x => decide (x.serial ∉ l)) := by
  induction l generalizing s with
  | nil => exact ⟨.refl s, by simp⟩
  | cons n l ih =>
    obtain ⟨hone, hrecords⟩ := dropRecord_of_silent hs n
    obtain ⟨hrest, hall⟩ := ih (hone.silent hs)
    refine ⟨hone.trans hrest, ?_⟩
    rw [List.foldl_cons, hall, hrecords, List.filter_filter]
    refine List.filter_congr (fun r _ => ?_)
    by_cases hn : r.serial = n <;> simp [hn]

theorem foldl_turnReturning_of_silent (l : List Nat) (hs : s.bus.Silent) :
    Removal s (l.foldl (fun t n => t.turnReturning n) s)
      ∧ (l.foldl (fun t n => t.turnReturning n) s).gists = s.gists.filterMap (fate s.onLane l) := by
  induction l generalizing s with
  | nil =>
    refine ⟨.refl s, ?_⟩
    have hall : fate s.onLane [] = some := funext (fun g => by simp [fate])
    rw [List.foldl_nil, hall, List.filterMap_some]
  | cons n l ih =>
    obtain ⟨hone, hgists⟩ := turnReturning_of_silent hs n
    obtain ⟨hrest, hall⟩ := ih (hone.silent hs)
    have hlane : (s.turnReturning n).onLane = s.onLane := funext hone.onLane
    refine ⟨hone.trans hrest, ?_⟩
    rw [List.foldl_cons, hall, hgists, hlane, List.filterMap_filterMap]
    exact List.filterMap_congr (fun g _ => fate_bind s.onLane n l g)

end

end Sys2Proof.Machine
end

section
/-! ### The withdrawal from the store bus (R70, R91, R112, R167, R169) -/

namespace Sys2Proof.Machine

/-! #### The records at a withdrawal -/

/-- A PICKING or STAGED record, which turns RETURNING at a withdrawal (R112). -/
def LineRec.turns (r : LineRec) : Bool :=
  match r.body with
  | .pick b => b.state = .picking || b.state = .staged
  | .putaway _ => false

/-- A record that goes at once at a withdrawal (R112). -/
def LineRec.goes (r : LineRec) : Bool := r.tentative || r.won

section
variable {s : Station}

/-- The records that a withdrawal leaves at first, and those of them that it turns. -/
def Clu.staying (c : Clu) : List LineRec :=
  c.records.filter (fun r => decide (r.serial ∉ (c.records.filter LineRec.goes).map (fun k => k.serial)))

def Clu.turning (c : Clu) : List Nat := (c.staying.filter LineRec.turns).map (fun r => r.serial)

theorem claimsOnWithdrawal_eq (s : Station) : s.claimsOnWithdrawal =
    { (s.dropWhere LineRec.goes).returnWhere LineRec.turns with
      clu := { ((s.dropWhere LineRec.goes).returnWhere LineRec.turns).clu with notes := [] } } := rfl

theorem claimsOnWithdrawal_of_silent (hs : s.bus.Silent) :
    Removal s s.claimsOnWithdrawal
      ∧ s.claimsOnWithdrawal.gists = (s.clu.staying.map LineRec.gist).filterMap (fate s.onLane s.clu.turning) := by
  obtain ⟨hdrop, hrecords⟩ := foldl_dropRecord_of_silent ((s.clu.records.filter LineRec.goes).map (fun r => r.serial)) hs
  have hstaying : (s.dropWhere LineRec.goes).clu.records = s.clu.staying := hrecords
  obtain ⟨hturn, hgists⟩ := foldl_turnReturning_of_silent
    (((s.dropWhere LineRec.goes).clu.records.filter LineRec.turns).map (fun r => r.serial)) (hdrop.silent hs)
  have hnotes : Removal ((s.dropWhere LineRec.goes).returnWhere LineRec.turns) s.claimsOnWithdrawal := by
    rw [claimsOnWithdrawal_eq]
    exact ⟨rfl, rfl, rfl, id, rfl, fun o ho _ => ⟨o, ho, rfl⟩⟩
  refine ⟨(hdrop.trans hturn).trans hnotes, hgists.trans ?_⟩
  rw [funext hdrop.onLane]
  unfold Station.gists Clu.turning
  rw [show List.foldl _ _ _ = s.dropWhere LineRec.goes from rfl, hstaying]

end

/-! #### The putback that starts -/

/-- What of a group a putback leaves alone: what every event's settling keeps, and the handles of its readies. -/
def Group.lane (g : Group) : (Nat × Bool × List Tyre × ReleaseStage) × List Nat := (g.kept, g.readyHandles)

/-- `t` is what the putback of a group, with the decision on it, can make of `s` where the bus is silent. -/
structure PutsBack (s t : Station) : Prop where
  bus : t.bus = s.bus
  clu : t.clu = s.clu
  orders : t.cnu.orders = s.cnu.orders
  readies : t.cnu.owedReadies = s.cnu.owedReadies
  lane : t.cnu.groups.map Group.lane = s.cnu.groups.map Group.lane

@[refl] theorem PutsBack.refl (s : Station) : PutsBack s s := ⟨rfl, rfl, rfl, rfl, rfl⟩

section
variable {s t u : Station}

theorem PutsBack.trans (h : PutsBack s t) (h' : PutsBack t u) : PutsBack s u :=
  ⟨h'.bus.trans h.bus, h'.clu.trans h.clu, h'.orders.trans h.orders, h'.readies.trans h.readies, h'.lane.trans h.lane⟩

theorem PutsBack.silent (h : PutsBack s t) (hs : s.bus.Silent) : t.bus.Silent := h.bus ▸ hs

theorem PutsBack.of_onlySmap (h : OnlySmap s t) : PutsBack s t := by
  unfold OnlySmap at h
  rw [h]
  exact ⟨rfl, rfl, rfl, rfl, rfl⟩

theorem updGroup_putsBack (s : Station) (o : Nat) {f : Group → Group} (h : ∀ g, (f g).lane = g.lane) :
    PutsBack s (s.updGroup o f) := by
  refine ⟨rfl, rfl, rfl, rfl, map_map_of_eq _ _ (fun g => ?_) _⟩
  split
  · exact h g
  · rfl

theorem foldl_putsBack {α : Type} {f : Station → α → Station}
    (h : ∀ (s : Station) (x : α), s.bus.Silent → PutsBack s (f s x)) (l : List α) (hs : s.bus.Silent) :
    PutsBack s (l.foldl f s) := by
  induction l generalizing s with
  | nil => exact .refl s
  | cons x l ih => exact (h s x hs).trans (ih ((h s x hs).silent hs))

theorem createArticle_onlySmap (s : Station) (a : Article) : OnlySmap s (s.createArticle a) := by
  unfold Station.createArticle
  split <;> rfl

theorem expect_onlySmap (s : Station) (a : BayAddr) (week qty : Nat) (e : Article) :
    OnlySmap s (s.expect a week qty e).2 := by
  unfold Station.expect
  dsimp only
  split
  · rfl
  · split
    · rfl
    · split
      · rfl
      · split
        · refine OnlySmap.trans ?_ (changeBay_onlySmap _ _ _)
          split
          · exact createArticle_onlySmap s e
          · rfl
        · rfl

theorem tryDest_onlySmap (s : Station) (t : Tyre) : OnlySmap s (s.tryDest t).2 := by
  unfold Station.tryDest
  split
  · rfl
  · rename_i d _
    have honly := expect_onlySmap s d t.week 1 (s.tyreArticle t)
    split
    · rename_i h
      rwa [h] at honly
    · rename_i h
      rwa [h] at honly

theorem expectDest_onlySmap (s : Station) (t : Tyre) : OnlySmap s (s.expectDest t).2 := by
  have honly := tryDest_onlySmap s t
  unfold Station.expectDest
  split
  · rename_i h
    rwa [h] at honly
  · rename_i h
    rw [h] at honly
    exact honly.trans (tryDest_onlySmap _ t)

theorem markStuck_putsBack (hs : s.bus.Silent) (o : Nat) (d : Option BayAddr) : PutsBack s (s.markStuck o d) := by
  unfold Station.markStuck
  split
  · exact updGroup_putsBack s o (fun _ => rfl)
  · split
    · rfl
    · rw [nonHaltingFault_of_silent (by exact hs)]
      refine (updGroup_putsBack s o (f := fun g => { g with stuck := true }) (fun _ => rfl)).trans ?_
      exact ⟨rfl, rfl, rfl, rfl, rfl⟩

theorem askPutback_putsBack (hs : s.bus.Silent) (o : Nat) (d : Option BayAddr) : PutsBack s (s.askPutback o d) := by
  unfold Station.askPutback
  refine (markStuck_putsBack hs o d).trans ?_
  dsimp only
  split
  · refine PutsBack.trans (t := (s.markStuck o d).addTask (.putback o d)) ⟨rfl, rfl, rfl, rfl, rfl⟩ ?_
    exact updGroup_putsBack _ o (fun _ => rfl)
  · exact updGroup_putsBack _ o (fun _ => rfl)

theorem startPutback_putsBack (hs : s.bus.Silent) : PutsBack s s.startPutback := by
  unfold Station.startPutback
  split
  · rfl
  · rename_i g _
    split
    · rfl
    · rename_i t _ _
      split
      · have honly := PutsBack.of_onlySmap (expectDest_onlySmap s t)
        exact honly.trans (askPutback_putsBack (honly.silent hs) _ _)
      · rfl

theorem startTask_putsBack (s : Station) (t : Task) : PutsBack s (s.startTask t) := by
  unfold Station.startTask
  dsimp only
  split
  · unfold Station.atTarget
    split <;> exact ⟨rfl, rfl, rfl, rfl, rfl⟩
  · split <;> split <;> exact ⟨rfl, rfl, rfl, rfl, rfl⟩

theorem blockedPutback_putsBack (hs : s.bus.Silent) (o : Nat) (a : BayAddr) : PutsBack s (s.blockedPutback o a) := by
  unfold Station.blockedPutback
  split
  · rfl
  · rename_i t _
    have honly := PutsBack.of_onlySmap ((unexpect_onlySmap s a 1).trans (expectDest_onlySmap _ t))
    have hmark := honly.trans (markStuck_putsBack (honly.silent hs) o ((s.unexpect a 1).expectDest t).1)
    exact hmark.trans ⟨rfl, rfl, rfl, rfl, rfl⟩

theorem decision_putsBack (hs : s.bus.Silent) : PutsBack s s.decision := by
  unfold Station.decision
  split
  · have hchoice : PutsBack s (match s.chosenTask with
        | none => s
        | some t => (s.raisePassed t.id).startTask t) := by
      split
      · rfl
      · refine PutsBack.trans ?_ (startTask_putsBack _ _)
        exact ⟨rfl, rfl, rfl, rfl, rfl⟩
    exact hchoice.trans (foldl_putsBack (fun t x ht => blockedPutback_putsBack ht x.1 x.2) _ (hchoice.silent hs))
  · rfl

theorem beginPutback_putsBack (hs : s.bus.Silent) : PutsBack s s.beginPutback := by
  have hstart := startPutback_putsBack hs
  unfold Station.beginPutback Station.decideAfter
  split
  · exact hstart.trans (decision_putsBack (hstart.silent hs))
  · exact hstart

end

/-! #### The destination of the putback -/

section
variable (s : Station)

/-- The answer of EXPECT (R12). -/
def Station.expectAnswer (s : Station) (addr : BayAddr) (week qty : Nat) (a : Article) : SmapAnswer :=
  match s.bay? addr with
  | none => .noSuchBay
  | some b =>
    if !b.expectable { article := a.code, week := week } then .wrongBinding
    else if (s.smap.article? a.code).isNone && !s.smap.articleRoom then .tableFull
    else if b.count + b.incoming + qty ≤ capB s.cfg.h ((s.smap.article? a.code).getD a).pitch then .accepted
    else .noRoom

theorem expect_fst (addr : BayAddr) (week qty : Nat) (a : Article) :
    (s.expect addr week qty a).1 = s.expectAnswer addr week qty a := by
  unfold Station.expect Station.expectAnswer
  cases s.bay? addr with
  | none => rfl
  | some b =>
    dsimp only
    split_ifs <;> rfl

/-- A refused EXPECT changes nothing (R12). -/
theorem expect_of_refused {addr : BayAddr} {week qty : Nat} {a : Article}
    (h : s.expectAnswer addr week qty a ≠ .accepted) : (s.expect addr week qty a).2 = s := by
  unfold Station.expectAnswer at h
  unfold Station.expect
  cases hb : s.bay? addr with
  | none => rfl
  | some b =>
    rw [hb] at h
    dsimp only at h ⊢
    split_ifs at h ⊢
    · rfl
    · rfl
    · exact absurd rfl h
    · exact absurd rfl h
    · rfl

/-- The destination of one choice, where its EXPECT is accepted (R164). -/
def Station.dest (s : Station) (t : Tyre) : Option BayAddr :=
  (s.destChoice t).filter (fun d => s.expectAnswer d t.week 1 (s.tyreArticle t) = .accepted)

theorem tryDest_fst (t : Tyre) : (s.tryDest t).1 = s.dest t := by
  unfold Station.tryDest Station.dest
  cases s.destChoice t with
  | none => rfl
  | some d =>
    dsimp only
    rw [Option.filter_some, ← expect_fst]
    split
    · rename_i h
      simp [h]
    · rename_i hrefused hanswer
      rw [hanswer, if_neg]
      exact fun h => hrefused (of_decide_eq_true h)

/-- Without a destination nothing has changed (R164). -/
theorem tryDest_of_none {t : Tyre} (h : s.dest t = none) : (s.tryDest t).2 = s := by
  unfold Station.dest at h
  unfold Station.tryDest
  cases hd : s.destChoice t with
  | none => rfl
  | some d =>
    have hrefused : s.expectAnswer d t.week 1 (s.tyreArticle t) ≠ .accepted := by
      intro haccepted
      rw [hd, Option.filter_some, if_pos (by simp [haccepted])] at h
      cases h
    have hsame := expect_of_refused s hrefused
    dsimp only
    split
    · rename_i u hu
      rw [hu] at hsame
      exact hsame
    · rename_i u hu
      rw [hu] at hsame
      exact hsame

/-- The second choice of R164 is the first again, the refused one having changed nothing. -/
theorem expectDest_fst (t : Tyre) : (s.expectDest t).1 = s.dest t := by
  have hfst := tryDest_fst s t
  unfold Station.expectDest
  split
  · rename_i h
    rwa [h] at hfst
  · rename_i u h
    rw [h] at hfst
    have hsame := tryDest_of_none s hfst.symm
    rw [h] at hsame
    rw [show u = s from hsame, tryDest_fst]

/-! #### Locks -/

/-- Where the locks stay, so does what a carrier may do (R24). -/
theorem mayStore_of_locks {s t : Station}
    (h : t.smap.carriers.map (fun k => k.locks) = s.smap.carriers.map (fun k => k.locks)) (c : Nat) :
    t.mayStore c = s.mayStore c := by
  have hmap : ∀ u : Station, u.mayStore c =
      (((u.smap.carriers.map (fun k => k.locks))[c]?).map (fun l => l.mayStore)).getD false := by
    intro u
    rw [List.getElem?_map, Option.map_map]
    rfl
  rw [hmap, hmap, h]

theorem changeBay_locks (a : BayAddr) (f : Bay → Bay) :
    (s.changeBay a f).smap.carriers.map (fun k => k.locks) = s.smap.carriers.map (fun k => k.locks) := by
  have hrecompute : ∀ t : Station, (t.recompute a.carrier).smap.carriers.map (fun k => k.locks) =
      t.smap.carriers.map (fun k => k.locks) :=
    fun t => map_modify_of_eq (fun k : Carrier => k.locks) (fun k => { k with mass := t.smap.carrierMass k })
      (fun _ => rfl) _ _
  rw [changeBay_carriers, hrecompute]
  refine map_modify_of_eq (fun k : Carrier => k.locks) _ (fun k => ?_) _ _
  dsimp only
  split <;> rfl

theorem expect_locks (a : BayAddr) (week qty : Nat) (e : Article) :
    (s.expect a week qty e).2.smap.carriers.map (fun k => k.locks) = s.smap.carriers.map (fun k => k.locks) := by
  unfold Station.expect
  dsimp only
  split
  · rfl
  · split
    · rfl
    · split
      · rfl
      · split
        · rw [changeBay_locks]
          split
          · rw [createArticle_carriers]
          · rfl
        · rfl

theorem tryDest_locks (t : Tyre) :
    (s.tryDest t).2.smap.carriers.map (fun k => k.locks) = s.smap.carriers.map (fun k => k.locks) := by
  unfold Station.tryDest
  split
  · rfl
  · rename_i d _
    have hlocks := expect_locks s d t.week 1 (s.tyreArticle t)
    split
    · rename_i h
      rwa [h] at hlocks
    · rename_i h
      rwa [h] at hlocks

theorem expectDest_mayStore (t : Tyre) (c : Nat) : (s.expectDest t).2.mayStore c = s.mayStore c := by
  refine mayStore_of_locks ?_ c
  have hlocks := tryDest_locks s t
  unfold Station.expectDest
  split
  · rename_i h
    rwa [h] at hlocks
  · rename_i h
    rw [h] at hlocks
    rw [tryDest_locks, hlocks]

/-- A destination may store (R49, R164). -/
theorem mayStore_of_dest {t : Tyre} {d : BayAddr} (h : s.dest t = some d) : s.mayStore d.carrier = true := by
  have hchoice : s.destChoice t = some d := (Option.filter_eq_some_iff.mp h).1
  unfold Station.destChoice at hchoice
  split at hchoice
  · rename_i horigin
    cases hchoice
    unfold Station.originTakes at horigin
    exact (Bool.and_eq_true_iff.mp horigin).1
  · obtain ⟨x, hx, rfl⟩ := Option.map_eq_some_iff.mp hchoice
    obtain ⟨before, after, hsplit, -⟩ := leastCost_split hx
    have hmem : x ∈ s.allBays.filterMap (s.putCand (s.tyreArticle t) t.week 1) := by simp [hsplit]
    obtain ⟨⟨a, b⟩, -, hcand⟩ := List.mem_filterMap.mp hmem
    by_cases hfits : s.PutawayFits (s.tyreArticle t) t.week 1 a b
    · rw [putCand_of_fits hfits] at hcand
      cases hcand
      exact hfits.1
    · rw [putCand_of_not_fits hfits] at hcand
      cases hcand

end

/-! #### The head group -/

/-- The head group of the lane with its putback asked for (R163): in the task list where there is room, else wanted. -/
def Station.headAsked (s : Station) (order : Nat) (dest : Option BayAddr) (room : Bool) : Prop :=
  ∃ h hs, s.cnu.groups = h :: hs ∧ h.order = order ∧ h.stuck = dest.isNone ∧ h.putbackMark = room
    ∧ h.putbackWanted = !room

section
variable {s : Station}

theorem updGroup_head {g : Group} {gs : List Group} (hg : s.cnu.groups = g :: gs) (f : Group → Group) :
    ∃ hs, (s.updGroup g.order f).cnu.groups = f g :: hs := by
  refine ⟨gs.map (fun h => if h.order = g.order then f h else h), ?_⟩
  unfold Station.updGroup
  dsimp only
  rw [hg, List.map_cons, if_pos rfl]

theorem markStuck_mpl (hs : s.bus.Silent) (o : Nat) (dest : Option BayAddr) :
    (s.markStuck o dest).mpl = s.mpl ∧ (s.markStuck o dest).smap = s.smap := by
  unfold Station.markStuck
  split
  · exact ⟨rfl, rfl⟩
  · split
    · exact ⟨rfl, rfl⟩
    · rw [nonHaltingFault_of_silent (by exact hs)]
      exact ⟨rfl, rfl⟩

/-- The stuck mark follows the destination, and the marks of the putback stay (R164). -/
theorem markStuck_head (hs : s.bus.Silent) {g : Group} {gs : List Group} (hg : s.cnu.groups = g :: gs)
    (dest : Option BayAddr) :
    ∃ h hs, (s.markStuck g.order dest).cnu.groups = h :: hs ∧ h.order = g.order ∧ h.stuck = dest.isNone
      ∧ h.putbackMark = g.putbackMark ∧ h.putbackWanted = g.putbackWanted := by
  have hfound : s.group? g.order = some g := by simp [Station.group?, hg]
  unfold Station.markStuck
  split
  · obtain ⟨hs, hhead⟩ := updGroup_head hg (fun g => { g with stuck := false })
    exact ⟨_, hs, hhead, rfl, rfl, rfl, rfl⟩
  · split
    · rename_i hstuck
      rw [hfound] at hstuck
      exact ⟨g, gs, hg, rfl, hstuck, rfl, rfl⟩
    · rw [nonHaltingFault_of_silent (by exact hs)]
      obtain ⟨hs, hhead⟩ := updGroup_head hg (fun g => { g with stuck := true })
      exact ⟨_, hs, hhead, rfl, rfl, rfl, rfl⟩

/-- A PUTBACK asked for: the marks of the head group, and the task at the end of a list with room (R116, R163). -/
theorem askPutback_head (hs : s.bus.Silent) {g : Group} {gs : List Group} (hg : s.cnu.groups = g :: gs)
    (hmark : g.putbackMark = false) (dest : Option BayAddr) :
    (s.askPutback g.order dest).headAsked g.order dest (decide (s.mpl.tasks.length < 24))
      ∧ (s.askPutback g.order dest).smap = s.smap
      ∧ (s.askPutback g.order dest).mpl.tasks.map (fun t => t.job) = s.mpl.tasks.map (fun t => t.job) ++
        (if s.mpl.tasks.length < 24 then [.putback g.order dest] else []) := by
  obtain ⟨hmpl, hsmap⟩ := markStuck_mpl hs g.order dest
  obtain ⟨h, gs', hhead, horder, hstuck, hmark', -⟩ := markStuck_head hs hg dest
  have haccepts : (s.markStuck g.order dest).acceptsTask (.putback g.order dest) = decide (s.mpl.tasks.length < 24) := by
    unfold Station.acceptsTask
    rw [hmpl, Bool.and_true]
  unfold Station.askPutback
  dsimp only
  rw [haccepts]
  by_cases hroom : s.mpl.tasks.length < 24
  · rw [if_pos (decide_eq_true hroom), if_pos hroom, decide_eq_true hroom]
    obtain ⟨hs', hhead'⟩ := updGroup_head (s := (s.markStuck g.order dest).addTask (.putback g.order dest)) hhead
      (fun g => { g with putbackMark := true, putbackWanted := false, wantedDest := none })
    rw [horder] at hhead'
    exact ⟨⟨_, hs', hhead', rfl, hstuck, rfl, rfl⟩, hsmap, by simp [Station.updGroup, Station.addTask, hmpl]⟩
  · rw [if_neg (by simpa using hroom), if_neg hroom, decide_eq_false hroom]
    obtain ⟨hs', hhead'⟩ := updGroup_head hhead (fun g => { g with putbackWanted := true, wantedDest := dest })
    rw [horder] at hhead'
    exact ⟨⟨_, hs', hhead', rfl, hstuck, hmark'.trans hmark, rfl⟩, hsmap, by simp [Station.updGroup, hmpl]⟩

/-- A decision that finds no PUTBACK blocked (R120, R128). -/
theorem decision_of_none_blocked (h : ∀ o ∈ s.mpl.tasks, s.blocked o.job = none) :
    s.decision.cnu = s.cnu ∧ s.decision.mpl.tasks.map (fun t => t.job) = s.mpl.tasks.map (fun t => t.job) := by
  have hnone : s.mpl.tasks.filterMap (fun t => s.blocked t.job) = [] := List.filterMap_eq_nil_iff.mpr h
  have hstart : ∀ (u : Station) (t : Task), (u.startTask t).cnu = u.cnu ∧ (u.startTask t).mpl.tasks = u.mpl.tasks := by
    intro u t
    unfold Station.startTask
    dsimp only
    split
    · unfold Station.atTarget
      split <;> exact ⟨rfl, rfl⟩
    · split <;> split <;> exact ⟨rfl, rfl⟩
  unfold Station.decision
  split
  · dsimp only
    rw [hnone, List.foldl_nil]
    split
    · exact ⟨rfl, rfl⟩
    · rename_i t _
      obtain ⟨hcnu, htasks⟩ := hstart (s.raisePassed t.id) t
      refine ⟨hcnu, (congrArg (List.map (fun t => t.job)) htasks).trans ?_⟩
      refine map_map_of_eq (fun t : Task => t.job) _ (fun o => ?_) _
      split <;> rfl
  · exact ⟨rfl, rfl⟩

end

/-- The putback of a RETURNING head group starts (R163): its destination is not found blocked by the decision. -/
theorem beginPutback_head {s : Station} (hs : s.bus.Silent) {g : Group} {gs : List Group} {tyre : Tyre} {ts : List Tyre}
    (hg : s.cnu.groups = g :: gs) (htyres : g.tyres = tyre :: ts) (hreturning : g.returning = true)
    (hrelease : g.release = .clear) (hmark : g.putbackMark = false) (hwanted : g.putbackWanted = false)
    (htasks : ∀ o ∈ s.mpl.tasks, ∀ n a, o.job ≠ .putback n a) :
    s.beginPutback.headAsked g.order (s.dest tyre) (decide (s.mpl.tasks.length < 24))
      ∧ (s.mpl.tasks.length < 24 → ∃ o ∈ s.beginPutback.mpl.tasks, o.job = .putback g.order (s.dest tyre)) := by
  have honly := expectDest_onlySmap s tyre
  have hmpl : (s.expectDest tyre).2.mpl = s.mpl := by
    unfold OnlySmap at honly
    rw [honly]
  have hcnu : (s.expectDest tyre).2.cnu = s.cnu := by
    unfold OnlySmap at honly
    rw [honly]
  have hstart : s.startPutback = (s.expectDest tyre).2.askPutback g.order (s.dest tyre) := by
    rw [← expectDest_fst]
    simp [Station.startPutback, hg, htyres, hreturning, Group.releaseFlag, hrelease, hmark, hwanted]
  obtain ⟨hhead, hsmap, hjobs⟩ := askPutback_head ((PutsBack.of_onlySmap honly).silent hs) (hcnu ▸ hg) hmark (s.dest tyre)
  rw [← hstart, hmpl] at hhead hjobs
  rw [← hstart] at hsmap
  have hblocked : ∀ o ∈ s.startPutback.mpl.tasks, s.startPutback.blocked o.job = none := by
    intro o ho
    have hjob : o.job ∈ s.startPutback.mpl.tasks.map (fun t => t.job) := List.mem_map_of_mem ho
    rw [hjobs] at hjob
    rcases List.mem_append.mp hjob with hold | hnew
    · obtain ⟨o', ho', hsame⟩ := List.mem_map.mp hold
      cases hj : o.job with
      | putback n a => exact absurd (hsame.trans hj) (htasks o' ho' n a)
      | pickStop _ | load _ _ | scan _ _ => rfl
    · have hput : o.job = .putback g.order (s.dest tyre) := by
        split at hnew
        · exact List.mem_singleton.mp hnew
        · cases hnew
      rw [hput]
      cases hdest : s.dest tyre with
      | none => rfl
      | some a =>
        have hstore : s.startPutback.mayStore a.carrier = true := by
          rw [mayStore_of_locks (congrArg (fun m : Smap => m.carriers.map (fun k => k.locks)) hsmap),
            expectDest_mayStore, mayStore_of_dest s hdest]
        exact if_pos hstore
  have hkept : s.beginPutback.cnu = s.startPutback.cnu
      ∧ s.beginPutback.mpl.tasks.map (fun t => t.job) = s.startPutback.mpl.tasks.map (fun t => t.job) := by
    unfold Station.beginPutback Station.decideAfter
    split
    · exact decision_of_none_blocked hblocked
    · exact ⟨rfl, rfl⟩
  obtain ⟨hkeptCnu, hkeptJobs⟩ := hkept
  refine ⟨?_, fun hroom => ?_⟩
  · unfold Station.headAsked at hhead ⊢
    rwa [hkeptCnu]
  · rw [hjobs, if_pos hroom] at hkeptJobs
    have hmem : Job.putback g.order (s.dest tyre) ∈ s.beginPutback.mpl.tasks.map (fun t => t.job) := by
      rw [hkeptJobs]
      exact List.mem_append_right _ (List.mem_singleton_self _)
    obtain ⟨o, ho, hjob⟩ := List.mem_map.mp hmem
    exact ⟨o, ho, hjob⟩

/-! #### The whole withdrawal -/

section
variable (x : Station) (t r : Nat)

/-- The station at a withdrawal, once its bus is silent and its orders and groups are closed, before the putback (R70,
R167). -/
def Station.closing (s : Station) : Station := ({ s with bus := s.bus.withdrawn } : Station).cnuWithdrawal

/-- The station at a withdrawal, with its putback begun and its records gone (R112, R167). -/
def Station.emptied (s : Station) : Station := s.closing.beginPutback.claimsOnWithdrawal

theorem setCounters_of_withdrawn {t : Nat} (ht : 255 < t) : x.setCounters t r =
    { (x.counted t r).emptied with
      adu := { (x.counted t r).emptied.adu with owedReports := [], snapshot := none, pendingQuery := none }
      stc := { (x.counted t r).emptied.stc with statusOwed := false } } := by
  unfold Station.setCounters
  dsimp only
  rw [if_pos ((standingOf_withdrawn_iff t r).mpr ht)]
  rfl

/-- An order entry as a withdrawal leaves it (R167). -/
def OrderEntry.shut (e : OrderEntry) : OrderEntry :=
  { e with state := .closed, holdStart := none, abandon := none, abandonOwed := none }

/-- A group as a withdrawal turns it back (R167). -/
def Group.turnedBack (g : Group) : Group := { g with returning := true, readyHandles := [] }

theorem closing_groups : x.closing.cnu.groups = x.cnu.groups.map Group.turnedBack := rfl

theorem closing_lane : x.closing.cnu.groups.map Group.lane =
    x.cnu.groups.map (fun g => ((g.order, true, g.tyres, g.release), [])) := by
  rw [closing_groups, List.map_map]
  rfl

theorem closing_silent : x.closing.bus.Silent := withdrawn_silent x.bus

end

/-! #### The records that are left -/

theorem mem_staying {c : Clu} {k : LineRec} (h : k ∈ c.staying) : k ∈ c.records ∧ k.goes = false := by
  obtain ⟨hk, hserial⟩ := List.mem_filter.mp h
  refine ⟨hk, ?_⟩
  by_contra hgoes
  exact of_decide_eq_true hserial
    (List.mem_map.mpr ⟨k, List.mem_filter.mpr ⟨hk, by simpa using hgoes⟩, rfl⟩)

/-- Where no two records have one serial, a test by the serials of the records that pass is the test itself. -/
theorem mem_serials_iff {l : List LineRec} (hnodup : (l.map (fun r => r.serial)).Nodup) (p : LineRec → Bool) {k : LineRec}
    (hk : k ∈ l) : k.serial ∈ (l.filter p).map (fun r => r.serial) ↔ p k = true := by
  refine ⟨fun h => ?_, fun h => List.mem_map.mpr ⟨k, List.mem_filter.mpr ⟨hk, h⟩, rfl⟩⟩
  obtain ⟨k', hk', hserial⟩ := List.mem_map.mp h
  obtain ⟨hmem, hp⟩ := List.mem_filter.mp hk'
  exact List.inj_on_of_nodup_map hnodup hmem hk hserial ▸ hp

theorem staying_eq {c : Clu} (hnodup : (c.records.map (fun r => r.serial)).Nodup) :
    c.staying = c.records.filter (fun r => !r.goes) := by
  refine List.filter_congr (fun k hk => ?_)
  rw [Bool.eq_iff_iff, decide_eq_true_iff, mem_serials_iff hnodup LineRec.goes hk]
  cases k.goes <;> simp

/-- The serials of the records that a withdrawal leaves. -/
theorem serials_left {c : Clu} (hnodup : (c.records.map (fun r => r.serial)).Nodup) (lane : Nat → Bool) :
    ((c.staying.map LineRec.gist).filterMap (fate lane c.turning)).map Prod.fst =
      (c.records.filter (fun r => !r.goes && (!r.turns || lane r.serial))).map (fun r => r.serial) := by
  have hstaying := staying_eq hnodup
  have hnodup' : (c.staying.map (fun r => r.serial)).Nodup := by
    rw [hstaying]
    exact hnodup.sublist (List.filter_sublist.map _)
  have hturning : ∀ k ∈ c.staying, (k.serial ∈ c.turning ↔ k.turns = true) := fun k hk =>
    mem_serials_iff hnodup' LineRec.turns hk
  have hfate : ∀ k ∈ c.staying, (fate lane c.turning k.gist).map Prod.fst =
      if (!k.turns || lane k.serial) = true then some k.serial else none := by
    intro k hk
    have hiff := hturning k hk
    unfold fate
    cases hturns : k.turns <;> cases hlane : lane k.serial <;>
      simp_all [LineRec.gist, turned]
  rw [List.map_filterMap, List.filterMap_map]
  refine (List.filterMap_congr hfate).trans ?_
  rw [hstaying, ← List.filterMap_eq_map, List.filterMap_filter, List.filterMap_filter]
  refine List.filterMap_congr (fun k _ => ?_)
  cases k.goes <;> rfl

/-- A record as a withdrawal leaves it: a RETURNING pick with nothing owed, or a LOADING putaway. -/
def settledGist (g : Nat × (PickState × Bool ⊕ PutState)) : Prop :=
  match g.2 with
  | .inl b => b = (.returning, false)
  | .inr st => st = .loading

theorem settledGist_of_fate {k : LineRec} {lane : Nat → Bool} {l : List Nat} {g : Nat × (PickState × Bool ⊕ PutState)}
    (hgoes : k.goes = false) (hready : ∀ b, k.body = .pick b → b.readyOwed = false)
    (hturns : k.turns = true → k.serial ∈ l) (h : fate lane l k.gist = some g) : settledGist g := by
  rcases k with ⟨serial, article, qty, bid, body⟩
  unfold fate at h
  split at h
  · split at h
    · cases h
      cases body with
      | pick b => rfl
      | putaway b =>
        rcases b with ⟨number, week, target, state⟩
        cases state <;> simp_all [LineRec.goes, LineRec.tentative, LineRec.won, settledGist, turned, LineRec.gist]
    · cases h
  · cases h
    cases body with
    | pick b =>
      rcases b with ⟨order, line, state⟩
      cases state <;>
        simp_all [LineRec.goes, LineRec.tentative, LineRec.won, settledGist, LineRec.gist, LineRec.turns]
    | putaway b =>
      rcases b with ⟨number, week, target, state⟩
      cases state <;> simp_all [LineRec.goes, LineRec.tentative, LineRec.won, settledGist, LineRec.gist]

theorem settled_of_gist {k : LineRec} (h : settledGist k.gist) : k.tentative = false ∧ k.won = false
    ∧ ∀ b, k.body = .pick b → b.state = .returning ∧ b.readyOwed = false := by
  rcases k with ⟨serial, article, qty, bid, body⟩
  cases body with
  | pick b =>
    obtain ⟨hstate, hready⟩ := Prod.mk.inj (show (b.state, b.readyOwed) = _ from h)
    refine ⟨by simp [LineRec.tentative, hstate], by simp [LineRec.won, hstate], ?_⟩
    rintro b' ⟨⟩
    exact ⟨hstate, hready⟩
  | putaway b =>
    have hstate : b.state = .loading := h
    exact ⟨by simp [LineRec.tentative, hstate], by simp [LineRec.won, hstate], nofun⟩

theorem onLane_of_lane {s t : Station} (h : t.cnu.groups.map (fun g => g.tyres) = s.cnu.groups.map (fun g => g.tyres)) :
    t.onLane = s.onLane := by
  have hany : ∀ (u : Station) (n : Nat), u.onLane n =
      (u.cnu.groups.map (fun g => g.tyres)).any (fun l => l.any (fun t => t.serial == some n)) := by
    intro u n
    rw [List.any_map]
    rfl
  funext n
  rw [hany, hany, h]

/-- A record with its ready owed flag cleared (R167). -/
def LineRec.readyCleared (r : LineRec) : LineRec := r.mapPick (fun b => { b with readyOwed := false })

/-- The record is one that R112 leaves: returning or loading, or on its way with a tyre on the lane. -/
def LineRec.remains (lane : Nat → Bool) (k : LineRec) : Bool :=
  match k.body with
  | .pick b => b.state = .returning || ((b.state = .picking || b.state = .staged) && lane k.serial)
  | .putaway b => b.state = .loading

theorem readyCleared_stays (k : LineRec) (lane : Nat → Bool) :
    (!k.readyCleared.goes && (!k.readyCleared.turns || lane k.readyCleared.serial)) = k.remains lane := by
  rcases k with ⟨serial, article, qty, bid, body⟩
  cases body with
  | pick b =>
    rcases b with ⟨order, line, state⟩
    cases state <;>
      simp [LineRec.readyCleared, LineRec.mapPick, LineRec.goes, LineRec.tentative, LineRec.won, LineRec.turns, LineRec.remains]
  | putaway b =>
    rcases b with ⟨number, week, target, state⟩
    cases state <;>
      simp [LineRec.readyCleared, LineRec.mapPick, LineRec.goes, LineRec.tentative, LineRec.won, LineRec.turns, LineRec.remains]

theorem readyCleared_serial (k : LineRec) : k.readyCleared.serial = k.serial := by
  rcases k with ⟨serial, article, qty, bid, body⟩
  cases body <;> rfl

theorem readyOwed_of_readyCleared {k : LineRec} {b : PickBody} (h : k.readyCleared.body = .pick b) :
    b.readyOwed = false := by
  rcases k with ⟨serial, article, qty, bid, body⟩
  cases body with
  | pick b' =>
    cases h
    rfl
  | putaway b' => cases h

section
variable (x : Station)

/-! #### The putback begun, then the records gone -/

theorem closing_putsBack : PutsBack x.closing x.closing.beginPutback := beginPutback_putsBack (closing_silent x)

theorem emptied_removal : Removal x.closing.beginPutback x.emptied :=
  (claimsOnWithdrawal_of_silent ((closing_putsBack x).silent (closing_silent x))).1

theorem emptied_gists : x.emptied.gists = (x.closing.beginPutback.clu.staying.map LineRec.gist).filterMap
    (fate x.closing.beginPutback.onLane x.closing.beginPutback.clu.turning) :=
  (claimsOnWithdrawal_of_silent ((closing_putsBack x).silent (closing_silent x))).2

theorem emptied_bus : x.emptied.bus = x.bus.withdrawn := (emptied_removal x).bus.trans (closing_putsBack x).bus

theorem emptied_rest : x.emptied.view.rest = x.closing.view.rest :=
  (emptied_removal x).rest.trans (rest_of_view (beginPutback_view x.closing))

theorem emptied_orders :
    x.emptied.cnu.orders.map OrderEntry.shape = (x.cnu.orders.map OrderEntry.shut).map OrderEntry.shape :=
  (emptied_removal x).orders.trans (congrArg (List.map OrderEntry.shape) (closing_putsBack x).orders)

theorem emptied_lane :
    x.emptied.cnu.groups.map Group.lane = x.cnu.groups.map (fun g => ((g.order, true, g.tyres, g.release), [])) := by
  rw [(emptied_removal x).groups, (closing_putsBack x).lane]
  exact closing_lane x

theorem putback_records : x.closing.beginPutback.clu.records = x.clu.records.map LineRec.readyCleared :=
  congrArg Clu.records (closing_putsBack x).clu

theorem putback_onLane : x.closing.beginPutback.onLane = x.onLane := by
  have hmap : ∀ l : List Group, l.map (fun g => g.tyres) = (l.map Group.lane).map (fun k => k.1.2.2.1) := fun l => by
    rw [List.map_map]
    rfl
  refine onLane_of_lane ?_
  rw [hmap, (closing_putsBack x).lane, closing_lane, List.map_map]
  rfl

/-! #### What a withdrawal leaves, table by table -/

variable {x}

theorem emptied_order_shut {e : OrderEntry} (he : e ∈ x.emptied.cnu.orders) :
    e.state = .closed ∧ e.holdStart = none ∧ e.abandon = none ∧ e.abandonOwed = none := by
  obtain ⟨e', he', hshape⟩ := List.mem_map.mp (emptied_orders x ▸ List.mem_map_of_mem (f := OrderEntry.shape) he)
  obtain ⟨e'', -, rfl⟩ := List.mem_map.mp he'
  exact ⟨(congrArg OrderEntry.state hshape).symm, (congrArg OrderEntry.holdStart hshape).symm,
    (congrArg OrderEntry.abandon hshape).symm, (congrArg OrderEntry.abandonOwed hshape).symm⟩

theorem emptied_group_returning {g : Group} (hg : g ∈ x.emptied.cnu.groups) :
    g.returning = true ∧ g.readyHandles = [] := by
  obtain ⟨g', -, hg'⟩ := List.mem_map.mp (emptied_lane x ▸ List.mem_map_of_mem (f := Group.lane) hg)
  exact ⟨(congrArg (fun l => l.1.2.1) hg').symm, (congrArg Prod.snd hg').symm⟩

/-- The order entries stay (R167). -/
theorem emptied_order_names : x.emptied.cnu.orders.map (fun e => (e.order, e.lineCount, e.ready)) =
    x.cnu.orders.map (fun e => (e.order, e.lineCount, e.ready)) := by
  have hmap : ∀ l : List OrderEntry, l.map (fun e => (e.order, e.lineCount, e.ready)) =
      (l.map OrderEntry.shape).map (fun e => (e.order, e.lineCount, e.ready)) := fun l => by
    rw [List.map_map]
    rfl
  rw [hmap, emptied_orders, ← hmap, List.map_map]
  rfl

/-- The groups stay, RETURNING (R167). -/
theorem emptied_groups :
    x.emptied.cnu.groups.map Group.kept = x.cnu.groups.map (fun g => (g.order, true, g.tyres, g.release)) := by
  have hmap : ∀ l : List Group, l.map Group.kept = (l.map Group.lane).map Prod.fst := fun l => by
    rw [List.map_map]
    rfl
  rw [hmap, emptied_lane, List.map_map]
  rfl

/-- The records that stay (R112). -/
theorem emptied_serials (hserials : (x.clu.records.map (fun k => k.serial)).Nodup) :
    x.emptied.clu.records.map (fun k => k.serial) =
      (x.clu.records.filter (LineRec.remains x.onLane)).map (fun k => k.serial) := by
  have hnodup : (x.closing.beginPutback.clu.records.map (fun k => k.serial)).Nodup := by
    rw [putback_records, List.map_map]
    exact (List.map_congr_left (fun k _ => readyCleared_serial k)) ▸ hserials
  have hleft := serials_left hnodup x.closing.beginPutback.onLane
  rw [← emptied_gists, putback_onLane, putback_records, List.filter_map, List.map_map, Station.gists,
    List.map_map] at hleft
  refine (show _ = _ from hleft).trans ?_
  rw [show (fun r : LineRec => r.serial) ∘ LineRec.readyCleared = fun k => k.serial from funext readyCleared_serial]
  exact congrArg (List.map (fun k : LineRec => k.serial)) (List.filter_congr (fun k _ => readyCleared_stays k x.onLane))

/-- A record that stays is RETURNING with nothing owed, or LOADING (R112, R167). -/
theorem emptied_record_settled {k : LineRec} (hk : k ∈ x.emptied.clu.records) : settledGist k.gist := by
  have hgist : k.gist ∈ x.emptied.gists := List.mem_map_of_mem hk
  rw [emptied_gists] at hgist
  obtain ⟨g, hg, hfate⟩ := List.mem_filterMap.mp hgist
  obtain ⟨k', hk', rfl⟩ := List.mem_map.mp hg
  obtain ⟨hmem, hgoes⟩ := mem_staying hk'
  rw [putback_records] at hmem
  obtain ⟨k'', -, rfl⟩ := List.mem_map.mp hmem
  exact settledGist_of_fate hgoes (fun b hb => readyOwed_of_readyCleared hb)
    (fun hturns => List.mem_map.mpr ⟨_, List.mem_filter.mpr ⟨hk', hturns⟩, rfl⟩) hfate

/-- The head group's putback is asked for with the destination that the stock gives before the records go (R163, R167). -/
theorem emptied_head {g : Group} {gs : List Group} {tyre : Tyre} {ts : List Tyre} (hg : x.cnu.groups = g :: gs)
    (htyres : g.tyres = tyre :: ts) (hrelease : g.release = .clear) (hmark : g.putbackMark = false)
    (hwanted : g.putbackWanted = false) (htasks : ∀ o ∈ x.mpl.tasks, ∀ n a, o.job ≠ .putback n a) :
    x.emptied.headAsked g.order (x.dest tyre) (decide (x.mpl.tasks.length < 24))
      ∧ (x.mpl.tasks.length < 24 → ∃ o ∈ x.emptied.mpl.tasks, o.job = .putback g.order (x.dest tyre)) := by
  have hgroups : x.closing.cnu.groups = g.turnedBack :: gs.map Group.turnedBack := by rw [closing_groups, hg, List.map_cons]
  obtain ⟨hhead, htask⟩ := beginPutback_head (closing_silent x) hgroups htyres rfl hrelease hmark hwanted htasks
  have hsame : x.closing.dest tyre = x.dest tyre := rfl
  rw [hsame] at hhead htask
  obtain ⟨h, hs, hh, hasked⟩ := hhead
  refine ⟨⟨h, hs, (emptied_removal x).groups.trans hh, hasked⟩, fun hroom => ?_⟩
  obtain ⟨o, ho, hjob⟩ := htask hroom
  obtain ⟨o', ho', hjob'⟩ := (emptied_removal x).putbacks o ho (by rw [hjob]; rfl)
  exact ⟨o', ho', hjob'.trans hjob⟩

end

/-- Settles O18: the bus is silent from the first step on; then the order table and the lane, the records, the rest of the
view, and the putback of the head group. -/
theorem withdrawalEmptiesBus : Obligations.WithdrawalEmptiesBus := by
  intro x t r ht
  rw [setCounters_of_withdrawn x r ht]
  have hrest := emptied_rest (x.counted t r)
  dsimp only
  refine ⟨?_, fun e => emptied_order_shut, fun g => emptied_group_returning, (emptied_removal _).readies ?_,
    emptied_order_names, emptied_groups, fun hnames => ?_, fun k hk => settled_of_gist (emptied_record_settled hk),
    ⟨rfl, rfl, rfl, rfl, rfl, (congrArg (fun v => v.stc.mode) hrest :), (congrArg (fun v => v.pins.fault) hrest :)⟩, ?_⟩
  · rw [emptied_bus]
    exact ⟨rfl, rfl, rfl, rfl, rfl, rfl, rfl, rfl, rfl, rfl, rfl, rfl, rfl⟩
  · rw [(closing_putsBack _).readies]
    rfl
  · obtain ⟨-, -, -, -, hserials, -⟩ := hnames
    exact emptied_serials (x := x.counted t r) hserials
  · intro g gs tyre ts dest u hg htyres hrelease hmark hwanted _ htasks hdest
    obtain ⟨hhead, htask⟩ := emptied_head (x := x.counted t r) hg htyres hrelease hmark hwanted htasks
    have hsame : (x.counted t r).dest tyre = dest :=
      (expectDest_fst x tyre).symm.trans (congrArg Prod.fst hdest)
    rw [hsame] at hhead htask
    obtain ⟨h, hs, hh, horder, hstuck, hmarked, hwants⟩ := hhead
    exact ⟨⟨h, hs, hh, horder, hstuck, hmarked, hwants.trans (decide_not ..).symm⟩, htask⟩

end Sys2Proof.Machine
end

section
/-! ### The offer of a freed slot to the owed set (R90) -/

namespace Sys2Proof.Machine

/-! #### What an owner owes, and the notice it posts -/

/-- The class of the kind is full (R84). -/
def Station.classFull (x : Station) (k : Kind) : Prop := k.claimClass = true ∧ 8 ≤ x.bus.claimSlots

/-- The record still meets the conditions of R156. -/
def Station.readyStands (x : Station) (n : Nat) : Bool :=
  (x.pick? n).any (fun b => decide (b.state = .staged ∧ b.readySent = false ∧ x.orderIn b.order .opened = true)
    && x.cnu.groups.head?.any (fun g => decide (g.order = b.order ∧ g.returning = false)))

/-- The owner of a kind owes a notice (R93, R105, R156, R161, R180, R183). -/
def Station.owes (x : Station) (k : Kind) : Prop :=
  (k = .abn ∧ ∃ e ∈ x.cnu.orders, e.state = .opened ∧ e.abandonOwed ≠ none)
    ∨ (k = .cls ∧ ∃ r ∈ x.clu.records, r.tentative = true ∧ r.bid.closeOwed = true)
    ∨ (k = .rdy ∧ ∃ n ∈ x.cnu.owedReadies, x.readyStands n = true)
    ∨ (k = .san ∧ ∃ sn, x.adu.snapshot = some sn ∧ sn.nextToPost < sn.entries.length ∧ sn.inTable < 4)
    ∨ (k = .arp ∧ x.adu.owedReports ≠ []) ∨ (k = .sts ∧ x.stc.statusOwed = true)

/-- The post is the oldest notice that the owner of its kind owes. -/
def Station.oldestNotice (x : Station) (p : Post) : Prop :=
  (p.kind = .abn ∧ ∃ e cause, x.cnu.orders.find? (fun e => e.abandonOwed.isSome && e.state = .opened) = some e
      ∧ e.abandonOwed = some cause ∧ p.payload = abnPayload e.order cause)
    ∨ (p.kind = .cls ∧ ∃ r, x.clu.records.find? (fun r => r.bid.closeOwed && r.tentative) = some r
      ∧ p.payload = clsPayload r.round (r.winningKey % 64) r.winningKey)
    ∨ (p.kind = .rdy ∧ ∃ n b, x.cnu.owedReadies.find? x.readyStands = some n ∧ x.pick? n = some b
      ∧ p.payload = rdyPayload b.order b.line)
    ∨ (p.kind = .san ∧ ∃ sn e, x.adu.snapshot = some sn ∧ sn.entries[sn.nextToPost]? = some e
      ∧ p.payload = sanPayload sn.nextToPost (decide (sn.nextToPost + 1 = sn.entries.length)) e)
    ∨ (p.kind = .arp ∧ ∃ r, x.adu.owedReports.head? = some r ∧ p.payload = arpPayload r)
    ∨ (p.kind = .sts ∧ p.payload = stsPayload x.statusFields)

/-! #### The owed ready list trimmed -/

/-- `t` is `s` but for ready owed flags and the owed ready list (R156). -/
structure Trimmed (s t : Station) : Prop where
  bus : t.bus = s.bus
  orders : t.cnu.orders = s.cnu.orders
  groups : t.cnu.groups = s.cnu.groups
  records : t.clu.records.map LineRec.readyCleared = s.clu.records.map LineRec.readyCleared
  adu : t.adu = s.adu
  stc : t.stc = s.stc
  cfg : t.cfg = s.cfg
  mpl : t.mpl = s.mpl

@[refl] theorem Trimmed.refl (s : Station) : Trimmed s s := ⟨rfl, rfl, rfl, rfl, rfl, rfl, rfl, rfl⟩

/-- A pick body with its ready owed flag cleared. -/
def PickBody.readyCleared (b : PickBody) : PickBody := { b with readyOwed := false }

section
variable {s t u : Station}

theorem Trimmed.trans (h : Trimmed s t) (h' : Trimmed t u) : Trimmed s u :=
  ⟨h'.bus.trans h.bus, h'.orders.trans h.orders, h'.groups.trans h.groups, h'.records.trans h.records,
    h'.adu.trans h.adu, h'.stc.trans h.stc, h'.cfg.trans h.cfg, h'.mpl.trans h.mpl⟩

theorem trimmed_setOwedReadies (s : Station) (l : List Nat) : Trimmed s (s.setOwedReadies l) :=
  ⟨rfl, rfl, rfl, rfl, rfl, rfl, rfl, rfl⟩

theorem readyCleared_mapPick (r : LineRec) : (r.mapPick PickBody.readyCleared).readyCleared = r.readyCleared := by
  rcases r with ⟨serial, article, qty, bid, body⟩
  cases body <;> rfl

theorem trimmed_updPick (s : Station) (n : Nat) : Trimmed s (s.updPick n PickBody.readyCleared) := by
  refine ⟨rfl, rfl, rfl, map_map_of_eq _ _ (fun r => ?_) _, rfl, rfl, rfl, rfl⟩
  split
  · exact readyCleared_mapPick r
  · rfl

theorem trimmed_trimOwedReadies (s : Station) (l : List Nat) : Trimmed s (s.trimOwedReadies l) := by
  induction l generalizing s with
  | nil => exact trimmed_setOwedReadies s []
  | cons n l ih =>
    unfold Station.trimOwedReadies
    split
    · exact trimmed_setOwedReadies s _
    · exact (trimmed_updPick s n).trans (ih _)

/-- A record found by a test that does not look at the ready owed flag. -/
theorem Trimmed.find? (h : Trimmed s t) {p : LineRec → Bool} (hp : ∀ r, p r.readyCleared = p r) :
    (t.clu.records.find? p).map LineRec.readyCleared = (s.clu.records.find? p).map LineRec.readyCleared := by
  have hmap : ∀ l : List LineRec, (l.find? p).map LineRec.readyCleared = (l.map LineRec.readyCleared).find? p := by
    intro l
    rw [List.find?_map]
    exact congrArg (Option.map LineRec.readyCleared) (congrArg (fun q => l.find? q) (funext (fun r => (hp r).symm)))
  rw [hmap, hmap, h.records]

theorem pick?_readyCleared (s : Station) (n : Nat) :
    (s.pick? n).map PickBody.readyCleared = ((s.record? n).map LineRec.readyCleared).bind (fun r => match r.body with
      | .pick b => some b
      | .putaway _ => none) := by
  unfold Station.pick?
  cases s.record? n with
  | none => rfl
  | some r =>
    rcases r with ⟨serial, article, qty, bid, body⟩
    cases body <;> rfl

theorem Trimmed.pick? (h : Trimmed s t) (n : Nat) :
    (t.pick? n).map PickBody.readyCleared = (s.pick? n).map PickBody.readyCleared := by
  have hrecord : (t.record? n).map LineRec.readyCleared = (s.record? n).map LineRec.readyCleared :=
    h.find? (fun r => by rw [readyCleared_serial])
  rw [pick?_readyCleared, pick?_readyCleared, hrecord]

theorem Trimmed.readyStands (h : Trimmed s t) (n : Nat) : t.readyStands n = s.readyStands n := by
  have hany : ∀ u : Station, u.readyStands n = ((u.pick? n).map PickBody.readyCleared).any (fun b =>
      decide (b.state = .staged ∧ b.readySent = false ∧ u.orderIn b.order .opened = true)
        && u.cnu.groups.head?.any (fun g => decide (g.order = b.order ∧ g.returning = false))) := by
    intro u
    rw [Option.any_map]
    rfl
  rw [hany, hany, h.pick?, h.groups]
  unfold Station.orderIn Station.order?
  rw [h.orders]

/-- The condition of the model is that of R156. -/
theorem any_readyQualifies (s : Station) (n : Nat) : (s.pick? n).any (fun b => s.readyQualifies b) = s.readyStands n := by
  unfold Station.readyStands Station.readyQualifies
  refine congrArg (fun f => (s.pick? n).any f) (funext (fun b => ?_))
  rw [Bool.eq_iff_iff]
  cases s.cnu.groups.head? <;> simp [and_assoc, beq_iff_eq]

/-- The records before the first that still qualifies leave the owed ready list (R156). -/
theorem trimOwedReadies_list (s : Station) (l : List Nat) :
    (s.trimOwedReadies l).cnu.owedReadies = l.dropWhile (fun n => !s.readyStands n) := by
  induction l generalizing s with
  | nil => rfl
  | cons n l ih =>
    unfold Station.trimOwedReadies
    rw [any_readyQualifies]
    cases hn : s.readyStands n with
    | true =>
      rw [List.dropWhile_cons_of_neg (by simp [hn])]
      rfl
    | false =>
      rw [List.dropWhile_cons_of_pos (by simp [hn]), if_neg nofun]
      exact (ih _).trans (congrArg (fun q : Nat → Bool => l.dropWhile (fun n => !q n))
        (funext (trimmed_updPick s n).readyStands))

/-! #### The answer of an owner -/

/-- The slot that an owner fills. -/
def Station.newPost (s : Station) (k : Kind) (payload : List Byte) : Post where
  handle := s.bus.nextHandle
  kind := k
  key := s.ownKey
  payload := payload
  onBus := false

/-- The Bus Interface with one post more. -/
def Bus.withPost (b : Bus) (p : Post) : Bus := { b with posts := b.posts ++ [p], nextHandle := b.nextHandle + 1 }

theorem addPost_bus (s : Station) (k : Kind) (payload : List Byte) :
    (s.addPost k s.ownKey payload).bus = s.bus.withPost (s.newPost k payload) := rfl

/-- The owner of a kind that owes a notice posts its oldest one; one that owes none changes at most the ready flags. -/
inductive Answered (s : Station) (k : Kind) (r : Filled) : Prop where
  | posted (payload : List Byte) (filled : r.filled = true) (owes : s.owes k)
      (bus : r.station.bus = s.bus.withPost (s.newPost k payload)) (notice : s.oldestNotice (s.newPost k payload))
  | declined (filled : r.filled = false) (owes : ¬ s.owes k) (trimmed : Trimmed s r.station)
      (same : k ≠ .rdy → r.station = s)

theorem Trimmed.withPost {s t : Station} (h : Trimmed s t) (k : Kind) (payload : List Byte) :
    t.bus.withPost (t.newPost k payload) = s.bus.withPost (s.newPost k payload) := by
  unfold Station.newPost Station.ownKey
  rw [h.bus, h.cfg]

theorem fillAbn_answered (s : Station) : Answered s .abn s.fillAbn := by
  unfold Station.fillAbn
  cases he : s.cnu.orders.find? (fun e => e.abandonOwed.isSome && e.state = .opened) with
  | none =>
    refine .declined rfl (fun howes => ?_) (.refl s) (fun _ => rfl)
    simp only [Station.owes, reduceCtorEq, false_and, true_and, or_false] at howes
    obtain ⟨e, hmem, hopen, howed⟩ := howes
    exact List.find?_eq_none.mp he e hmem (by simp [hopen, Option.isSome_iff_ne_none, howed])
  | some e =>
    have htest := List.find?_some he
    simp only [Bool.and_eq_true, decide_eq_true_eq] at htest
    obtain ⟨howed, hopen⟩ := htest
    obtain ⟨cause, hcause⟩ := Option.isSome_iff_exists.mp howed
    refine .posted (abnPayload e.order cause) rfl ?_ ?_ (.inl ⟨rfl, e, cause, he, hcause, rfl⟩)
    · exact .inl ⟨rfl, e, List.mem_of_find?_eq_some he, hopen, Option.isSome_iff_ne_none.mp howed⟩
    · dsimp only
      rw [hcause]
      rfl

theorem fillCls_answered (s : Station) : Answered s .cls s.fillCls := by
  unfold Station.fillCls
  cases hr : s.clu.records.find? (fun r => r.bid.closeOwed && r.tentative) with
  | none =>
    refine .declined rfl (fun howes => ?_) (.refl s) (fun _ => rfl)
    simp only [Station.owes, reduceCtorEq, false_and, true_and, or_false, false_or] at howes
    obtain ⟨r, hmem, htentative, howed⟩ := howes
    exact List.find?_eq_none.mp hr r hmem (by simp [htentative, howed])
  | some r =>
    have htest := List.find?_some hr
    simp only [Bool.and_eq_true] at htest
    obtain ⟨howed, htentative⟩ := htest
    exact .posted _ rfl (.inr (.inl ⟨rfl, r, List.mem_of_find?_eq_some hr, htentative, howed⟩)) rfl
      (.inr (.inl ⟨rfl, r, hr, rfl⟩))

theorem fillArp_answered (s : Station) : Answered s .arp s.fillArp := by
  unfold Station.fillArp
  cases hr : s.adu.owedReports with
  | nil =>
    refine .declined rfl (fun howes => ?_) (.refl s) (fun _ => rfl)
    simp [Station.owes, hr] at howes
  | cons r rest =>
    exact .posted (arpPayload r) rfl (by simp [Station.owes, hr]) rfl
      (.inr (.inr (.inr (.inr (.inl ⟨rfl, r, by simp [hr], rfl⟩)))))

theorem fillSts_answered (s : Station) : Answered s .sts s.fillSts := by
  unfold Station.fillSts
  split
  · rename_i howed
    exact .posted (stsPayload s.statusFields) rfl (by simp [Station.owes, howed]) rfl
      (.inr (.inr (.inr (.inr (.inr ⟨rfl, rfl⟩)))))
  · rename_i howed
    exact .declined rfl (by simp [Station.owes, howed]) (.refl s) (fun _ => rfl)

theorem fillSan_answered (s : Station) : Answered s .san s.fillSan := by
  have hdeclined : ¬ s.owes .san → Answered s .san (Machine.declined s) := fun h => .declined rfl h (.refl s) (fun _ => rfl)
  unfold Station.fillSan
  cases hsn : s.adu.snapshot with
  | none => exact hdeclined (by simp [Station.owes, hsn])
  | some sn =>
    dsimp only
    cases he : sn.entries[sn.nextToPost]? with
    | none =>
      have hlen := List.getElem?_eq_none_iff.mp he
      exact hdeclined (by simp [Station.owes, hsn]; omega)
    | some e =>
      obtain ⟨hlt, -⟩ := List.getElem?_eq_some_iff.mp he
      dsimp only
      split
      · exact hdeclined (by simp [Station.owes, hsn]; omega)
      · rename_i hroom
        refine .posted _ rfl ?_ rfl (.inr (.inr (.inr (.inl ⟨rfl, sn, e, hsn, he, rfl⟩))))
        exact .inr (.inr (.inr (.inl ⟨rfl, sn, hsn, hlt, Nat.lt_of_not_le hroom⟩)))

theorem fillRdy_answered (s : Station) : Answered s .rdy s.fillRdy := by
  obtain ⟨w, hw⟩ : ∃ w, w = s.trimOwedReadies s.cnu.owedReadies := ⟨_, rfl⟩
  have htrim : Trimmed s w := hw ▸ trimmed_trimOwedReadies s _
  have hlist : w.cnu.owedReadies = s.cnu.owedReadies.dropWhile (fun n => !s.readyStands n) :=
    hw ▸ trimOwedReadies_list s _
  unfold Station.fillRdy
  dsimp only
  rw [← hw]
  have hfirst : s.cnu.owedReadies.find? s.readyStands = w.cnu.owedReadies.head? := by
    rw [hlist, List.find?_eq_head?_dropWhile_not]
  cases hl : w.cnu.owedReadies with
  | nil =>
    refine .declined rfl (fun howes => ?_) htrim (fun h => absurd rfl h)
    simp only [Station.owes, reduceCtorEq, false_and, true_and, or_false, false_or] at howes
    obtain ⟨n, hn, hstands⟩ := howes
    rw [hl] at hfirst
    exact List.find?_eq_none.mp hfirst n hn hstands
  | cons n rest =>
    rw [hl] at hfirst
    have hstands : s.readyStands n = true := List.find?_some hfirst
    have hpick := htrim.pick? n
    dsimp only
    cases hb : w.pick? n with
    | none =>
      exfalso
      have hstands' := (htrim.readyStands n).trans hstands
      simp [Station.readyStands, hb] at hstands'
    | some b =>
      rw [hb] at hpick
      obtain ⟨b', hb', hsame⟩ := Option.map_eq_some_iff.mp hpick.symm
      refine .posted (rdyPayload b.order b.line) rfl ?_ ?_ (.inr (.inr (.inl ⟨rfl, n, b', hfirst, hb', ?_⟩)))
      · exact .inr (.inr (.inl ⟨rfl, n, List.mem_of_find?_eq_some hfirst, hstands⟩))
      · exact (addPost_bus w .rdy _).trans (htrim.withPost .rdy _)
      · rw [show b.order = b'.order from (congrArg PickBody.order hsame).symm,
          show b.line = b'.line from (congrArg PickBody.line hsame).symm]
        rfl

theorem fillOwed_answered (s : Station) (k : Kind) : Answered s k (s.fillOwed k) := by
  have hnever : ∀ k : Kind, ¬ s.owes k → Answered s k (Machine.declined s) :=
    fun k h => .declined rfl h (.refl s) (fun _ => rfl)
  cases k with
  | abn => exact fillAbn_answered s
  | rdy => exact fillRdy_answered s
  | cls => exact fillCls_answered s
  | arp => exact fillArp_answered s
  | san => exact fillSan_answered s
  | sts => exact fillSts_answered s
  | clm | opn | lof | pof | cct | sct | arq | sqy => exact hnever _ (by simp [Station.owes])

/-! #### The offers in order -/

theorem readyCleared_round (r : LineRec) : r.readyCleared.round = r.round ∧ r.readyCleared.bid = r.bid
    ∧ r.readyCleared.tentative = r.tentative := by
  rcases r with ⟨serial, article, qty, bid, body⟩
  cases body <;> exact ⟨rfl, rfl, rfl⟩

theorem Trimmed.owes (h : Trimmed s t) {k : Kind} (hk : k ≠ .rdy) : t.owes k ↔ s.owes k := by
  have hcls : ∀ u : Station, (∃ r ∈ u.clu.records, r.tentative = true ∧ r.bid.closeOwed = true) ↔
      ∃ r ∈ u.clu.records.map LineRec.readyCleared, r.tentative = true ∧ r.bid.closeOwed = true := by
    intro u
    simp [readyCleared_round]
  unfold Station.owes
  rw [hcls t, hcls s, h.records, h.orders, h.adu, h.stc]
  simp [hk]

theorem Trimmed.oldestNotice (h : Trimmed s t) {p : Post} (hk : p.kind ≠ .rdy) :
    t.oldestNotice p ↔ s.oldestNotice p := by
  have hcls : ∀ u : Station,
      (∃ r, u.clu.records.find? (fun r => r.bid.closeOwed && r.tentative) = some r
        ∧ p.payload = clsPayload r.round (r.winningKey % 64) r.winningKey) ↔
      ∃ r, (u.clu.records.find? (fun r => r.bid.closeOwed && r.tentative)).map LineRec.readyCleared = some r
        ∧ p.payload = clsPayload r.round (r.winningKey % 64) r.winningKey := by
    intro u
    simp [Option.map_eq_some_iff, LineRec.winningKey, readyCleared_round]
  have hfound := h.find? (p := fun r => r.bid.closeOwed && r.tentative)
    (fun r => by rw [(readyCleared_round r).2.1, (readyCleared_round r).2.2])
  have hstatus : t.statusFields = s.statusFields := by
    have hlength : t.clu.records.length = s.clu.records.length := by
      simpa using congrArg List.length h.records
    unfold Station.statusFields Cnu.freePositions
    rw [h.stc, h.bus, h.groups, h.mpl, hlength]
  unfold Station.oldestNotice
  rw [hcls t, hcls s, hfound, h.orders, h.adu, hstatus]
  simp [hk]

/-- A kind that was offered and not taken: kept where its class is full, else gone from the owed set, owing nothing. -/
def Station.passedOver (s y : Station) (k : Kind) : Prop :=
  (s.classFull k ∧ k ∈ y.bus.owed) ∨ (¬ s.owes k ∧ k ∉ y.bus.owed)

/-- The outcome of an offer to the kinds of a list, of which `y` is left (R90). -/
def Station.offered (s y : Station) (ks : List Kind) : Prop :=
  (y.bus.posts = s.bus.posts ∧ ∀ k ∈ ks, s.passedOver y k)
    ∨ ∃ p before after, ks = before ++ p.kind :: after ∧ y.bus.posts = s.bus.posts ++ [p]
      ∧ p.handle = s.bus.nextHandle ∧ p.onBus = false ∧ p.key = s.ownKey
      ∧ ¬ s.classFull p.kind ∧ s.owes p.kind ∧ s.oldestNotice p
      ∧ (∀ k ∈ after, k ∈ y.bus.owed) ∧ ∀ k ∈ before, s.passedOver y k

theorem offered_cons {y : Station} {k : Kind} {ks : List Kind} (hk : s.passedOver y k) (h : s.offered y ks) :
    s.offered y (k :: ks) := by
  rcases h with ⟨hposts, hall⟩ | ⟨p, before, after, hks, hposts, hhandle, hpending, hkey, hfull, howes, hnotice, hafter, hbefore⟩
  · exact .inl ⟨hposts, List.forall_mem_cons.mpr ⟨hk, hall⟩⟩
  · exact .inr ⟨p, k :: before, after, by rw [hks]; rfl, hposts, hhandle, hpending, hkey, hfull, howes, hnotice, hafter,
      List.forall_mem_cons.mpr ⟨hk, hbefore⟩⟩

/-- An offer looks at a trimmed station as at the one before, but for the kind RDY. -/
theorem Trimmed.offered (h : Trimmed s t) (k : Kind) {y : Station} {ks : List Kind} (hks : ∀ j ∈ ks, j ≠ .rdy)
    (hy : (t.unoweKind k).offered y ks) : s.offered y ks := by
  have hfull : ∀ j, (t.unoweKind k).classFull j ↔ s.classFull j := by
    intro j
    unfold Station.classFull Station.unoweKind Bus.claimSlots
    rw [h.bus]
  have howes : ∀ j ∈ ks, ((t.unoweKind k).owes j ↔ s.owes j) := fun j hj => h.owes (hks j hj)
  have hpassed : ∀ j ∈ ks, (t.unoweKind k).passedOver y j → s.passedOver y j := by
    intro j hj hpass
    unfold Station.passedOver at hpass ⊢
    rwa [hfull, howes j hj] at hpass
  have hsame : t.bus.posts = s.bus.posts := congrArg Bus.posts h.bus
  have hnext : t.bus.nextHandle = s.bus.nextHandle := congrArg Bus.nextHandle h.bus
  rcases hy with ⟨hposts, hall⟩ | ⟨p, before, after, hsplit, hposts, hhandle, hpending, hkey, hnotFull, hp, hnotice, hafter, hbefore⟩
  · exact .inl ⟨hposts.trans hsame, fun j hj => hpassed j hj (hall j hj)⟩
  · have hmem : p.kind ∈ ks := by simp [hsplit]
    refine .inr ⟨p, before, after, hsplit, hsame ▸ hposts,
      hhandle.trans hnext, hpending, hkey.trans ?_, fun hf => hnotFull ((hfull _).mpr hf),
      (howes _ hmem).mp hp, (h.oldestNotice (hks _ hmem)).mp hnotice, hafter, fun j hj => hpassed j ?_ (hbefore j hj)⟩
    · exact congrArg (fun c : Config => BitVec.ofNat 20 c.station) h.cfg
    · rw [hsplit]
      exact List.mem_append_left _ hj

theorem mem_unoweKind {j k : Kind} : j ∈ (s.unoweKind k).bus.owed ↔ j ∈ s.bus.owed ∧ j ≠ k := by
  simp [Station.unoweKind]

/-- The slot is filled, and every other kind stays owed as it was (R90). -/
theorem posted_keeps {k : Kind} {r : Filled} {p : Post} (hbus : r.station.bus = s.bus.withPost p) :
    (if r.more = true then r.station else r.station.unoweKind k).bus.posts = s.bus.posts ++ [p]
      ∧ ∀ j, j ≠ k → (j ∈ (if r.more = true then r.station else r.station.unoweKind k).bus.owed ↔ j ∈ s.bus.owed) := by
  split
  · rw [hbus]
    exact ⟨rfl, fun _ _ => .rfl⟩
  · refine ⟨(congrArg Bus.posts hbus :), fun j hj => ?_⟩
    rw [mem_unoweKind, hbus]
    exact and_iff_left hj

/-- What the offers of a freed slot do (R90): the kinds not in the list stay owed as they were, and those in it are passed
over until one is taken. -/
theorem offerKinds_offered (ks : List Kind) (hnodup : ks.Nodup) (hin : ∀ k ∈ ks, k ∈ s.bus.owed) :
    (∀ k, k ∉ ks → (k ∈ (offerKinds s ks).bus.owed ↔ k ∈ s.bus.owed)) ∧ s.offered (offerKinds s ks) ks := by
  induction ks generalizing s with
  | nil => exact ⟨fun _ _ => .rfl, .inl ⟨rfl, nofun⟩⟩
  | cons k ks ih =>
    obtain ⟨hk, hnodup'⟩ := List.nodup_cons.mp hnodup
    obtain ⟨hkin, hin'⟩ := List.forall_mem_cons.mp hin
    unfold offerKinds
    dsimp only
    by_cases hfull : (k.claimClass && decide (8 ≤ s.bus.claimSlots)) = true
    · rw [if_pos hfull]
      obtain ⟨hout, hoffered⟩ := ih hnodup' hin'
      have hclass : s.classFull k := by simpa [Station.classFull] using hfull
      exact ⟨fun j hj => hout j (fun hmem => hj (List.mem_cons_of_mem k hmem)),
        offered_cons (.inl ⟨hclass, (hout k hk).mpr hkin⟩) hoffered⟩
    · rw [if_neg hfull]
      have hclass : ¬ s.classFull k := by simpa [Station.classFull] using hfull
      cases fillOwed_answered s k with
      | posted payload hfilled howes hbus hnotice =>
        rw [if_pos hfilled]
        obtain ⟨hposts, hothers⟩ := posted_keeps (r := s.fillOwed k) hbus
        refine ⟨fun j hj => hothers j (fun h => hj (h ▸ List.mem_cons_self ..)),
          .inr ⟨s.newPost k payload, [], ks, rfl, hposts, rfl, rfl, rfl, hclass, howes, hnotice, fun j hj => ?_, nofun⟩⟩
        exact (hothers j (fun h => hk (h ▸ hj))).mpr (hin' j hj)
      | declined hfilled howes htrimmed hsame =>
        rw [if_neg (by simp [hfilled])]
        have howed : ∀ j, j ∈ ((s.fillOwed k).station.unoweKind k).bus.owed ↔ j ∈ s.bus.owed ∧ j ≠ k := fun j => by
          rw [mem_unoweKind, htrimmed.bus]
        obtain ⟨hout, hoffered⟩ := ih (s := (s.fillOwed k).station.unoweKind k) hnodup'
          (fun j hj => (howed j).mpr ⟨hin' j hj, fun h => hk (h ▸ hj)⟩)
        refine ⟨fun j hj => ?_, offered_cons (.inr ⟨howes, fun h => ?_⟩) ?_⟩
        · rw [hout j (fun hmem => hj (List.mem_cons_of_mem k hmem)), howed]
          exact and_iff_left (fun h => hj (h ▸ List.mem_cons_self ..))
        · exact ((howed k).mp ((hout k hk).mp h)).2 rfl
        · by_cases hrdy : k = .rdy
          · exact htrimmed.offered k (fun j hj h => hk (hrdy.trans h.symm ▸ hj)) hoffered
          · rw [hsame hrdy] at hoffered ⊢
            exact hoffered

/-- The offer to the whole owed set. -/
theorem offerSlot_offered (hfree : s.bus.posts.length < 12) (hnodup : s.bus.owed.Nodup) :
    s.offered s.offerSlot s.bus.owed := by
  unfold Station.offerSlot
  rw [if_pos hfree]
  exact (offerKinds_offered _ hnodup (fun _ => id)).2

end

end Sys2Proof.Machine
end

section
/-! ### The posts that follow a SENT report (R103, R183, R184) -/

namespace Sys2Proof.Machine

/-! #### A fresh post -/

/-- A station that can owe a notice (R89): joined, and not WITHDRAWN. -/
def Bus.CanOwe (b : Bus) : Prop := b.joined = true ∧ b.standing ≠ .withdrawn

section
variable {s t u : Station}

/-- A fresh post is made, or its kind becomes owed (R89). -/
theorem post_cases (s : Station) (k : Kind) (payload : List Byte) :
    (s.post k payload = (some s.bus.nextHandle, s.addPost k s.ownKey payload) ∧ k ∉ s.bus.owed)
      ∨ s.post k payload = (none, s.oweKind k) := by
  unfold Station.post
  split
  · rename_i h
    exact .inl ⟨rfl, by simpa using (Bool.and_eq_true_iff.mp h).2⟩
  · exact .inr rfl

theorem post_of_room {k : Kind} {payload : List Byte} (hj : s.bus.CanOwe) (hposts : s.bus.posts.length < 12)
    (hclass : k.claimClass = true → s.bus.claimSlots < 8) (howed : s.bus.owed = []) :
    s.post k payload = (some s.bus.nextHandle, s.addPost k s.ownKey payload) := by
  obtain ⟨hjoined, hw⟩ := hj
  unfold Station.post
  rw [if_pos]
  cases hk : k.claimClass <;> simp_all [Bus.accepts]

theorem oweKind_of_canOwe {k : Kind} (hj : s.bus.CanOwe) :
    s.oweKind k = { s with bus := { s.bus with owed := addKind k s.bus.owed } } := by
  obtain ⟨hjoined, hw⟩ := hj
  unfold Station.oweKind
  rw [if_neg (by simp [hjoined, hw])]

theorem mem_oweKind {k : Kind} (hj : s.bus.CanOwe) : k ∈ (s.oweKind k).bus.owed := by
  rw [oweKind_of_canOwe hj]
  exact mem_addKind.mpr (.inl rfl)

theorem canOwe_of_line {b c : Bus} (h : c.line = b.line) (hb : b.CanOwe) : c.CanOwe := by
  obtain ⟨hjoined, hw⟩ := hb
  exact ⟨(congrArg Bus.joined h).trans hjoined, fun hc => hw ((congrArg Bus.standing h).symm.trans hc)⟩

theorem holdsPost_addPost (s : Station) (k : Kind) (payload : List Byte) :
    (s.addPost k s.ownKey payload).bus.holdsPost s.bus.nextHandle k payload :=
  ⟨_, List.mem_append_right _ (List.mem_singleton_self _), rfl, rfl, rfl, rfl⟩

/-- `t` is `s` but for the Bus Interface and the Audit Unit. -/
def OnlyBusAdu (s t : Station) : Prop := t = { s with bus := t.bus, adu := t.adu }

theorem OnlyBusAdu.trans (h : OnlyBusAdu s t) (h' : OnlyBusAdu t u) : OnlyBusAdu s u := by
  unfold OnlyBusAdu at h h' ⊢
  rw [h', h]

theorem oweKind_onlyBusAdu (s : Station) (k : Kind) : OnlyBusAdu s (s.oweKind k) := by
  unfold Station.oweKind
  split <;> rfl

/-! #### The SANs of an answer -/

/-- The SAN of the snapshot's entry of this index (R183). -/
def Snapshot.sanOf (sn : Snapshot) (i : Nat) (e : SnapEntry) : List Byte :=
  sanPayload i (decide (i + 1 = sn.entries.length)) e

/-- The snapshot after `n` more SANs have been posted. -/
def Snapshot.posted (sn : Snapshot) (n : Nat) : Snapshot :=
  { sn with nextToPost := sn.nextToPost + n, inTable := sn.inTable + n }

/-- `t` is `s` once `n` SANs of the snapshot have been posted, with no more to come at once (R183): as many as were asked
for, the end of the answer, 4 in the table, or SAN owed. -/
structure AnswersPosted (s t : Station) (sn : Snapshot) (fuel n : Nat) : Prop where
  few : n ≤ fuel
  only : OnlyBusAdu s t
  pending : t.adu = { s.adu with snapshot := some (sn.posted n) }
  grown : s.bus.Grown t.bus
  posts : ∀ i e, i < n → sn.entries[sn.nextToPost + i]? = some e →
    ∃ h, t.bus.holdsPost h .san (sn.sanOf (sn.nextToPost + i) e)
  inside : 0 < n → sn.nextToPost + n ≤ sn.entries.length ∧ sn.inTable < 4 ∧ .san ∉ s.bus.owed
  done : n = fuel ∨ sn.entries.length ≤ sn.nextToPost + n ∨ 4 ≤ sn.inTable + n ∨ .san ∈ t.bus.owed

theorem answersPosted_none {sn : Snapshot} {fuel : Nat} (hsn : s.adu.snapshot = some sn) (h : s.bus.Grown t.bus)
    (honly : OnlyBusAdu s t) (hadu : t.adu = s.adu)
    (hdone : 0 = fuel ∨ sn.entries.length ≤ sn.nextToPost ∨ 4 ≤ sn.inTable ∨ .san ∈ t.bus.owed) :
    AnswersPosted s t sn fuel 0 := by
  refine ⟨Nat.zero_le _, honly, hadu.trans ?_, h, nofun, nofun, hdone⟩
  rw [show some (sn.posted 0) = s.adu.snapshot from hsn.symm]

theorem posted_posted (sn : Snapshot) (n : Nat) : (sn.posted 1).posted n = sn.posted (n + 1) := by
  unfold Snapshot.posted
  simp only [Snapshot.mk.injEq, true_and]
  omega

/-- The station with the next SAN posted and counted. -/
def Station.withAnswer (s : Station) (sn : Snapshot) (e : SnapEntry) : Station :=
  { s.addPost .san s.ownKey (sn.sanOf sn.nextToPost e) with adu := { s.adu with snapshot := some (sn.posted 1) } }

theorem AnswersPosted.cons {sn : Snapshot} {e : SnapEntry} {fuel n : Nat}
    (h : AnswersPosted (s.withAnswer sn e) t (sn.posted 1) fuel n) (hlt : sn.nextToPost < sn.entries.length)
    (hroom : sn.inTable < 4) (howed : .san ∉ s.bus.owed) (he : sn.entries[sn.nextToPost]? = some e) :
    AnswersPosted s t sn (fuel + 1) (n + 1) where
  few := Nat.succ_le_succ h.few
  only := OnlyBusAdu.trans (t := s.withAnswer sn e) rfl h.only
  pending := by
    rw [h.pending, posted_posted]
    rfl
  grown := ((Bus.Grown.refl s.bus).addPost .san s.ownKey (sn.sanOf sn.nextToPost e)).trans h.grown
  posts i d hi hd := by
    cases i with
    | zero =>
      cases he.symm.trans hd
      exact ⟨_, h.grown.holdsPost (holdsPost_addPost s .san (sn.sanOf sn.nextToPost e))⟩
    | succ i =>
      have hindex : sn.nextToPost + (i + 1) = (sn.posted 1).nextToPost + i := by
        rw [Snapshot.posted, Nat.add_assoc, Nat.add_comm 1 i]
      rw [hindex] at hd ⊢
      exact h.posts i d (Nat.lt_of_succ_lt_succ hi) hd
  inside _ := by
    refine ⟨?_, hroom, howed⟩
    rcases Nat.eq_zero_or_pos n with hn | hn
    · omega
    · have hin := (h.inside hn).1
      simp only [Snapshot.posted] at hin
      omega
  done := by
    have hdone := h.done
    simp only [Snapshot.posted] at hdone
    rcases hdone with hn | hlen | hfull | hsan
    · exact .inl (by omega)
    · exact .inr (.inl (by omega))
    · exact .inr (.inr (.inl (by omega)))
    · exact .inr (.inr (.inr hsan))

theorem postAnswers_posted (fuel : Nat) {sn : Snapshot} (hsn : s.adu.snapshot = some sn) (hj : s.bus.CanOwe) :
    ∃ n, AnswersPosted s (s.postAnswers fuel) sn fuel n := by
  induction fuel generalizing s sn with
  | zero => exact ⟨0, answersPosted_none hsn (.refl _) rfl rfl (.inl rfl)⟩
  | succ fuel ih =>
    unfold Station.postAnswers
    rw [hsn]
    dsimp only
    cases he : sn.entries[sn.nextToPost]? with
    | none => exact ⟨0, answersPosted_none hsn (.refl _) rfl rfl (.inr (.inl (List.getElem?_eq_none_iff.mp he)))⟩
    | some e =>
      dsimp only
      split
      · rename_i hfull
        exact ⟨0, answersPosted_none hsn (.refl _) rfl rfl (.inr (.inr (.inl hfull)))⟩
      · rename_i hroom
        obtain ⟨hlt, -⟩ := List.getElem?_eq_some_iff.mp he
        rcases post_cases s .san (sanPayload sn.nextToPost (sn.nextToPost + 1 == sn.entries.length) e) with
          ⟨hpost, howed⟩ | hpost
        · rw [hpost]
          dsimp only
          have hgrown : s.bus.Grown (s.withAnswer sn e).bus := (Bus.Grown.refl s.bus).addPost _ _ _
          obtain ⟨n, hn⟩ := ih (s := s.withAnswer sn e) (sn := sn.posted 1) rfl (canOwe_of_line hgrown.line hj)
          exact ⟨n + 1, hn.cons hlt (Nat.lt_of_not_le hroom) howed he⟩
        · rw [hpost]
          refine ⟨0, answersPosted_none hsn ((Bus.Grown.refl _).oweKind _) (oweKind_onlyBusAdu _ _) ?_
            (.inr (.inr (.inr (mem_oweKind hj))))⟩
          rw [oweKind_of_canOwe hj]

theorem claimSlots_addPost (s : Station) (k : Kind) (key : Key) (payload : List Byte) :
    (s.addPost k key payload).bus.claimSlots ≤ s.bus.claimSlots + 1 := by
  unfold Bus.claimSlots Station.addPost
  rw [List.filter_append, List.length_append]
  exact Nat.add_le_add_left (List.length_filter_le _ _) _

/-- With room for all of them no SAN is refused (R183). -/
theorem postAnswers_owed (fuel : Nat) (hj : s.bus.CanOwe) (howed : s.bus.owed = [])
    (hposts : s.bus.posts.length + fuel ≤ 12) (hclass : s.bus.claimSlots + fuel ≤ 8) :
    (s.postAnswers fuel).bus.owed = [] := by
  induction fuel generalizing s with
  | zero => exact howed
  | succ fuel ih =>
    have hpost := fun payload => post_of_room (s := s) (k := .san) (payload := payload) hj (by omega) (fun _ => by omega) howed
    unfold Station.postAnswers
    split
    · exact howed
    · split
      · exact howed
      · split
        · exact howed
        · rw [hpost]
          refine ih hj howed ?_ ?_
          · simp only [Station.addPost, List.length_append, List.length_singleton]
            omega
          · exact Nat.le_trans (Nat.add_le_add_right (claimSlots_addPost _ _ _ _) fuel) (by omega)

end

end Sys2Proof.Machine
end

section
/-! ### A frame sent (R63, R67, R88, R90, R103, R183, R184) -/

namespace Sys2Proof.Machine

/-! #### The Bus Interface later in the same event -/

/-- `c` is `b` later: its posts still stand, and no slot that was free holds its old post again. -/
structure Bus.Later (b c : Bus) : Prop where
  posts : ∀ p ∈ b.posts, p ∈ c.posts
  handles : b.nextHandle ≤ c.nextHandle
  free : ∀ h < b.nextHandle, b.slotFree h → c.slotFree h

section
variable {b c d : Bus}

@[refl] theorem Bus.Later.refl (b : Bus) : b.Later b := ⟨fun _ => id, le_rfl, fun _ _ => id⟩

theorem Bus.Later.trans (h : b.Later c) (h' : c.Later d) : b.Later d :=
  ⟨fun p hp => h'.posts p (h.posts p hp), h.handles.trans h'.handles,
    fun n hn hf => h'.free n (hn.trans_le h.handles) (h.free n hn hf)⟩

theorem Bus.Grown.later (h : b.Grown c) : b.Later c := ⟨fun _ => h.mem, h.handles, h.carried.free⟩

theorem Bus.Later.holdsPost (h : b.Later c) {n : Nat} {k : Kind} {payload : List Byte} (hp : b.holdsPost n k payload) :
    c.holdsPost n k payload := by
  obtain ⟨p, hmem, hpost⟩ := hp
  exact ⟨p, h.posts p hmem, hpost⟩

end

section
variable {s t : Station}

theorem unoweKind_later (s : Station) (k : Kind) : s.bus.Later (s.unoweKind k).bus := ⟨fun _ => id, le_rfl, fun _ _ => id⟩

theorem offerKinds_later (s : Station) (ks : List Kind) : s.bus.Later (offerKinds s ks).bus := by
  induction ks generalizing s with
  | nil => exact .refl _
  | cons k ks ih =>
    have hfill := (fillOwed_grown s k).later
    unfold offerKinds
    dsimp only
    split
    · exact ih s
    · split
      · split
        · exact hfill
        · exact hfill.trans (unoweKind_later _ k)
      · exact (hfill.trans (unoweKind_later _ k)).trans (ih _)

theorem offerSlot_later (s : Station) : s.bus.Later s.offerSlot.bus := by
  unfold Station.offerSlot
  split
  · exact offerKinds_later _ _
  · exact .refl _

/-! #### The snapshot through an offer -/

/-- The answer has no SAN to post now (R183). -/
def Snapshot.idle (sn : Snapshot) : Prop := sn.entries.length ≤ sn.nextToPost ∨ 4 ≤ sn.inTable

theorem fillOwed_snapshot (s : Station) {k : Kind} (hk : k ≠ .san) : (s.fillOwed k).station.adu.snapshot = s.adu.snapshot := by
  have htrim := trimmed_trimOwedReadies s s.cnu.owedReadies
  cases k with
  | abn => simp only [Station.fillOwed, Station.fillAbn]; split <;> rfl
  | rdy =>
    unfold Station.fillOwed Station.fillRdy
    dsimp only
    split
    · exact congrArg Adu.snapshot htrim.adu
    · split <;> exact congrArg Adu.snapshot htrim.adu
  | cls => simp only [Station.fillOwed, Station.fillCls]; split <;> rfl
  | arp => simp only [Station.fillOwed, Station.fillArp]; split <;> rfl
  | sts => simp only [Station.fillOwed, Station.fillSts]; split <;> rfl
  | san => exact absurd rfl hk
  | clm | opn | lof | pof | cct | sct | arq | sqy => rfl

/-- The Audit Unit's answer to an offer (R183). -/
theorem fillSan_cases (s : Station) :
    (s.fillSan = declined s ∧ ∀ sn, s.adu.snapshot = some sn → sn.idle)
      ∨ ∃ sn e, s.adu.snapshot = some sn ∧ sn.entries[sn.nextToPost]? = some e ∧ sn.inTable < 4
        ∧ s.fillSan = { filled := true, more := !(sn.nextToPost + 1 == sn.entries.length), station := s.withAnswer sn e } := by
  unfold Station.fillSan
  cases hsn : s.adu.snapshot with
  | none => exact .inl ⟨rfl, nofun⟩
  | some sn =>
    dsimp only
    cases he : sn.entries[sn.nextToPost]? with
    | none =>
      refine .inl ⟨rfl, fun sn' h => ?_⟩
      cases h
      exact .inl (List.getElem?_eq_none_iff.mp he)
    | some e =>
      dsimp only
      split
      · rename_i hfull
        refine .inl ⟨rfl, fun sn' h => ?_⟩
        cases h
        exact .inr hfull
      · rename_i hroom
        exact .inr ⟨sn, e, rfl, he, Nat.lt_of_not_le hroom, rfl⟩

/-- A SAN of the snapshot has taken a slot: the next one, counted, with SAN still owed while there is more (R183). -/
def Station.answered (t : Station) (sn : Snapshot) : Prop :=
  ∃ e, sn.entries[sn.nextToPost]? = some e ∧ sn.inTable < 4 ∧ t.adu.snapshot = some (sn.posted 1)
    ∧ (∃ h, t.bus.holdsPost h .san (sn.sanOf sn.nextToPost e))
    ∧ (sn.nextToPost + 1 = sn.entries.length ∨ .san ∈ t.bus.owed)

theorem offerKinds_snapshot (ks : List Kind)
    (hsan : .san ∈ ks → .san ∈ s.bus.owed ∨ ∀ sn, s.adu.snapshot = some sn → sn.idle) :
    (offerKinds s ks).adu.snapshot = s.adu.snapshot
      ∨ .san ∈ ks ∧ ∃ sn, s.adu.snapshot = some sn ∧ (offerKinds s ks).answered sn := by
  induction ks generalizing s with
  | nil => exact .inl rfl
  | cons k ks ih =>
    have htail : ∀ {y : Station}, (y.adu.snapshot = s.adu.snapshot
          ∨ .san ∈ ks ∧ ∃ sn, s.adu.snapshot = some sn ∧ y.answered sn) →
        (y.adu.snapshot = s.adu.snapshot ∨ .san ∈ k :: ks ∧ ∃ sn, s.adu.snapshot = some sn ∧ y.answered sn) :=
      fun h => h.imp_right (fun ⟨hmem, hsn⟩ => ⟨List.mem_cons_of_mem k hmem, hsn⟩)
    have hsan' : .san ∈ ks → .san ∈ s.bus.owed ∨ ∀ sn, s.adu.snapshot = some sn → sn.idle :=
      fun h => hsan (List.mem_cons_of_mem k h)
    unfold offerKinds
    dsimp only
    split
    · exact htail (ih hsan')
    · by_cases hk : k = .san
      · subst hk
        rw [show s.fillOwed .san = s.fillSan from rfl]
        rcases fillSan_cases s with ⟨hdeclined, hidle⟩ | ⟨sn, e, hsn, he, hroom, hfill⟩
        · rw [hdeclined]
          exact htail (ih (s := s.unoweKind .san) (fun _ => .inr hidle))
        · rw [hfill, if_pos rfl]
          have howed : .san ∈ s.bus.owed := by
            refine (hsan (List.mem_cons_self ..)).resolve_right (fun hidle => ?_)
            obtain ⟨hlt, -⟩ := List.getElem?_eq_some_iff.mp he
            rcases hidle sn hsn with h | h <;> omega
          refine .inr ⟨List.mem_cons_self .., sn, hsn, ?_⟩
          have hholds := holdsPost_addPost s .san (sn.sanOf sn.nextToPost e)
          dsimp only
          split
          · exact ⟨e, he, hroom, rfl, ⟨_, hholds⟩, .inr howed⟩
          · rename_i hmore
            exact ⟨e, he, hroom, rfl, ⟨_, hholds⟩, .inl (by simpa using hmore)⟩
      · have hkept := fillOwed_snapshot s hk
        split
        · refine .inl ?_
          split <;> exact hkept
        · have howed := (fillOwed_grown s k).owed
          have hrest := ih (s := (s.fillOwed k).station.unoweKind k) (fun hmem => (hsan' hmem).imp
            (fun h => mem_unoweKind.mpr ⟨howed _ h, fun h => hk h.symm⟩) (fun h sn hsn => h sn (hkept.symm.trans hsn)))
          rw [show ((s.fillOwed k).station.unoweKind k).adu.snapshot = s.adu.snapshot from hkept] at hrest
          exact htail hrest

theorem offerSlot_snapshot (s : Station) :
    s.offerSlot.adu.snapshot = s.adu.snapshot
      ∨ .san ∈ s.bus.owed ∧ ∃ sn, s.adu.snapshot = some sn ∧ s.offerSlot.answered sn := by
  unfold Station.offerSlot
  split
  · exact offerKinds_snapshot _ .inl
  · exact .inl rfl

/-- With ABN owed first, the oldest OPEN entry with an owed mark has its ABN (R161). -/
theorem offerSlot_abn {e : OrderEntry} {cause : Cause} (hfree : s.bus.posts.length < 12)
    (hhead : s.bus.owed.head? = some .abn)
    (he : s.cnu.orders.find? (fun e => e.abandonOwed.isSome && e.state = .opened) = some e)
    (hcause : e.abandonOwed = some cause) : ∃ h, s.offerSlot.bus.holdsPost h .abn (abnPayload e.order cause) := by
  obtain ⟨ks, howed⟩ : ∃ ks, s.bus.owed = .abn :: ks := by
    cases h : s.bus.owed with
    | nil => rw [h] at hhead; cases hhead
    | cons k ks =>
      rw [h] at hhead
      cases hhead
      exact ⟨ks, rfl⟩
  unfold Station.offerSlot
  rw [if_pos hfree, howed]
  unfold offerKinds
  dsimp only
  rw [if_neg (by simp [Kind.claimClass])]
  have hfill : s.fillOwed .abn = s.fillAbn := rfl
  have hposted : s.fillAbn.filled = true
      ∧ s.fillAbn.station.bus = s.bus.withPost (s.newPost .abn (abnPayload e.order cause)) := by
    unfold Station.fillAbn
    rw [he]
    dsimp only
    rw [hcause]
    exact ⟨rfl, rfl⟩
  rw [hfill, if_pos hposted.1]
  obtain ⟨hposts, -⟩ := posted_keeps (r := s.fillAbn) (k := .abn) hposted.2
  refine ⟨s.bus.nextHandle, s.newPost .abn (abnPayload e.order cause), ?_, rfl, rfl, rfl, rfl⟩
  rw [hposts]
  exact List.mem_append_right _ (List.mem_singleton_self _)

end

end Sys2Proof.Machine
end

section
/-! ### FRAME_COMPLETED at the transmitter (R62, R63, R67, R69, R88, R90, R103, R183, R184) -/

namespace Sys2Proof.Machine

/-! #### What a frame sent leaves alone -/

/-- The view without the Bus Interface and the parts that a frame sent can change. -/
def View.beside (v : View) : View :=
  { v with
    bus := Bus.atStart, records := [], notes := [], orders := [], owedReports := [], snapshot := none, pendingQuery := none }

theorem eq_of_beside {v w : View} (h : w.beside = v.beside) : w = { v with
    bus := w.bus, records := w.records, notes := w.notes, orders := w.orders, owedReports := w.owedReports
    snapshot := w.snapshot, pendingQuery := w.pendingQuery } := by
  rcases v with ⟨⟩
  rcases w with ⟨⟩
  simp only [View.beside, View.mk.injEq] at h ⊢
  tauto

theorem beside_of_steady {s t : Station} (h : t.steady = s.steady) : t.view.beside = s.view.beside := by
  have hbeside : ∀ u : Station, u.view.beside = { u.steady.rest with
      bus := Bus.atStart, stock := u.steady.smap.carriers.map Carrier.stock, infeed := u.steady.fct.infeed
      pendingQuery := none } := fun _ => rfl
  rw [hbeside, hbeside, h]

theorem beside_of_onlyBusAdu {s t : Station} (h : OnlyBusAdu s t) (hp : t.adu.pointer = s.adu.pointer) :
    t.view.beside = s.view.beside := by
  unfold OnlyBusAdu at h
  rw [h]
  simp only [Station.view, View.beside, hp]

/-! #### The STS of a change of standing -/

/-- `t` is `s` with at most an STS posted or owed. -/
structure Notified (s t : Station) : Prop where
  only : t = { s with bus := t.bus, stc := t.stc }
  view : t.view = s.view
  grown : s.bus.Grown t.bus
  room : s.bus.owed = [] → s.bus.posts.length < 12 →
    t.bus.owed = [] ∧ t.bus.posts.length ≤ s.bus.posts.length + 1 ∧ t.bus.claimSlots ≤ s.bus.claimSlots

section
variable {s t u : Station}

theorem Notified.refl (s : Station) : Notified s s := ⟨rfl, rfl, .refl _, fun h _ => ⟨h, Nat.le_succ _, le_rfl⟩⟩

theorem statusTrigger_notified (s : Station) : Notified s s.statusTrigger := by
  refine ⟨?_, statusTrigger_view s, (Bus.Grown.refl _).statusTrigger, fun howed hposts => ?_⟩
  · unfold Station.statusTrigger
    split
    · rfl
    · rcases post_cases s .sts (stsPayload s.statusFields) with ⟨hpost, -⟩ | hpost
      · rw [hpost]
        rfl
      · rw [hpost]
        unfold Station.oweKind
        dsimp only
        split <;> rfl
  · unfold Station.statusTrigger
    split
    · exact ⟨howed, Nat.le_succ _, le_rfl⟩
    · rename_i hguard
      have hj : s.bus.CanOwe := by
        simp only [Bool.or_eq_true, Bool.not_eq_true', decide_eq_true_eq, not_or] at hguard
        exact ⟨by simpa using hguard.1.1.1, hguard.1.1.2⟩
      rw [post_of_room hj hposts (by simp [Kind.claimClass]) howed]
      refine ⟨howed, by simp [Station.addPost], ?_⟩
      simp [Bus.claimSlots, Station.addPost, List.filter_append, Kind.claimClass]

/-- A change of the counters that does not enter QUIET brings at most an STS (R68, R195). -/
theorem setCounters_notified {n r : Nat} (ht : n ≤ 255) (h : standingOf n r = .quiet → s.bus.standing = .quiet) :
    Notified (s.counted n r) (s.setCounters n r) := by
  by_cases hsame : standingOf n r = s.bus.standing
  · rw [setCounters_of_same ht hsame]
    exact .refl _
  · have hquiet : (s.counted n r).bus.standing ≠ .quiet := fun hq => hsame (hq.trans (h hq).symm)
    rw [setCounters_of_changed ht hsame, Station.standingChanged, if_neg hquiet]
    exact statusTrigger_notified _

end

/-! #### The stages of a frame sent -/

/-- The frame in the queue and its slot free, before the owner is told (R63). -/
def Station.finished (x : Station) (p : Post) : Station := (x.freeSlot p.handle).appendFrame p.frame .transmitter

/-- The Bus Interface once the success is counted, but for posts and owed kinds (R63, R67, R69). -/
def Bus.sentBy (b : Bus) (p : Post) : Bus :=
  { b with
    tec := b.tec - 1, standing := standingOf (b.tec - 1) b.recCtr, rxq := b.rxq ++ [p.frame], sending := none
    errorWait := none, skip := if standingOf (b.tec - 1) b.recCtr = .quiet then 8 else 0, delayCount := 0
    gap := .afterFrame, acked := false, drive := [] }

section
variable {x : Station} {p : Post}

theorem noteSent_bus (s : Station) (p : Post) : (s.noteSent p).bus = s.bus := by
  unfold Station.noteSent
  split
  · split <;> rfl
  all_goals rfl

theorem noteSent_smap (s : Station) (p : Post) : (s.noteSent p).smap = s.smap := by
  unfold Station.noteSent
  split
  · split <;> rfl
  all_goals rfl

theorem noteSent_beside (s : Station) (p : Post) : (s.noteSent p).view.beside = s.view.beside := by
  unfold Station.noteSent
  split
  · split <;> rfl
  · rfl
  · have hgroups : ∀ f : Group → Group, (∀ g, (f g).kept = g.kept) →
        ({ s with cnu := { s.cnu with groups := s.cnu.groups.map f } } : Station).view.beside = s.view.beside := by
      intro f hf
      simp only [Station.view, View.beside, map_map_of_eq Group.kept f hf]
    exact hgroups _ (fun _ => rfl)
  all_goals rfl

/-- The station when all but the posts that follow the SENT report is done: `e` is the transmitter after the offer of the
freed slot and the count of the success (log entry 42). -/
structure SentSoFar (x : Station) (p : Post) (e : Station) : Prop where
  after : x.sentCompleted p = e.afterSent p
  clu : e.clu = ((x.finished p).noteSent p).offerSlot.clu
  cnu : e.cnu = ((x.finished p).noteSent p).offerSlot.cnu
  adu : e.adu = ((x.finished p).noteSent p).offerSlot.adu
  smap : e.smap = x.smap
  later : ((x.finished p).noteSent p).offerSlot.bus.Later e.bus
  owed : ∀ k ∈ ((x.finished p).noteSent p).offerSlot.bus.owed, k ∈ e.bus.owed
  line : e.bus.line = (x.bus.sentBy p).line
  beside : e.view.beside = x.view.beside
  room : x.bus.owed = [] → (x.finished p).bus.posts.length < 12 →
    e.bus.owed = [] ∧ e.bus.posts.length ≤ (x.finished p).bus.posts.length + 1
      ∧ e.bus.claimSlots ≤ (x.finished p).bus.claimSlots

theorem sentSoFar (hw : x.bus.standing ≠ .withdrawn) (hsound : x.bus.Sound) (p : Post) : ∃ e, SentSoFar x p e := by
  have hst := standing_of_sound hsound hw
  have ht : x.bus.tec ≤ 255 := Nat.le_of_not_lt (fun h => hw (hst.trans ((standingOf_withdrawn_iff _ _).mpr h)))
  obtain ⟨b, hb⟩ : ∃ b, b = (x.finished p).noteSent p := ⟨_, rfl⟩
  have hbbus : b.bus = (x.finished p).bus := by rw [hb, noteSent_bus]
  have hoffer : b.offerSlot.bus.line = (x.finished p).bus.line := by
    rw [← hbbus]
    exact (Bus.Carried.refl b.bus).offerSlot.line
  have htec : b.offerSlot.bus.tec = x.bus.tec := (congrArg Bus.tec hoffer :)
  have hrec : b.offerSlot.bus.recCtr = x.bus.recCtr := (congrArg Bus.recCtr hoffer :)
  have hold : b.offerSlot.bus.standing = x.bus.standing := (congrArg Bus.standing hoffer :)
  have hcount : b.offerSlot.countSuccess .transmitter = b.offerSlot.setCounters (x.bus.tec - 1) x.bus.recCtr := by
    rw [Station.countSuccess, htec, hrec]
  have hnotified : Notified (b.offerSlot.counted (x.bus.tec - 1) x.bus.recCtr)
      (b.offerSlot.setCounters (x.bus.tec - 1) x.bus.recCtr) := by
    refine setCounters_notified (by omega) (fun hquiet => ?_)
    obtain ⟨hhigh, -⟩ := (standingOf_quiet_iff _ _).mp hquiet
    rw [hold, hst]
    exact (standingOf_quiet_iff _ _).mpr ⟨hhigh.imp_left (fun h => by omega), ht⟩
  obtain ⟨d, hd⟩ : ∃ d, d = b.offerSlot.setCounters (x.bus.tec - 1) x.bus.recCtr := ⟨_, rfl⟩
  rw [← hd] at hnotified
  have hline : d.bus.line = (x.finished p).bus.line.counted (x.bus.tec - 1) x.bus.recCtr :=
    hnotified.grown.line.trans (congrArg (fun c : Bus => c.counted (x.bus.tec - 1) x.bus.recCtr) hoffer)
  have honly := hnotified.only
  have hclu : d.clu = b.offerSlot.clu := (congrArg Station.clu honly :)
  have hcnu : d.cnu = b.offerSlot.cnu := (congrArg Station.cnu honly :)
  have hadu : d.adu = b.offerSlot.adu := (congrArg Station.adu honly :)
  have hsmap : d.smap = b.offerSlot.smap := (congrArg Station.smap honly :)
  have hlater := hnotified.grown.later
  subst hb
  refine ⟨{ d with bus := { d.bus with skip := d.bus.standing.skipped } }, ?_, hclu, hcnu, hadu, hsmap.trans ?_,
    ⟨hlater.posts, hlater.handles, hlater.free⟩, hnotified.grown.owed, ?_, ?_, fun howed hposts => ?_⟩
  · rw [hd, ← hcount]
    rfl
  · exact ((congrArg Steady.smap (offerSlot_steady _) :)).trans (noteSent_smap _ p)
  · exact congrArg (fun c : Bus => ({ c with skip := c.standing.skipped } : Bus)) hline
  · exact (congrArg View.beside hnotified.view).trans
      ((beside_of_steady (offerSlot_steady _)).trans (noteSent_beside (x.finished p) p))
  · have hsame : ((x.finished p).noteSent p).offerSlot.bus = (x.finished p).bus := by
      rw [offerSlot_of_none_owed (by rw [hbbus]; exact howed), hbbus]
    rw [← hsame] at hposts ⊢
    exact hnotified.room ((congrArg Bus.owed hsame).trans howed) hposts

end

end Sys2Proof.Machine
end

section
/-! ### What SENT brings (R88, R90, R103, R161, R183, R184) -/

namespace Sys2Proof.Machine

section
variable {s t : Station} {x e y : Station} {p : Post}

/-! #### The owner told -/

theorem noteSent_of_claim {r : LineRec} (hk : p.kind = .clm) (hr : s.claimHolder p.handle = some r) :
    s.noteSent p = s.updBid r.serial (fun b => { b with sent := true }) := by
  unfold Station.noteSent
  rw [hk]
  dsimp only
  rw [hr]

/-- The records and the order entries but for their notices. -/
def Station.tables (s : Station) : List (Nat × RoundId × Nat × Nat × (Nat × Nat × Nat)) × List OrderEntry :=
  (s.clu.records.map LineRec.core, s.cnu.orders.map OrderEntry.kept)

theorem tables_of_steady (h : t.steady = s.steady) : t.tables = s.tables := Prod.ext (cores_of_steady h) (kept_of_steady h)

theorem tables_of_onlyBusAdu (h : OnlyBusAdu s t) : t.tables = s.tables := by
  unfold OnlyBusAdu at h
  rw [h]
  rfl

theorem noteSent_tables (s : Station) (p : Post) : (s.noteSent p).tables = s.tables := by
  unfold Station.noteSent
  split
  · split
    · exact Prod.ext (map_map_of_eq _ _ (fun k => by split <;> rfl) _) rfl
    · rfl
  · rfl
  · rfl
  · refine Prod.ext rfl (map_map_of_eq OrderEntry.kept _ (fun e => ?_) _)
    rfl
  all_goals rfl

theorem noteSent_snapshot (s : Station) (p : Post) : (s.noteSent p).adu.snapshot =
    if p.kind = .san then s.adu.snapshot.map (fun (sn : Snapshot) => { sn with inTable := sn.inTable - 1 })
    else s.adu.snapshot := by
  unfold Station.noteSent
  split
  case h_1 h => rw [if_neg (by simp [h])]; split <;> rfl
  case h_5 h => rw [if_pos h]; rfl
  all_goals
    rename_i h
    rw [if_neg (by simp [h])]

theorem noteSent_pending (s : Station) (p : Post) : (s.noteSent p).adu.pendingQuery = s.adu.pendingQuery := by
  unfold Station.noteSent
  split
  · split <;> rfl
  all_goals rfl

/-! #### The posts after it -/

theorem postClose_adu (s : Station) (r : LineRec) : (s.postClose r).adu = s.adu := by
  unfold Station.postClose
  rcases post_cases s .cls (clsPayload r.round (r.winningKey % 64) r.winningKey) with ⟨hpost, -⟩ | hpost
  · rw [hpost]
    rfl
  · rw [hpost]
    unfold Station.oweKind
    dsimp only
    split <;> rfl

theorem postClose_grown (s : Station) (r : LineRec) : s.bus.Grown (s.postClose r).bus := by
  unfold Station.postClose
  split
  · rename_i hpost
    exact ((Bus.Grown.refl s.bus).post_of_eq hpost :)
  · rename_i hpost
    exact ((Bus.Grown.refl s.bus).post_of_eq hpost :)

/-- What the posts after a SENT report leave alone. -/
structure SentAfter (s t : Station) : Prop where
  beside : t.view.beside = s.view.beside
  tables : t.tables = s.tables
  grown : s.bus.Grown t.bus

theorem SentAfter.of_answers {sn : Snapshot} {fuel n : Nat} (h : AnswersPosted s t sn fuel n) : SentAfter s t :=
  ⟨beside_of_onlyBusAdu h.only ((congrArg Adu.pointer h.pending :)), tables_of_onlyBusAdu h.only, h.grown⟩

theorem afterAnswer_sentAfter (hj : s.bus.CanOwe) (last : Bool) : SentAfter s (s.afterAnswer last) := by
  unfold Station.afterAnswer
  split
  · split
    · exact ⟨rfl, rfl, .refl _⟩
    · rename_i article _
      obtain ⟨n, hn⟩ := postAnswers_posted 4 (s := { s with adu := { s.adu with
        snapshot := some { entries := s.capture article, nextToPost := 0, inTable := 0 }, pendingQuery := none } }) rfl hj
      have hafter := SentAfter.of_answers hn
      exact ⟨hafter.beside, hafter.tables, hafter.grown⟩
  · cases hsn : s.adu.snapshot with
    | none =>
      have hsame : s.postAnswers 1 = s := by
        unfold Station.postAnswers
        rw [hsn]
      rw [hsame]
      exact ⟨rfl, rfl, .refl _⟩
    | some sn =>
      obtain ⟨n, hn⟩ := postAnswers_posted 1 hsn hj
      exact .of_answers hn

theorem afterSent_sentAfter (hj : s.bus.CanOwe) (p : Post) : SentAfter s (s.afterSent p) := by
  have hsame : SentAfter s s := ⟨rfl, rfl, .refl _⟩
  unfold Station.afterSent
  split
  · split
    · split
      · exact ⟨beside_of_steady (postClose_steady _ _), tables_of_steady (postClose_steady _ _), postClose_grown _ _⟩
      · exact hsame
    · exact hsame
  · exact afterAnswer_sentAfter hj _
  all_goals exact hsame

theorem afterSent_adu (hk : p.kind ≠ .san) : (s.afterSent p).adu = s.adu := by
  unfold Station.afterSent
  split
  · split
    · split
      · exact postClose_adu _ _
      · rfl
    · rfl
  · rename_i h
    exact absurd h hk
  all_goals rfl

/-! #### The station once all has been settled -/

/-- `y` is the station `f` once the event has been settled, in what the statements look at. -/
structure SettledFrom (f y : Station) : Prop where
  view : y.view = f.view
  grown : f.bus.Grown y.bus

theorem settledFrom_settle (f x : Station) : SettledFrom f (f.settle x) := ⟨settle_view f x, settle_grown f x⟩

theorem SettledFrom.snapshot {f y : Station} (h : SettledFrom f y) : y.adu.snapshot = f.adu.snapshot :=
  congrArg View.snapshot h.view

theorem SettledFrom.pendingQuery {f y : Station} (h : SettledFrom f y) : y.adu.pendingQuery = f.adu.pendingQuery :=
  congrArg View.pendingQuery h.view

theorem SentSoFar.canOwe (h : SentSoFar x p e) (hx : x.live) (hw : (x.bus.sentBy p).standing ≠ .withdrawn) :
    e.bus.CanOwe := by
  obtain ⟨-, hjoined⟩ := hx
  exact canOwe_of_line h.line ⟨hjoined, hw⟩

theorem SentSoFar.tables (h : SentSoFar x p e) : e.tables = x.tables := by
  have hoffer := (tables_of_steady (offerSlot_steady ((x.finished p).noteSent p))).trans (noteSent_tables (x.finished p) p)
  unfold Station.tables at hoffer ⊢
  rw [h.clu, h.cnu]
  exact hoffer

/-- The snapshot once the report is noted (R183). -/
def Station.snapshotLeft (x : Station) (p : Post) : Option Snapshot :=
  if p.kind = .san then x.adu.snapshot.map (fun (sn : Snapshot) => { sn with inTable := sn.inTable - 1 })
  else x.adu.snapshot

theorem SentSoFar.pendingQuery (h : SentSoFar x p e) : e.adu.pendingQuery = x.adu.pendingQuery := by
  have hoffer := congrArg (fun v => v.rest.pendingQuery) (offerSlot_steady ((x.finished p).noteSent p))
  rw [h.adu]
  exact (show _ = _ from hoffer).trans (noteSent_pending (x.finished p) p)

theorem Station.answered.later {t u : Station} {sn : Snapshot} (h : t.answered sn) (hadu : u.adu.snapshot = t.adu.snapshot)
    (hlater : t.bus.Later u.bus) (howed : ∀ k ∈ t.bus.owed, k ∈ u.bus.owed) : u.answered sn := by
  obtain ⟨d, hd, hroom, hsnapshot, ⟨n, hn⟩, hmore⟩ := h
  exact ⟨d, hd, hroom, hadu.trans hsnapshot, ⟨n, hlater.holdsPost hn⟩, hmore.imp_right (howed _)⟩

/-- The snapshot through the offer and the count (R90, R183). -/
theorem SentSoFar.snapshot (h : SentSoFar x p e) : e.adu.snapshot = x.snapshotLeft p
    ∨ .san ∈ x.bus.owed ∧ ∃ sn, x.snapshotLeft p = some sn ∧ e.answered sn := by
  have hnoted : ((x.finished p).noteSent p).adu.snapshot = x.snapshotLeft p := noteSent_snapshot (x.finished p) p
  have hbus : ((x.finished p).noteSent p).bus.owed = x.bus.owed :=
    (congrArg Bus.owed (noteSent_bus (x.finished p) p) :)
  rw [h.adu, ← hnoted, ← hbus]
  exact (offerSlot_snapshot ((x.finished p).noteSent p)).imp_right (fun ⟨howed, sn, hsn, ha⟩ =>
    ⟨howed, sn, hsn, ha.later (congrArg Adu.snapshot h.adu) h.later h.owed⟩)

/-- The answer as it goes on (R183): as it was left, with the reason where a SAN has been sent, or with its next SAN in the
table. -/
def Station.goesOn (x : Station) (p : Post) (y : Station) (sn : Snapshot) : Prop :=
  (y.adu.snapshot = some sn ∧ (p.kind = .san → sn.entries.length ≤ sn.nextToPost ∨ 4 ≤ sn.inTable ∨ Kind.san ∈ y.bus.owed))
    ∨ ((p.kind = .san ∨ Kind.san ∈ x.bus.owed) ∧ sn.inTable < 4 ∧ ∃ d h, sn.entries[sn.nextToPost]? = some d
      ∧ y.adu.snapshot = some (sn.posted 1) ∧ y.bus.holdsPost h .san (sn.sanOf sn.nextToPost d))

theorem goesOn_of_answered {sn : Snapshot} (hwhy : p.kind = .san ∨ Kind.san ∈ x.bus.owed) (h : y.answered sn) :
    x.goesOn p y sn := by
  obtain ⟨d, hd, hroom, hsnapshot, ⟨n, hn⟩, -⟩ := h
  exact .inr ⟨hwhy, hroom, d, n, hd, hsnapshot, hn⟩

theorem Station.goesOn.settled {f : Station} {sn : Snapshot} (h : x.goesOn p f sn) (hs : SettledFrom f y) :
    x.goesOn p y sn := by
  rcases h with ⟨hsnapshot, hwhy⟩ | ⟨hwhy, hroom, d, n, hd, hsnapshot, hn⟩
  · exact .inl ⟨hs.snapshot.trans hsnapshot, fun hk => (hwhy hk).imp_right (Or.imp_right (hs.grown.owed _))⟩
  · exact .inr ⟨hwhy, hroom, d, n, hd, hs.snapshot.trans hsnapshot, hs.grown.holdsPost hn⟩

theorem postAnswers_of_no_snapshot (h : s.adu.snapshot = none) (fuel : Nat) : s.postAnswers fuel = s := by
  cases fuel with
  | zero => rfl
  | succ fuel =>
    unfold Station.postAnswers
    rw [h]

/-- One more SAN asked for, once the offer has been made: at most one of the two posts one (R183). -/
theorem postAnswers_one_goesOn (h : SentSoFar x p e) (hj : e.bus.CanOwe) (hk : p.kind = .san) {sn : Snapshot}
    (hleft : x.snapshotLeft p = some sn) : x.goesOn p (e.postAnswers 1) sn := by
  rcases h.snapshot with hsame | ⟨-, sn', hsn', hanswered⟩
  · obtain ⟨n, hn⟩ := postAnswers_posted 1 (hsame.trans hleft) hj
    have hsnapshot : (e.postAnswers 1).adu.snapshot = some (sn.posted n) := congrArg Adu.snapshot hn.pending
    rcases Nat.eq_zero_or_pos n with hzero | hpos
    · subst hzero
      refine .inl ⟨hsnapshot, fun _ => ?_⟩
      rcases hn.done with hnever | hdone
      · exact absurd hnever (by decide)
      · exact hdone
    · have hone : n = 1 := Nat.le_antisymm hn.few hpos
      subst hone
      obtain ⟨hlen, hroom, -⟩ := hn.inside hpos
      have hd := List.getElem?_eq_getElem (Nat.lt_of_succ_le hlen)
      obtain ⟨m, hm⟩ := hn.posts 0 _ hpos hd
      exact .inr ⟨.inl hk, hroom, _, m, hd, hsnapshot, hm⟩
  · cases hsn'.symm.trans hleft
    refine goesOn_of_answered (.inl hk) ?_
    have ⟨_, _, _, hsnapshot, _, hmore⟩ := hanswered
    obtain ⟨n, hn⟩ := postAnswers_posted 1 hsnapshot hj
    have hzero : n = 0 := by
      by_contra hpos
      obtain ⟨hlen, -, howed⟩ := hn.inside (Nat.pos_of_ne_zero hpos)
      rcases hmore with hlast | hsan
      · simp only [Snapshot.posted] at hlen
        omega
      · exact howed hsan
    subst hzero
    exact hanswered.later ((congrArg Adu.snapshot hn.pending).trans hsnapshot.symm) hn.grown.later hn.grown.owed

theorem capture_of_smap (h : t.smap = s.smap) (article : Nat) : t.capture article = s.capture article := by
  unfold Station.capture Station.allBays Station.snapEntry Station.lockedAnswer Station.carrier?
  rw [h]

/-- A snapshot of which the first SANs have been posted, as many as R183 lets into the table or SAN owed. -/
def Station.begun (y : Station) (entries : List SnapEntry) (sn : Snapshot) : Prop :=
  sn.entries = entries ∧ sn.inTable = sn.nextToPost ∧ sn.nextToPost ≤ min 4 sn.entries.length
    ∧ (∀ i d, i < sn.nextToPost → sn.entries[i]? = some d → ∃ h, y.bus.holdsPost h .san (sn.sanOf i d))
    ∧ (sn.nextToPost = min 4 sn.entries.length ∨ Kind.san ∈ y.bus.owed)

theorem begun_of_answers {entries : List SnapEntry} {n : Nat}
    (h : AnswersPosted s t { entries := entries, nextToPost := 0, inTable := 0 } 4 n) :
    t.begun entries (Snapshot.posted { entries := entries, nextToPost := 0, inTable := 0 } n) := by
  have hfew := h.few
  have hinside : n ≤ entries.length := by
    rcases Nat.eq_zero_or_pos n with hn | hn
    · omega
    · have hlen := (h.inside hn).1
      dsimp only at hlen
      omega
  have hdone := h.done
  refine ⟨rfl, rfl, ?_, fun i d hi hd => ?_, ?_⟩
  · simp only [Snapshot.posted, Nat.zero_add]
    omega
  · simp only [Snapshot.posted, Nat.zero_add] at hi
    have hpost := h.posts i d hi (by simpa [Snapshot.posted] using hd)
    simpa [Snapshot.sanOf, Snapshot.posted] using hpost
  · simp only [Snapshot.posted, Nat.zero_add] at hdone ⊢
    rcases hdone with hn | hn | hn | hsan
    · exact .inl (by omega)
    · exact .inl (by omega)
    · exact .inl (by omega)
    · exact .inr hsan

/-- The end of an answer, with the pending query that becomes current (R183, R184). -/
theorem afterAnswer_last (h : SentSoFar x p e) (hj : e.bus.CanOwe) :
    (e.afterAnswer true).adu.pendingQuery = none
      ∧ (x.adu.pendingQuery = none → (e.afterAnswer true).adu.snapshot = none)
      ∧ ∀ article, x.adu.pendingQuery = some article →
        ∃ sn, (e.afterAnswer true).adu.snapshot = some sn ∧ (e.afterAnswer true).begun (x.capture article) sn
          ∧ (x.bus.owed = [] → (x.finished p).bus.posts.length ≤ 7 → (x.finished p).bus.claimSlots ≤ 4 →
            (e.afterAnswer true).bus.owed = []) := by
  have hquery := h.pendingQuery
  cases hpending : x.adu.pendingQuery with
  | none =>
    have hdone : e.afterAnswer true = { e with adu := { e.adu with snapshot := none } } := by
      unfold Station.afterAnswer
      rw [hquery, hpending]
      rfl
    rw [hdone]
    exact ⟨hquery.trans hpending, fun _ => rfl, nofun⟩
  | some article =>
    obtain ⟨w, hw⟩ : ∃ w : Station, w = { e with adu := { e.adu with
      snapshot := some { entries := x.capture article, nextToPost := 0, inTable := 0 }, pendingQuery := none } } :=
      ⟨_, rfl⟩
    have hnext : e.afterAnswer true = w.postAnswers 4 := by
      unfold Station.afterAnswer Station.beginAnswer
      rw [hquery, hpending, hw, ← capture_of_smap h.smap]
      rfl
    have hwbus : w.bus = e.bus := by rw [hw]
    obtain ⟨n, hn⟩ := postAnswers_posted (s := w) (sn := { entries := x.capture article, nextToPost := 0, inTable := 0 }) 4
      (by rw [hw]) (hwbus ▸ hj)
    rw [hnext]
    refine ⟨?_, nofun, fun article' h' => ?_⟩
    · rw [hn.pending, hw]
    · cases h'
      refine ⟨_, congrArg Adu.snapshot hn.pending, begun_of_answers hn, fun howed hposts hslots => ?_⟩
      obtain ⟨hnone, hlength, hclaim⟩ := h.room howed (by omega)
      refine postAnswers_owed 4 (hwbus ▸ hj) (hwbus ▸ hnone) ?_ ?_
      · rw [hwbus]
        omega
      · rw [hwbus]
        omega

end

end Sys2Proof.Machine
end

section
/-! ### O16: the claim's close, the freed slot, and the statement (R63, R88, R90, R103, R161) -/

namespace Sys2Proof.Machine

section
variable {s t x e y : Station} {p : Post} {r : LineRec}

/-! #### The records through the report of a claim (R103) -/

/-- The records with the claim sent flag of one set. -/
def LineRec.claimSent (n : Nat) (r : LineRec) : LineRec :=
  if r.serial = n then { r with bid := { r.bid with sent := true } } else r

theorem claimSent_same (r : LineRec) : r.claimSent r.serial = { r with bid := { r.bid with sent := true } } :=
  if_pos rfl

/-- What the offer of a slot keeps of a record, from its view. -/
def RecordView.sure (v : RecordView) : (Nat × RoundId × Nat × Nat × (Nat × Nat × Nat)) × Bid :=
  (v.core, { v.bid with close := none, closeOwed := false })

theorem map_sure (l : List LineRec) : l.map LineRec.sure = (l.map LineRec.kept).map RecordView.sure := by
  rw [List.map_map]
  rfl

theorem find?_sure (q : (Nat × RoundId × Nat × Nat × (Nat × Nat × Nat)) × Bid → Bool) (l : List LineRec) :
    (l.find? (fun r => q r.sure)).map LineRec.sure = (l.map LineRec.sure).find? q := by
  rw [List.find?_map]
  rfl

/-- The claim that this handle names, as the offer of a slot keeps it. -/
def holdsClaim (h : Nat) (k : (Nat × RoundId × Nat × Nat × (Nat × Nat × Nat)) × Bid) : Bool :=
  k.2.claim == some h && decide (k.1.2.2.2.2.2.1 = 0)

theorem claimHolder_eq (s : Station) (h : Nat) :
    s.claimHolder h = s.clu.records.find? (fun r => holdsClaim h r.sure) := by
  refine congrArg (fun f => s.clu.records.find? f) (funext (fun r => ?_))
  refine congrArg (fun b => r.bid.claim == some h && b) (Bool.eq_iff_iff.mpr ?_)
  rw [tentative_iff_core, decide_eq_true_iff]
  rfl

theorem holdsClaim_claimSent (h n : Nat) (r : LineRec) : holdsClaim h (r.claimSent n).sure = holdsClaim h r.sure := by
  unfold LineRec.claimSent
  split <;> rfl

/-- Where the records are those of `x` with one claim sent flag set, the claim's holder is found as before. -/
theorem claimHolder_claimSent (hr : x.claimHolder p.handle = some r)
    (hsure : e.clu.records.map LineRec.sure = (x.clu.records.map (LineRec.claimSent r.serial)).map LineRec.sure) :
    ∃ k, e.claimHolder p.handle = some k ∧ k.sure = (r.claimSent r.serial).sure := by
  have hfound : (e.claimHolder p.handle).map LineRec.sure = some (r.claimSent r.serial).sure := by
    rw [claimHolder_eq, find?_sure, hsure, ← find?_sure, List.find?_map,
      show (fun k => holdsClaim p.handle k.sure) ∘ LineRec.claimSent r.serial = fun k : LineRec => holdsClaim p.handle k.sure
        from funext (holdsClaim_claimSent p.handle r.serial), ← claimHolder_eq, hr]
    rfl
  exact Option.map_eq_some_iff.mp hfound

theorem afterSent_steady_of_claim (s : Station) (hk : p.kind = .clm) : (s.afterSent p).steady = s.steady := by
  unfold Station.afterSent
  rw [hk]
  dsimp only
  split
  · split
    · exact postClose_steady _ _
    · rfl
  · rfl

/-- The records of the transmitter of a claim, up to the posts that follow. -/
theorem SentSoFar.claimSent (h : SentSoFar x p e) (hk : p.kind = .clm) (hr : x.claimHolder p.handle = some r) :
    e.clu.records.map LineRec.sure = (x.clu.records.map (LineRec.claimSent r.serial)).map LineRec.sure := by
  have hoffer := congrArg Steady.records (offerSlot_steady ((x.finished p).noteSent p))
  rw [h.clu]
  refine (show _ = _ from hoffer).trans ?_
  rw [noteSent_of_claim hk (show (x.finished p).claimHolder p.handle = some r from hr)]
  rfl

theorem SettledFrom.sure {f : Station} (h : SettledFrom f y) :
    y.clu.records.map LineRec.sure = f.clu.records.map LineRec.sure := by
  rw [map_sure, map_sure, show y.clu.records.map LineRec.kept = _ from congrArg View.records h.view]
  rfl

theorem mem_of_claimSent (hr : r ∈ x.clu.records)
    (hsure : y.clu.records.map LineRec.sure = (x.clu.records.map (LineRec.claimSent r.serial)).map LineRec.sure) :
    ∃ k ∈ y.clu.records, k.serial = r.serial ∧ k.bid.sent = true := by
  have hmem : (r.claimSent r.serial).sure ∈ y.clu.records.map LineRec.sure :=
    hsure ▸ List.mem_map_of_mem (List.mem_map_of_mem hr)
  obtain ⟨k, hk, hsame⟩ := List.mem_map.mp hmem
  rw [claimSent_same] at hsame
  exact ⟨k, hk, (congrArg (fun c => c.1.1) hsame :), (congrArg (fun c => c.2.sent) hsame :)⟩

/-! #### The close of an expired record (R103, R105) -/

theorem record?_updBid_same (s : Station) (n : Nat) (f : Bid → Bid) :
    (s.updBid n f).record? n = (s.record? n).map (fun r => { r with bid := f r.bid }) := by
  have hserial : ((fun r : LineRec => r.serial == n) ∘ fun r => if r.serial = n then { r with bid := f r.bid } else r)
      = fun r => r.serial == n := by
    funext r
    dsimp only [Function.comp_apply]
    split <;> rfl
  unfold Station.record? Station.updBid Station.updRecord
  dsimp only
  rw [List.find?_map, hserial]
  cases h : s.clu.records.find? (fun r => r.serial == n) with
  | none => rfl
  | some k =>
    have hn : k.serial = n := by simpa using List.find?_some h
    exact congrArg some (if_pos hn)

/-- The record's CLS is posted, its handle kept. -/
def Station.closes (y : Station) (r k : LineRec) : Prop :=
  ∃ h, k.bid.close = some h ∧ y.bus.holdsPost h .cls (clsPayload r.round (r.winningKey % 64) r.winningKey)

theorem postClose_closes {n : Nat} {k : LineRec} (hj : s.bus.CanOwe) (hk : s.record? n = some k) (hn : r.serial = n) :
    ∃ k', (s.postClose r).record? n = some k'
      ∧ ((s.postClose r).closes r k' ∨ (k'.bid.closeOwed = true ∧ Kind.cls ∈ (s.postClose r).bus.owed))
      ∧ (s.bus.owed = [] → s.bus.posts.length < 12 → (s.postClose r).closes r k') := by
  obtain ⟨payload, hpayload⟩ : ∃ payload, payload = clsPayload r.round (r.winningKey % 64) r.winningKey := ⟨_, rfl⟩
  unfold Station.closes Station.postClose
  rw [← hpayload, hn]
  rcases post_cases s .cls payload with ⟨hpost, -⟩ | hpost
  · have hclosed := holdsPost_addPost s .cls payload
    rw [hpost]
    dsimp only
    rw [record?_updBid_same, show (s.addPost .cls s.ownKey payload).record? n = some k from hk]
    exact ⟨_, rfl, .inl ⟨_, rfl, hclosed⟩, fun _ _ => ⟨_, rfl, hclosed⟩⟩
  · have howed := mem_oweKind (k := .cls) hj
    have hrecord : (s.oweKind .cls).record? n = some k := by rw [oweKind_of_canOwe hj]; exact hk
    rw [hpost]
    dsimp only
    rw [record?_updBid_same, hrecord]
    refine ⟨_, rfl, .inr ⟨rfl, howed⟩, fun hnone hroom => ?_⟩
    have hmade := (post_of_room (payload := payload) hj hroom (k := .cls) (by simp [Kind.claimClass]) hnone).symm.trans hpost
    cases congrArg Prod.fst hmade

theorem SettledFrom.record? {f : Station} {n : Nat} {k : LineRec} (h : SettledFrom f y) (hk : f.record? n = some k) :
    ∃ k', y.record? n = some k' ∧ k'.bid = k.bid := by
  have hkept : ∀ s : Station, (s.record? n).map LineRec.kept = (s.clu.records.map LineRec.kept).find? (fun v => v.serial == n) := by
    intro s
    rw [List.find?_map]
    rfl
  have hsame : (y.record? n).map LineRec.kept = some k.kept := by
    rw [hkept, show y.clu.records.map LineRec.kept = _ from congrArg View.records h.view]
    exact (hkept f).symm.trans (congrArg (Option.map LineRec.kept) hk)
  obtain ⟨k', hk', hkeep⟩ := Option.map_eq_some_iff.mp hsame
  exact ⟨k', hk', congrArg RecordView.bid hkeep⟩

theorem SettledFrom.closes {f : Station} {k k' : LineRec} (h : SettledFrom f y) (hbid : k'.bid = k.bid) (hk : f.closes r k) :
    y.closes r k' := by
  obtain ⟨n, hn, hpost⟩ := hk
  exact ⟨n, hbid ▸ hn, h.grown.holdsPost hpost⟩

theorem length_finished (hp : x.bus.post? p.handle = some p) : (x.finished p).bus.posts.length < x.bus.posts.length :=
  List.length_filter_lt_length_iff_exists.mpr ⟨p, List.mem_of_find?_eq_some hp, by simp⟩

/-- The close of a record that has expired when its claim is sent (R103). -/
theorem SentSoFar.closed (h : SentSoFar x p e) (hj : e.bus.CanOwe) (hk : p.kind = .clm)
    (hp : x.bus.post? p.handle = some p) (hr : x.claimHolder p.handle = some r) (hexpired : r.bid.expired = true)
    (hy : SettledFrom (e.afterSent p) y) :
    ∃ k, y.record? r.serial = some k ∧ (y.closes r k ∨ (k.bid.closeOwed = true ∧ Kind.cls ∈ y.bus.owed))
      ∧ (x.bus.owed = [] → x.bus.posts.length ≤ 11 → y.closes r k) := by
  obtain ⟨c, hc, hsame⟩ := claimHolder_claimSent hr (h.claimSent hk hr)
  rw [claimSent_same] at hsame
  have hserial : c.serial = r.serial := (congrArg (fun k => k.1.1) hsame :)
  have hround : c.round = r.round := (congrArg (fun k => k.1.2.1) hsame :)
  have hkey : c.winningKey = r.winningKey := by
    have hbest : c.bid.best = r.bid.best := (congrArg (fun k => k.2.best) hsame :)
    have hown : c.bid.key = r.bid.key := (congrArg (fun k => k.2.key) hsame :)
    rw [LineRec.winningKey, hbest, hown, LineRec.winningKey]
  have hcloses : ∀ (s : Station) (k : LineRec), s.closes c k ↔ s.closes r k := by
    intro s k
    rw [Station.closes, hround, hkey, Station.closes]
  have hafter : e.afterSent p = e.postClose c := by
    unfold Station.afterSent
    rw [hk]
    dsimp only
    rw [hc]
    exact if_pos ((congrArg (fun k => k.2.expired) hsame :).trans hexpired)
  have hfound : ∃ k, e.record? r.serial = some k := by
    refine Option.isSome_iff_exists.mp (List.find?_isSome.mpr ⟨c, (claimHolder_mem hc).1, ?_⟩)
    exact beq_iff_eq.mpr hserial
  obtain ⟨k, hrecord⟩ := hfound
  obtain ⟨k', hk', hclose, hroom⟩ := postClose_closes hj hrecord hserial
  rw [hafter] at hy
  obtain ⟨k'', hk'', hbid⟩ := hy.record? hk'
  refine ⟨k'', hk'', hclose.imp (fun hc => ?_) (fun ⟨howed, hcls⟩ => ⟨hbid ▸ howed, hy.grown.owed _ hcls⟩), fun hnone hfew => ?_⟩
  · exact hy.closes hbid ((hcloses _ _).mp hc)
  · have hlength := length_finished hp
    obtain ⟨hnone', hposts, -⟩ := h.room hnone (by omega)
    exact hy.closes hbid ((hcloses _ _).mp (hroom hnone' (by omega)))

/-! #### The freed slot (R88, R90, R161) -/

theorem SentSoFar.slotFree (h : SentSoFar x p e) (hj : e.bus.CanOwe) (hnames : x.NamesFresh)
    (hp : x.bus.post? p.handle = some p) (hy : SettledFrom (e.afterSent p) y) : y.bus.slotFree p.handle := by
  obtain ⟨hhandles, -⟩ := hnames
  have hbus : ((x.finished p).noteSent p).bus = (x.finished p).bus := noteSent_bus _ p
  have hlater := ((offerSlot_later ((x.finished p).noteSent p)).trans h.later).trans
    ((afterSent_sentAfter hj p).grown.trans hy.grown).later
  refine hlater.free _ ?_ ?_
  · rw [hbus]
    exact hhandles p (List.mem_of_find?_eq_some hp)
  · rw [hbus]
    exact fun o ho => by simpa using List.of_mem_filter ho

theorem SentSoFar.abandon {d : OrderEntry} {cause : Cause} (h : SentSoFar x p e) (hj : e.bus.CanOwe)
    (hp : x.bus.post? p.handle = some p) (hy : SettledFrom (e.afterSent p) y) (hfew : x.bus.posts.length ≤ 12)
    (hhead : x.bus.owed.head? = some .abn)
    (hd : x.cnu.orders.find? (fun e => e.abandonOwed.isSome && e.state = .opened) = some d)
    (hcause : d.abandonOwed = some cause) : ∃ n, y.bus.holdsPost n .abn (abnPayload d.order cause) := by
  have hbus : ((x.finished p).noteSent p).bus = (x.finished p).bus := noteSent_bus _ p
  obtain ⟨d', hd', horder, howed⟩ : ∃ d', ((x.finished p).noteSent p).cnu.orders.find?
      (fun e => e.abandonOwed.isSome && e.state = .opened) = some d' ∧ d'.order = d.order ∧ d'.abandonOwed = some cause := by
    unfold Station.noteSent
    split
    · split <;> exact ⟨d, hd, rfl, hcause⟩
    case h_4 =>
      dsimp only
      rw [List.find?_map]
      exact ⟨{ d with abandon := d.abandon.filter (fun h => h != p.handle) }, congrArg (Option.map _) hd, rfl, hcause⟩
    all_goals exact ⟨d, hd, rfl, hcause⟩
  have hlength := length_finished hp
  obtain ⟨n, hn⟩ := offerSlot_abn (by rw [hbus]; omega) (by rw [hbus]; exact hhead) hd' howed
  rw [horder] at hn
  exact ⟨n, (h.later.trans ((afterSent_sentAfter hj p).grown.trans hy.grown).later).holdsPost hn⟩

end

end Sys2Proof.Machine
end

section
/-! ### O16 -/

namespace Sys2Proof.Machine

section
variable {x e y : Station} {p : Post}

/-- The station once the frame sent is settled, in all but its notices (R63, R67, R69). -/
theorem SentSoFar.view (h : SentSoFar x p e) (hj : e.bus.CanOwe) (hy : SettledFrom (e.afterSent p) y) :
    y.view = { x.view with
      bus := (x.bus.sentBy p).line, records := y.view.records, orders := y.view.orders
      notes := y.view.notes, owedReports := y.view.owedReports
      snapshot := y.view.snapshot, pendingQuery := y.view.pendingQuery } := by
  have hafter := afterSent_sentAfter hj p
  have hbus : y.view.bus = (x.bus.sentBy p).line := hy.grown.line.trans (hafter.grown.line.trans h.line)
  have hbeside : y.view.beside = x.view.beside :=
    (congrArg View.beside hy.view).trans (hafter.beside.trans h.beside)
  rw [← hbus]
  exact eq_of_beside hbeside

/-- The answer after a report other than that of a last SAN (R183). -/
theorem SentSoFar.goesOn (h : SentSoFar x p e) (hj : e.bus.CanOwe) (hy : SettledFrom (e.afterSent p) y)
    (hlast : ¬ (p.kind = .san ∧ payloadField p.payload 1 1 % 2 = 1)) :
    y.adu.pendingQuery = x.adu.pendingQuery ∧ (x.snapshotLeft p = none → y.adu.snapshot = none)
      ∧ ∀ sn, x.snapshotLeft p = some sn → x.goesOn p y sn := by
  rw [hy.pendingQuery, hy.snapshot, ← h.pendingQuery]
  by_cases hk : p.kind = .san
  · have hafter : e.afterSent p = e.postAnswers 1 := by
      unfold Station.afterSent Station.afterAnswer
      rw [hk]
      dsimp only
      exact if_neg (fun hl => hlast ⟨hk, beq_iff_eq.mp hl⟩)
    rw [hafter] at hy ⊢
    refine ⟨?_, fun hleft => ?_, fun sn hleft => (postAnswers_one_goesOn h hj hk hleft).settled hy⟩
    · cases hsn : e.adu.snapshot with
      | none => rw [postAnswers_of_no_snapshot hsn]
      | some sn =>
        obtain ⟨n, hn⟩ := postAnswers_posted 1 hsn hj
        exact (congrArg Adu.pendingQuery hn.pending :)
    · have hnone : e.adu.snapshot = none := by
        rcases h.snapshot with hsame | ⟨-, sn, hsn, -⟩
        · exact hsame.trans hleft
        · cases hsn.symm.trans hleft
      rw [postAnswers_of_no_snapshot hnone, hnone]
  · have hadu := afterSent_adu (s := e) hk
    have hleft : ∀ sn, x.snapshotLeft p = some sn → x.goesOn p (e.afterSent p) sn := fun sn hsn => by
      rcases h.snapshot with hsame | ⟨howed, sn', hsn', hanswered⟩
      · exact .inl ⟨(congrArg Adu.snapshot hadu).trans (hsame.trans hsn), fun hk' => absurd hk' hk⟩
      · cases hsn'.symm.trans hsn
        have hgrown := (afterSent_sentAfter hj p).grown
        exact goesOn_of_answered (.inr howed) (hanswered.later (congrArg Adu.snapshot hadu) hgrown.later hgrown.owed)
    rw [hadu]
    refine ⟨rfl, fun hnone => ?_, fun sn hsn => (hleft sn hsn).settled hy⟩
    rcases h.snapshot with hsame | ⟨-, sn, hsn, -⟩
    · exact hsame.trans hnone
    · cases hsn.symm.trans hnone

/-- The answer after the report of a last SAN (R183, R184). -/
theorem SentSoFar.ends (h : SentSoFar x p e) (hj : e.bus.CanOwe) (hp : x.bus.post? p.handle = some p)
    (hy : SettledFrom (e.afterSent p) y) (hk : p.kind = .san)
    (hlast : payloadField p.payload 1 1 % 2 = 1) :
    y.adu.pendingQuery = none ∧ (x.adu.pendingQuery = none → y.adu.snapshot = none)
      ∧ ∀ article, x.adu.pendingQuery = some article →
        ∃ sn, y.adu.snapshot = some sn ∧ y.begun (x.capture article) sn
          ∧ (x.bus.owed = [] → x.bus.posts.length ≤ 8 → x.bus.claimSlots ≤ 4 →
            sn.nextToPost = min 4 sn.entries.length) := by
  have hafter : e.afterSent p = e.afterAnswer true := by
    unfold Station.afterSent
    rw [hk]
    dsimp only
    rw [lastFlag, beq_iff_eq.mpr hlast]
  rw [hy.pendingQuery, hy.snapshot]
  rw [hafter] at hy ⊢
  obtain ⟨hpending, hnone, hsome⟩ := afterAnswer_last h hj
  refine ⟨hpending, hnone, fun article harticle => ?_⟩
  obtain ⟨sn, hsn, ⟨hentries, htable, hfew, hposts, hdone⟩, hroom⟩ := hsome article harticle
  have hslots : (x.finished p).bus.claimSlots ≤ x.bus.claimSlots :=
    (List.Sublist.filter _ List.filter_sublist).length_le
  have hlength := length_finished hp
  refine ⟨sn, hsn, ⟨hentries, htable, hfew, fun i d hi hd => ?_, hdone.imp_right (hy.grown.owed _)⟩, fun hnone hp8 hc4 => ?_⟩
  · obtain ⟨n, hn⟩ := hposts i d hi hd
    exact ⟨n, hy.grown.holdsPost hn⟩
  · refine hdone.resolve_right (fun hsan => ?_)
    rw [hroom hnone (by omega) (by omega)] at hsan
    cases hsan

end

/-- Settles O16: the stages of a frame sent, and the offers of a freed slot one by one. -/
theorem frameSent : Obligations.FrameSent := by
  refine ⟨fun bits x q p hx hready hw hsound hroom hs hp => ?_, fun x hfree hnodup => offerSlot_offered hfree hnodup⟩
  obtain ⟨e, h⟩ := sentSoFar hw hsound p
  have hbus := onBus_of_live hx hready hw
  have hstanding : (x.bus.sentBy p).standing ≠ .withdrawn := by
    have htec : x.bus.tec ≤ 255 :=
      Nat.le_of_not_lt (fun h => hw ((standing_of_sound hsound hw).trans ((standingOf_withdrawn_iff _ _).mpr h)))
    exact standingOf_ne_withdrawn _ (by omega)
  have hj := h.canOwe hx hstanding
  have hstep : exec (.frameCompleted bits) ⟨x, q⟩ = .next ⟨(x.sentCompleted p).settle x, q⟩ :=
    (answer_change q hx (by simp [hbus, hroom, hs, hp])).1
  obtain ⟨y, hy⟩ : ∃ y, y = (x.sentCompleted p).settle x := ⟨_, rfl⟩
  rw [← hy] at hstep
  rw [h.after] at hy
  have hsettled : SettledFrom (e.afterSent p) y := hy ▸ settledFrom_settle _ x
  have hafter := afterSent_sentAfter hj p
  have htables : (e.afterSent p).tables = x.tables := hafter.tables.trans h.tables
  have hlasting : y.lasting = (e.afterSent p).lasting := lasting_of_view hsettled.view
  refine ⟨y, hstep, h.view hj hsettled, fun hk r hr => ⟨?_, fun hexpired _ => h.closed hj hk hp hr hexpired hsettled⟩,
    ?_, ?_, h.goesOn hj hsettled, fun hk hlast => ?_, fun hnames => h.slotFree hj hnames hp hsettled,
    fun hfew hhead d cause hd hcause => h.abandon hj hp hsettled hfew hhead hd hcause⟩
  · refine mem_of_claimSent (claimHolder_mem hr).1 (hsettled.sure.trans ?_)
    exact ((congrArg Steady.records (afterSent_steady_of_claim e hk) :)).trans (h.claimSent hk hr)
  · exact (congrArg Lasting.cores hlasting).trans (congrArg Prod.fst htables)
  · exact (congrArg Lasting.orders hlasting).trans (congrArg Prod.snd htables)
  · obtain ⟨hpending, hnone, hsome⟩ := h.ends hj hp hsettled hk hlast
    refine ⟨hpending, hnone, fun article harticle => ?_⟩
    obtain ⟨sn, hsn, ⟨hentries, htable, hcount, hposts, hdone⟩, hall⟩ := hsome article harticle
    exact ⟨sn, hsn, hentries, htable, hcount, hposts, hdone, hall⟩

end Sys2Proof.Machine
end

section
/-! ### What follows an event at a station with no record and no group (R77, R189) -/

namespace Sys2Proof.Machine

/-! #### The tables, the mode, the hold, the last fault code -/

/-- The records and groups, and what a service hold and a fault show at Station Control. -/
structure Office where
  clu : Clu
  cnu : Cnu
  mode : Mode
  hold : Hold
  lastFault : Option StationFault
  svcAck : Bool

def Station.office (s : Station) : Office where
  clu := s.clu
  cnu := s.cnu
  mode := s.stc.mode
  hold := s.stc.hold
  lastFault := s.stc.lastFault
  svcAck := s.pins.svcAck

/-- No record and no group: no block but the Audit Unit asks for a task. -/
def Office.bare (o : Office) : Prop := o.clu.records = [] ∧ o.cnu.groups = []

section
variable (s : Station)

theorem statusTrigger_office : s.statusTrigger.office = s.office := by
  unfold Station.statusTrigger
  split
  · rfl
  · rcases post_cases s .sts (stsPayload s.statusFields) with ⟨hpost, -⟩ | hpost
    · rw [hpost]
      rfl
    · rw [hpost]
      unfold Station.oweKind
      dsimp only
      split <;> rfl

theorem addTask_office (j : Job) : (s.addTask j).office = s.office := by
  cases j <;> rfl

theorem startTask_office (t : Task) : (s.startTask t).office = s.office := by
  unfold Station.startTask Station.atTarget
  dsimp only
  split_ifs <;> rfl

/-! #### The planner -/

/-- The task that a decision chooses, begun (R118, R121). -/
def Station.withChosen (s : Station) : Station :=
  match s.chosenTask with
  | none => s
  | some t => (s.raisePassed t.id).startTask t

theorem withChosen_office : s.withChosen.office = s.office := by
  unfold Station.withChosen
  split
  · rfl
  · exact startTask_office _ _

theorem foldl_reportBlocked {l : List (Nat × BayAddr)} {s : Station} (h : s.cnu.groups = []) :
    l.foldl Station.reportBlocked s = s := by
  induction l with
  | nil => rfl
  | cons a l ih =>
    have hnone : s.reportBlocked a = s := by
      unfold Station.reportBlocked Station.blockedPutback Station.group?
      rw [h]
      rfl
    rw [List.foldl_cons, hnone, ih]

theorem decision_of_bare {s : Station} (h : s.office.bare) : s.decision = if s.mayDecide then s.withChosen else s := by
  have hgroups : s.withChosen.cnu.groups = [] := by
    rw [show s.withChosen.cnu = s.cnu from congrArg Office.cnu (withChosen_office s)]
    exact h.2
  unfold Station.decision
  dsimp only
  exact congrArg (fun u => if s.mayDecide = true then u else s) (foldl_reportBlocked hgroups)

theorem decision_office {s : Station} (h : s.office.bare) : s.decision.office = s.office := by
  rw [decision_of_bare h]
  split
  · exact withChosen_office s
  · rfl

/-! #### The requests of the blocks -/

theorem serveAudit_office (byCarrier : Bool) (fuel : Nat) {s : Station} (h : s.office.bare) :
    (s.serveAudit byCarrier fuel).office = s.office := by
  induction fuel generalizing s with
  | zero => rfl
  | succ n ih =>
    unfold Station.serveAudit
    split
    · split
      · rfl
      · rename_i c _ p _
        have hadd : ((s.addTask (.scan c p)).setRescan c none).office = s.office := addTask_office s (.scan c p)
        have hdecision := (decision_office (hadd ▸ h)).trans hadd
        exact (ih (hdecision ▸ h)).trans hdecision
    · rfl

theorem serveClaims_of_bare {s : Station} (h : s.office.bare) (fuel : Nat) : s.serveClaims fuel = s := by
  have hrecords : s.clu.records = [] := h.1
  cases fuel with
  | zero => rfl
  | succ n =>
    unfold Station.serveClaims Station.claimWant
    rw [hrecords]
    rfl

theorem decideAfter_self : s.decideAfter s = s := by
  unfold Station.decideAfter
  refine if_neg (fun h => ?_)
  rcases h with h | h
  · exact h rfl
  · obtain ⟨d, hd, hnew⟩ := List.any_eq_true.mp h
    simp [hd] at hnew

theorem serveLane_of_bare {s : Station} (h : s.office.bare) (old : Station) : s.serveLane old = s := by
  have hrecords : s.clu.records = [] := h.1
  have hgroups : s.cnu.groups = [] := h.2
  have hready : s.postReadies = s := by
    unfold Station.postReadies
    rw [hrecords]
    rfl
  have hstart : s.beginPutback = s := by
    unfold Station.beginPutback Station.startPutback
    rw [hgroups]
    exact decideAfter_self s
  have hstuck : s.rechooseStuck = s := by
    unfold Station.rechooseStuck
    rw [hgroups]
    rfl
  have hput : s.servePutback = s := by
    unfold Station.servePutback
    rw [hgroups]
    rfl
  unfold Station.serveLane
  dsimp only
  rw [hready, hstart, hstuck, decideAfter_self, ite_self, hput, decideAfter_self]

/-! #### The face, the drives -/

theorem faceCheck_office (t : Task) : (s.faceCheck t).office = s.office := by
  unfold Station.faceCheck
  split
  · unfold Station.pickStep Station.stow
    split_ifs <;> rfl
  · unfold Station.loadStep
    split_ifs <;> rfl
  · unfold Station.putbackStep
    split <;> split_ifs <;> rfl
  · unfold Station.scanStep
    split_ifs <;> rfl

theorem faceAdvance_office : s.faceAdvance.office = s.office := by
  unfold Station.faceAdvance
  split
  · rfl
  · split
    · exact faceCheck_office _ _
    · rfl
    · split
      · exact faceCheck_office _ _
      · rfl
    · split
      · exact faceCheck_office _ _
      · rfl
    · split
      · exact faceCheck_office _ _
      · rfl
    · split <;> rfl

theorem resumeMove_office : s.resumeMove.office = s.office := by
  unfold Station.resumeMove
  split <;> rfl

theorem serveDrive_office (old : Station) : (s.serveDrive old).office = s.office := by
  unfold Station.serveDrive Station.beginSweep Station.beginRelease
  dsimp only
  split_ifs <;> rfl

end

/-! #### The hold through the settling of an event (R189) -/

/-- `b` is `a` later in an event: the same, but that a hold that was WAITING may have become ACKED, with SVC_ACK asserted
(R189). -/
def Office.later (a b : Office) : Prop :=
  b = a ∨ (a.hold = .waiting ∧ b = { a with hold := .acked, svcAck := true })

section
variable {a b c : Office} {s t : Station}

theorem Office.later.trans (h : a.later b) (h' : b.later c) : a.later c := by
  rcases h with rfl | ⟨hwaiting, rfl⟩
  · exact h'
  · rcases h' with rfl | ⟨hwaiting', -⟩
    · exact .inr ⟨hwaiting, rfl⟩
    · cases hwaiting'

theorem Office.later.bare (h : a.later b) (ha : a.bare) : b.bare := by
  rcases h with rfl | ⟨-, rfl⟩
  · exact ha
  · exact ha

theorem touch_office (s : Station) (c : Nat) : (s.touch c).office = s.office := by
  unfold Station.touch
  dsimp only
  split
  · split <;> rfl
  · rfl

theorem acknowledge_office (s : Station) : s.office.later s.acknowledge.office := by
  unfold Station.acknowledge
  split
  · rename_i h
    refine .inr ⟨h.1, ?_⟩
    dsimp only
    split
    · exact touch_office _ _
    · rfl
  · exact .inl rfl

/-- A round of what follows an event, once the requests that no block makes are left out. -/
theorem settleRound_of_bare (h : s.office.bare) (old : Station) :
    s.settleRound old =
      (let u := (s.faceAdvance.resumeMove.acknowledge.serveAudit
          (modeEntered old s.faceAdvance.resumeMove.acknowledge) 24).serveDrive old
       if decisionDue old u then u.decision else u) := by
  have hbare : s.faceAdvance.resumeMove.acknowledge.office.bare := by
    refine (acknowledge_office _).bare ?_
    rw [resumeMove_office, faceAdvance_office]
    exact h
  unfold Station.settleRound Station.serveTasks
  dsimp only
  rw [serveLane_of_bare hbare, serveClaims_of_bare hbare]

theorem settleRound_office (h : s.office.bare) (old : Station) : s.office.later (s.settleRound old).office := by
  have hface : s.office.later s.faceAdvance.resumeMove.acknowledge.office := by
    have hack := acknowledge_office s.faceAdvance.resumeMove
    rwa [resumeMove_office, faceAdvance_office] at hack
  have hbare := hface.bare h
  rw [settleRound_of_bare h]
  dsimp only
  have hdrive : ((s.faceAdvance.resumeMove.acknowledge.serveAudit
      (modeEntered old s.faceAdvance.resumeMove.acknowledge) 24).serveDrive old).office
        = s.faceAdvance.resumeMove.acknowledge.office :=
    (serveDrive_office _ old).trans (serveAudit_office _ 24 hbare)
  split
  · rw [decision_office (hdrive ▸ hbare), hdrive]
    exact hface
  · rw [hdrive]
    exact hface

theorem settleRounds_office (fuel : Nat) (old : Station) (h : s.office.bare) :
    s.office.later (settleRounds fuel old s).office := by
  induction fuel generalizing old s with
  | zero => exact .inl rfl
  | succ n ih =>
    have hround := settleRound_office h old
    rw [settleRounds]
    split
    · exact .inl rfl
    · exact hround.trans (ih s (hround.bare h))

theorem settle_office (old : Station) (h : s.office.bare) : s.office.later (s.settle old).office := by
  unfold Station.settle
  split
  · exact settleRounds_office 16 old h
  · exact .inl rfl

end

end Sys2Proof.Machine
end

section
/-! ### The START scans of the join (R170) -/

namespace Sys2Proof.Machine

/-! #### A task list of START scans -/

/-- The jobs of the first START scans (R170). -/
def startScans (n : Nat) : List Job := (List.range n).map (fun c => .scan c .start)

/-- The task list holds the START scans of the first `n` carriers of all, none removed by its owner, and at the face, if a
task is there, its step is yet to come or its readings are in progress. -/
structure Station.Scanning (n all : Nat) (s : Station) : Prop where
  jobs : s.mpl.tasks.map (fun t => t.job) = startScans n
  kept : ∀ t ∈ s.mpl.tasks, t.removed = false
  face : s.fct.task = none ∨ s.fct.stage = .check ∨ (s.fct.stage = .reading ∧ s.fct.gauge.isSome = true)
  carriers : s.smap.carriers.length = all

section
variable {n all : Nat} {s t : Station}

theorem Station.Scanning.of_eq (h : s.Scanning n all) (htasks : t.mpl.tasks = s.mpl.tasks)
    (htask : t.fct.task = s.fct.task) (hstage : t.fct.stage = s.fct.stage) (hgauge : t.fct.gauge = s.fct.gauge)
    (hcarriers : t.smap.carriers.length = s.smap.carriers.length) : t.Scanning n all where
  jobs := by rw [htasks, h.jobs]
  kept := by rw [htasks]; exact h.kept
  face := by rw [htask, hstage, hgauge]; exact h.face
  carriers := by rw [hcarriers, h.carriers]

theorem Station.Scanning.length (h : s.Scanning n all) : s.mpl.tasks.length = n := by
  simpa [startScans] using congrArg List.length h.jobs

theorem Station.Scanning.scan (h : s.Scanning n all) {o : Task} (ho : o ∈ s.mpl.tasks) : ∃ c, o.job = .scan c .start := by
  have hmem : o.job ∈ startScans n := h.jobs ▸ List.mem_map_of_mem ho
  obtain ⟨c, -, hc⟩ := List.mem_map.mp hmem
  exact ⟨c, hc.symm⟩

/-- The job is a SCAN of this carrier. -/
def Job.scans (c : Nat) : Job → Bool
  | .scan c' _ => c' == c
  | .pickStop _ | .load _ _ | .putback _ _ => false

theorem hasScan_eq (s : Station) (c : Nat) : s.hasScan c = (s.mpl.tasks.map (fun t => t.job)).any (Job.scans c) := by
  rw [List.any_map]
  rfl

theorem Station.Scanning.hasScan (h : s.Scanning n all) (c : Nat) : s.hasScan c = true ↔ c < n := by
  rw [hasScan_eq, h.jobs]
  simp [startScans, Job.scans]

/-! #### The planner and the face among scans -/

theorem Station.Scanning.decision (h : s.Scanning n all) (hbare : s.office.bare) : s.decision.Scanning n all := by
  rw [decision_of_bare hbare]
  split
  · unfold Station.withChosen
    split
    · exact h
    · rename_i o _
      have hraised : (s.raisePassed o.id).Scanning n all := by
        refine ⟨?_, fun u hu => ?_, h.face, h.carriers⟩
        · rw [← h.jobs]
          refine map_map_of_eq (fun u : Task => u.job) _ (fun u => ?_) _
          split <;> rfl
        · obtain ⟨u', hu', rfl⟩ := List.mem_map.mp hu
          split
          · exact h.kept u' hu'
          · exact h.kept u' hu'
      unfold Station.startTask Station.atTarget
      dsimp only
      split_ifs
      · exact ⟨hraised.jobs, hraised.kept, .inr (.inl rfl), hraised.carriers⟩
      · exact hraised
      all_goals exact hraised.of_eq rfl rfl rfl rfl rfl
  · exact h

theorem Station.Scanning.faceCheck (h : s.Scanning n all) {o : Task} (ho : o ∈ s.mpl.tasks) :
    (s.faceCheck o).Scanning n all := by
  obtain ⟨c, hjob⟩ := h.scan ho
  unfold Station.faceCheck
  rw [hjob]
  dsimp only
  unfold Station.scanStep
  rw [h.kept o ho]
  refine ⟨h.jobs, h.kept, .inr (.inr ⟨rfl, rfl⟩), ?_⟩
  exact (List.length_modify _ _ _).trans h.carriers

theorem Station.Scanning.faceAdvance (h : s.Scanning n all) : s.faceAdvance.Scanning n all := by
  unfold Station.faceAdvance
  cases hface : s.faceTask? with
  | none => exact h
  | some o =>
    obtain ⟨id, hid, ho⟩ := Option.bind_eq_some_iff.mp hface
    have hmem : o ∈ s.mpl.tasks := List.mem_of_find?_eq_some ho
    dsimp only
    rcases h.face with hnone | hcheck | ⟨hreading, hgauge⟩
    · cases hnone.symm.trans hid
    · rw [hcheck]
      exact h.faceCheck hmem
    · have hover : s.readingsOver o.job = false := by
        unfold Station.readingsOver
        rw [Option.isNone_eq_false_iff.mpr hgauge]
        rfl
      rw [hreading, hover]
      exact h

theorem Station.Scanning.resumeMove (h : s.Scanning n all) : s.resumeMove.Scanning n all := by
  unfold Station.resumeMove
  split
  · exact h.of_eq rfl rfl rfl rfl rfl
  · exact h

theorem Station.Scanning.acknowledge (h : s.Scanning n all) : s.acknowledge.Scanning n all := by
  have htouch : ∀ (u : Station) (c : Nat), u.Scanning n all → (u.touch c).Scanning n all := by
    intro u c hu
    unfold Station.touch
    dsimp only
    split
    · split
      · exact hu.of_eq rfl rfl rfl rfl (List.length_modify _ _ _)
      · exact hu.of_eq rfl rfl rfl rfl (List.length_modify _ _ _)
    · exact hu.of_eq rfl rfl rfl rfl (List.length_modify _ _ _)
  unfold Station.acknowledge
  split
  · dsimp only
    split
    · exact htouch _ _ (h.of_eq rfl rfl rfl rfl rfl)
    · exact h.of_eq rfl rfl rfl rfl rfl
  · exact h

theorem Station.Scanning.serveDrive (h : s.Scanning n all) (old : Station) : (s.serveDrive old).Scanning n all := by
  unfold Station.serveDrive Station.beginSweep Station.beginRelease
  dsimp only
  split_ifs
  all_goals exact h.of_eq rfl rfl rfl rfl rfl

/-! #### The Audit Unit's requests -/

/-- With its list full, or a scan of every carrier in it, no more are asked for (R116, R170). -/
theorem Station.Scanning.serveAudit (h : s.Scanning n all) (hfull : n = 24 ∨ n = all) (byCarrier : Bool) (fuel : Nat) :
    s.serveAudit byCarrier fuel = s := by
  cases fuel with
  | zero => rfl
  | succ fuel =>
    unfold Station.serveAudit
    rcases hfull with rfl | rfl
    · rw [if_neg (fun hroom => absurd hroom.2 (by simp [h.length]))]
    · have hwants : s.wants = [] := by
        refine List.filterMap_eq_nil_iff.mpr (fun x hx => if_pos ((h.hasScan x.2).mpr ?_))
        have hindex := (List.mem_zipIdx hx).2.1
        rw [h.carriers] at hindex
        omega
      rw [hwants]
      cases byCarrier <;> exact ite_self _

/-- The carriers from this index on want a START scan (R170). -/
def Station.unscanned (s : Station) (n : Nat) : Prop :=
  ∀ c k, n ≤ c → s.smap.carriers[c]? = some k →
    k.locks.unverified = true ∧ k.locks.audit = false ∧ k.rescan = none

theorem wants_head (h : s.Scanning n all) (hopen : s.unscanned n) (hn : n < all) :
    s.wants.head? = some (n, 1, .start) := by
  have hlt : n < s.smap.carriers.length := by rw [h.carriers]; exact hn
  obtain ⟨hunverified, haudit, hrescan⟩ := hopen n _ le_rfl (List.getElem?_eq_getElem hlt)
  unfold Station.wants
  rw [List.head?_filterMap, List.findSome?_eq_some_iff]
  have hlt' : n < s.smap.carriers.zipIdx.length := by simpa using hlt
  refine ⟨s.smap.carriers.zipIdx.take n, s.smap.carriers.zipIdx[n], s.smap.carriers.zipIdx.drop (n + 1), ?_, ?_, ?_⟩
  · rw [List.getElem_cons_drop, List.take_append_drop]
  · have hnew : s.hasScan n = false := by
      rw [Bool.eq_false_iff]
      exact fun hscan => Nat.lt_irrefl n ((h.hasScan n).mp hscan)
    simp [wantOf, hnew, hunverified, haudit, hrescan]
  · intro x hx
    obtain ⟨i, hi, rfl⟩ := List.mem_iff_getElem.mp hx
    rw [if_pos ((h.hasScan _).mpr ?_)]
    simp only [List.length_take] at hi
    simp
    omega

theorem unscanned_of_eq (h : s.unscanned n) {m : Nat} (hm : n ≤ m)
    (hcarriers : ∀ c, m ≤ c → t.smap.carriers[c]? = s.smap.carriers[c]?) : t.unscanned m :=
  fun c k hc hk => h c k (hm.trans hc) ((hcarriers c hc).symm.trans hk)

/-- One START scan more asked for (R28, R116). -/
theorem Station.Scanning.addTask (h : s.Scanning n all) :
    ((s.addTask (.scan n .start)).setRescan n none).Scanning (n + 1) all where
  jobs := by
    have hjobs : ((s.addTask (.scan n .start)).setRescan n none).mpl.tasks.map (fun t => t.job)
        = s.mpl.tasks.map (fun t => t.job) ++ [.scan n .start] := by
      simp [Station.addTask, Station.setRescan, Station.updCarrier, Station.putReason]
    rw [hjobs, h.jobs]
    simp [startScans, List.range_succ]
  kept o ho := by
    rcases List.mem_append.mp (show o ∈ s.mpl.tasks ++ [_] from ho) with hold | hnew
    · exact h.kept o hold
    · rw [List.mem_singleton.mp hnew]
  face := h.face
  carriers := (List.length_modify _ _ _).trans ((List.length_modify _ _ _).trans h.carriers)

theorem decision_smap (hbare : s.office.bare) : s.decision.smap = s.smap := by
  rw [decision_of_bare hbare]
  split
  · unfold Station.withChosen Station.startTask Station.atTarget
    dsimp only
    split
    · rfl
    · split_ifs <;> rfl
  · rfl

/-- The Audit Unit asks for a START scan of each carrier, lowest first, while the list has room (R170). -/
theorem Station.Scanning.asks (fuel : Nat) (h : s.Scanning n all) (hfuel : n + fuel = 24) (hn : n ≤ all)
    (hbare : s.office.bare) (hmode : s.stc.mode = .running ∨ s.stc.mode = .halted) (hopen : s.unscanned n) :
    (s.serveAudit true fuel).Scanning (min 24 all) all := by
  induction fuel generalizing s n with
  | zero =>
    rw [Nat.min_eq_left (by omega)]
    exact hfuel ▸ h
  | succ fuel ih =>
    rcases Nat.eq_or_lt_of_le hn with rfl | hlt
    · rw [h.serveAudit (.inr rfl), Nat.min_eq_right (by omega)]
      exact h
    · obtain ⟨u, hu⟩ : ∃ u, u = (s.addTask (.scan n .start)).setRescan n none := ⟨_, rfl⟩
      have hnext : s.serveAudit true (fuel + 1) = u.decision.serveAudit true fuel := by
        rw [Station.serveAudit, if_pos ⟨hmode, by rw [h.length]; omega⟩, if_pos rfl, wants_head h hopen hlt, hu]
      have hscanning : u.Scanning (n + 1) all := hu ▸ h.addTask
      have hoffice : u.office = s.office := hu ▸ addTask_office s (.scan n .start)
      have hkept : u.decision.office = s.office := (decision_office (hoffice ▸ hbare)).trans hoffice
      have hmode' : u.decision.stc.mode = s.stc.mode := congrArg Office.mode hkept
      rw [hnext]
      refine ih (hscanning.decision (hoffice ▸ hbare)) (by omega) hlt (hkept ▸ hbare) (hmode' ▸ hmode) ?_
      refine unscanned_of_eq hopen (Nat.le_succ n) (fun c hc => ?_)
      rw [decision_smap (hoffice ▸ hbare), hu]
      exact (List.getElem?_modify_ne _ _ (by omega)).trans (List.getElem?_modify_ne _ _ (by omega))

/-! #### The settling of an event among scans -/

theorem Station.Scanning.settleRound (h : s.Scanning n all) (hbare : s.office.bare) (hfull : n = 24 ∨ n = all)
    (old : Station) : (s.settleRound old).Scanning n all := by
  have hack := h.faceAdvance.resumeMove.acknowledge
  have hoffice := (acknowledge_office s.faceAdvance.resumeMove)
  rw [resumeMove_office, faceAdvance_office] at hoffice
  have hdrive := hack.serveDrive old
  rw [settleRound_of_bare hbare, hack.serveAudit hfull]
  dsimp only
  split
  · exact hdrive.decision (by rw [serveDrive_office]; exact hoffice.bare hbare)
  · exact hdrive

theorem Station.Scanning.settleRounds (fuel : Nat) (old : Station) (h : s.Scanning n all) (hbare : s.office.bare)
    (hfull : n = 24 ∨ n = all) : (settleRounds fuel old s).Scanning n all := by
  induction fuel generalizing old s with
  | zero => exact h
  | succ fuel ih =>
    rw [Machine.settleRounds]
    split
    · exact h
    · exact ih s (h.settleRound hbare hfull old) ((settleRound_office hbare old).bare hbare)

theorem Station.Scanning.settle (h : s.Scanning n all) (hbare : s.office.bare) (hfull : n = 24 ∨ n = all)
    (old : Station) : (s.settle old).Scanning n all := by
  unfold Station.settle
  split
  · exact (h.settleRounds 16 old hbare hfull).of_eq rfl rfl rfl rfl rfl
  · exact h

end

end Sys2Proof.Machine
end

section
/-! ### O8 -/

namespace Sys2Proof.Machine

section
variable {s x : Station}

/-! #### The service hold that begins at the join (R189) -/

/-- The mode in which start leaves the station, a service hold included (R188, R189). -/
def Station.joinMode (s : Station) : Mode :=
  if s.stc.homed then (if s.pins.svcReq then .service else .running) else .halted

/-- The station with its service hold begun in the mode in which start ends, before the STS of a change of mode (R189). -/
def Station.heldAtJoin (s : Station) : Station :=
  if s.stc.mode = .running then
    { s with stc := { s.stc with mode := .service, hold := .waiting }, mpl := { s.mpl with held := none } }
  else { s with stc := { s.stc with hold := .waiting } }

theorem claimsOnService_of_no_records (h : s.clu.records = []) : s.claimsOnService = s := by
  unfold Station.claimsOnService Station.dropWhere
  rw [h]
  rfl

theorem takeService_of_bare (h : s.office.bare) (hhold : s.stc.hold = .none)
    (hmode : s.stc.mode = .running ∨ s.stc.mode = .halted) :
    s.takeService = if s.stc.mode = .running then s.heldAtJoin.statusTrigger else s.heldAtJoin := by
  unfold Station.takeService Station.heldAtJoin
  have hrecords : s.clu.records = [] := h.1
  rw [if_pos hhold]
  rcases hmode with hrunning | hhalted
  · rw [hrunning, if_pos rfl, if_pos rfl]
    exact congrArg Station.statusTrigger (claimsOnService_of_no_records hrecords)
  · rw [hhalted]
    rfl

theorem takeService_office (h : s.office.bare) (hhold : s.stc.hold = .none)
    (hmode : s.stc.mode = .running ∨ s.stc.mode = .halted) :
    s.takeService.office = { s.office with
      mode := if s.stc.mode = .running then .service else s.stc.mode, hold := .waiting } := by
  rw [takeService_of_bare h hhold hmode]
  unfold Station.heldAtJoin
  split
  · rw [statusTrigger_office]
    rfl
  · rfl

theorem takeService_view (h : s.office.bare) (hhold : s.stc.hold = .none)
    (hmode : s.stc.mode = .running ∨ s.stc.mode = .halted) :
    s.takeService.view = { s.view with stc := { s.view.stc with
      mode := if s.stc.mode = .running then .service else s.stc.mode } } := by
  rw [takeService_of_bare h hhold hmode]
  unfold Station.heldAtJoin
  split
  · rw [statusTrigger_view]
    rfl
  · rfl

theorem takeService_grown (h : s.office.bare) (hhold : s.stc.hold = .none)
    (hmode : s.stc.mode = .running ∨ s.stc.mode = .halted) : s.bus.Grown s.takeService.bus := by
  rw [takeService_of_bare h hhold hmode]
  have hheld : s.heldAtJoin.bus = s.bus := by
    unfold Station.heldAtJoin
    split <;> rfl
  split
  · exact hheld ▸ (Bus.Grown.refl s.heldAtJoin.bus).statusTrigger
  · exact hheld ▸ Bus.Grown.refl _

theorem Station.Scanning.takeService {n all : Nat} (hs : s.Scanning n all) (h : s.office.bare)
    (hhold : s.stc.hold = .none) (hmode : s.stc.mode = .running ∨ s.stc.mode = .halted) :
    s.takeService.Scanning n all := by
  have hheld : s.heldAtJoin.Scanning n all := by
    unfold Station.heldAtJoin
    split
    · exact hs.of_eq rfl rfl rfl rfl rfl
    · exact hs.of_eq rfl rfl rfl rfl rfl
  rw [takeService_of_bare h hhold hmode]
  split
  · have honly := (statusTrigger_notified s.heldAtJoin).only
    rw [honly]
    exact hheld.of_eq rfl rfl rfl rfl rfl
  · exact hheld

/-! #### The end of start (R188, R196) -/

theorem startMode_cases (s : Station) : s.startMode = .running ∨ s.startMode = .halted := by
  unfold Station.startMode
  split
  · exact .inl rfl
  · exact .inr rfl

theorem withScans_office (h : s.withJoin.office.bare) : s.withScans.office = s.withJoin.office := by
  have htrigger := statusTrigger_office s.withJoin
  exact (serveAudit_office true 24 (htrigger ▸ h)).trans htrigger

theorem withScans_grown (s : Station) : s.withJoin.statusTrigger.bus.Grown s.withScans.bus :=
  (Bus.Grown.refl _).serveAudit true 24

/-- With START scans asked for, the station is one whose service hold can begin (R189). -/
theorem withScans_serviceable (h : s.withJoin.office.bare) (hhold : s.stc.hold = .none) :
    s.withScans.office.bare ∧ s.withScans.stc.hold = .none ∧ s.withScans.stc.mode = s.startMode := by
  have hoffice := withScans_office h
  exact ⟨hoffice ▸ h, (congrArg Office.hold hoffice).trans hhold, (congrArg Office.mode hoffice :)⟩

theorem joinMode_eq (s : Station) : s.joinMode =
    if s.pins.svcReq then (if s.startMode = .running then .service else s.startMode) else s.startMode := by
  unfold Station.joinMode Station.startMode
  cases s.stc.homed <;> cases s.pins.svcReq <;> rfl

theorem startEnds_grown (h : s.withJoin.office.bare) (hhold : s.stc.hold = .none) :
    s.withJoin.statusTrigger.bus.Grown s.startEnds.bus := by
  obtain ⟨hbare, hnone, hmode⟩ := withScans_serviceable h hhold
  rw [startEnds_eq]
  split
  · exact (withScans_grown s).trans (takeService_grown hbare hnone (hmode ▸ startMode_cases s))
  · exact withScans_grown s

theorem startEnds_office (h : s.withJoin.office.bare) (hhold : s.stc.hold = .none) :
    s.startEnds.office = { s.withJoin.office with
      mode := s.joinMode, hold := if s.pins.svcReq then .waiting else .none } := by
  obtain ⟨hbare, hnone, hmode⟩ := withScans_serviceable h hhold
  have hoffice := withScans_office h
  rw [startEnds_eq, joinMode_eq]
  split
  · rw [takeService_office hbare hnone (hmode ▸ startMode_cases s), hoffice, hmode]
  · rw [hoffice, ← hhold]
    rfl

theorem startEnds_view (h : s.withJoin.office.bare) (hhold : s.stc.hold = .none) :
    s.startEnds.view = { s.withJoin.view with stc := { s.withJoin.view.stc with mode := s.joinMode } } := by
  obtain ⟨hbare, hnone, hmode⟩ := withScans_serviceable h hhold
  rw [startEnds_eq, joinMode_eq]
  split
  · rw [takeService_view hbare hnone (hmode ▸ startMode_cases s), withScans_view, hmode]
  · exact withScans_view s

theorem startEnds_scanning (h : s.withJoin.office.bare) (hhold : s.stc.hold = .none) (htasks : s.mpl.tasks = [])
    (hface : s.fct.task = none)
    (hcarriers : ∀ k ∈ s.smap.carriers, k.locks.unverified = true ∧ k.locks.audit = false ∧ k.rescan = none) :
    s.startEnds.Scanning (min 24 s.smap.carriers.length) s.smap.carriers.length := by
  obtain ⟨hbare, hnone, hmode⟩ := withScans_serviceable h hhold
  have hempty : s.withJoin.Scanning 0 s.smap.carriers.length :=
    ⟨congrArg (List.map (fun t => t.job)) htasks, by simp [Station.withJoin, htasks], .inl hface, rfl⟩
  have hoffice := statusTrigger_office s.withJoin
  have honly := (statusTrigger_notified s.withJoin).only
  have hscans : s.withScans.Scanning (min 24 s.smap.carriers.length) s.smap.carriers.length := by
    refine Station.Scanning.asks 24 (n := 0) ?_ rfl (Nat.zero_le _) (hoffice ▸ h) ?_ ?_
    · exact honly ▸ hempty.of_eq rfl rfl rfl rfl rfl
    · rw [show s.withJoin.statusTrigger.stc.mode = s.startMode from congrArg Office.mode hoffice]
      exact startMode_cases s
    · rw [honly]
      exact fun c k _ hk => hcarriers k (List.mem_of_getElem? hk)
  rw [startEnds_eq]
  split
  · exact hscans.takeService hbare hnone (hmode ▸ startMode_cases s)
  · exact hscans

/-- What a service hold and the last fault code show once the join has settled (R189, R188). -/
theorem settle_startEnds_office (h : s.withJoin.office.bare) (hhold : s.stc.hold = .none) (hack : s.pins.svcAck = false)
    (old : Station) :
    (s.startEnds.settle old).stc.lastFault = (if s.stc.homed then s.stc.lastFault else some .motionTimeout)
      ∧ (((s.startEnds.settle old).stc.hold = (if s.pins.svcReq then .waiting else .none)
          ∧ (s.startEnds.settle old).pins.svcAck = false)
        ∨ (s.pins.svcReq = true ∧ (s.startEnds.settle old).stc.hold = .acked
          ∧ (s.startEnds.settle old).pins.svcAck = true)) := by
  have hoffice := startEnds_office h hhold
  have hlater := settle_office old (hoffice ▸ h : s.startEnds.office.bare)
  rw [hoffice] at hlater
  rcases hlater with hsame | ⟨hwaiting, hacked⟩
  · exact ⟨(congrArg Office.lastFault hsame :), .inl ⟨(congrArg Office.hold hsame :),
      (congrArg Office.svcAck hsame :).trans hack⟩⟩
  · refine ⟨(congrArg Office.lastFault hacked :), .inr ⟨?_, (congrArg Office.hold hacked :), (congrArg Office.svcAck hacked :)⟩⟩
    by_contra hreq
    rw [if_neg hreq] at hwaiting
    cases hwaiting

end

/-- Settles O8: the join, the hold that SVC_REQ begins, and what follows, with no record and no group to be served. -/
theorem joinEndsStart : Obligations.JoinEndsStart := by
  intro occ z q hpower hstart hmode hhold hrecords hgroups hack
  obtain ⟨x, hx⟩ : ∃ x : Station, x = { z with pins := { z.pins with infeedOcc := occ } } := ⟨_, rfl⟩
  have hbare : x.withJoin.office.bare := hx ▸ ⟨hrecords, hgroups⟩
  have hnone : x.stc.hold = .none := hx ▸ hhold
  have hstep : exec (.join occ) ⟨z, q⟩ = .next ⟨x.startEnds.settle z, q⟩ := by
    have hjoin : z.whenOn (fun y => if y.stc.start = .joining then
        ({ y with pins := { y.pins with infeedOcc := occ } } : Station).startEnds else y) = x.startEnds := by
      rw [Station.whenOn, if_pos hpower, if_pos hstart, hx]
    exact congrArg (fun u : Station =>
      (.next { station := u.settle z, pending := q } : Host.Outcome State Fault Refusal)) hjoin
  have hview := (settle_view x.startEnds z).trans (startEnds_view hbare hnone)
  obtain ⟨hfault, hold⟩ := settle_startEnds_office hbare hnone (hx ▸ hack) z
  have hstc : x.stc = z.stc := hx ▸ rfl
  have hreq : x.pins.svcReq = z.pins.svcReq := hx ▸ rfl
  rw [hreq] at hold
  rw [hstc] at hfault
  refine ⟨_, hstep, hview.trans (hx ▸ rfl), fun hsvc => ?_, fun hsvc => ?_, ?_, hfault, fun hposts howed hw hsts => ?_,
    fun htasks hface hcarriers => ?_⟩
  · rw [if_pos hsvc] at hold
    exact hold.imp And.left (fun h => h.2.1)
  · rcases hold with ⟨hidle, -⟩ | ⟨hreq', -⟩
    · rw [hidle, hsvc]
      rfl
    · cases hreq'.symm.trans hsvc
  · rcases hold with ⟨hidle, hclear⟩ | ⟨-, hacked, hset⟩
    · rw [hidle, hclear]
      cases z.pins.svcReq <;> decide
    · rw [hacked, hset]
      exact iff_of_true rfl rfl
  · have hpost := statusTrigger_posts (s := x.withJoin) rfl
    subst hx
    obtain ⟨p, hp, hkind⟩ := hpost hw hsts hposts howed
    exact ⟨p, (settle_grown _ z).mem ((startEnds_grown hbare hnone).mem hp), hkind⟩
  · subst hx
    have hscanning := startEnds_scanning hbare hnone htasks hface hcarriers
    have hoffice := startEnds_office hbare hnone
    refine (hscanning.settle (hoffice ▸ hbare) ?_ z).jobs
    dsimp only
    omega

end Sys2Proof.Machine
end

section
/-! ### The lane rule under a step: a task name at the face that no task has (R115, R119, R153) -/

namespace Sys2Proof.Machine

/-- A WON pick of 8 tyres from one bay, whose PICK_STOP waits for its place (R95, R108). -/
def eightWon : PickBody where
  order := 1
  line := 1
  state := .won
  sel := [{ carrier := 0, bay := 0, qty := 8, week := 0, taskMark := false }]
  staged := 0
  readyOwed := false
  readySent := false

/-- Its record. -/
def eightWonRecord : LineRec where
  serial := 0
  article := 1
  qty := 8
  bid := {
    key := 0, best := some 0, windowStart := 0, sent := true, claim := none, close := none, expired := false
    closeOwed := false }
  body := .pick eightWon

/-- A group of another order with one tyre (R153). -/
def oneTyre : Group where
  order := 2
  returning := false
  tyres := [{
    serial := none, article := 1, week := 0, unitMass := 100, pitch := 200, origin := { carrier := 0, bay := 0 } }]
  release := .clear
  putbackMark := false
  putbackWanted := false
  stuck := false
  wantedDest := none
  readyHandles := []

/-- A station whose face holds the task name 0 while the task list is empty and 0 is the next name to be given. The names
are fresh in the sense of `Station.NamesFresh`, which looks at the tasks of the list alone. -/
def namedAhead : Station :=
  { Station.atStart .on Retained.blank Pins.quiet with
    stc := { Stc.atStart with mode := .running, start := .done, homed := true }
    bus := { Bus.atStart with joined := true, ready := true }
    clu := { records := [eightWonRecord], nextSerial := 1, notes := [] }
    fct := { Fct.atStart with task := some 0, stage := .cycle }
    cnu := { Cnu.atStart with groups := [oneTyre] } }

theorem namedAhead_namesFresh : namedAhead.NamesFresh := by
  unfold Station.NamesFresh
  decide

theorem namedAhead_laneRule : namedAhead.LaneRule := by
  have hpick : namedAhead.pickTotal 0 eightWon ≤ 8 := by decide
  refine ⟨by decide, nofun, fun r hr b hb => ?_, nofun, by decide, by decide, by decide, by decide⟩
  obtain rfl : r = eightWonRecord := List.mem_singleton.mp hr
  cases hb
  exact hpick

/-- The station after LANE_CLEAR_FALL (R145), with what the rules tie to the event: of `namedAhead`, the request for the
waiting PICK_STOP (R108, R117), and the new task takes the name that the face holds. -/
def Station.afterLaneFall (x : Station) : Station :=
  ({ x with pins := { x.pins with laneClear := false } } : Station).settle x

theorem step_laneClearFall (x : Station) (q : List Instr) :
    step { station := x, pending := .laneClearFall :: q } = .next { station := x.afterLaneFall, pending := q } := rfl

/-- The PICK_STOP of the 8 tyres, as it comes to stand at the face unasked. -/
def eightAtFace : Task where
  id := 0
  passed := 0
  removed := false
  job := .pickStop { serial := 0, order := 1, carrier := 0, bay := 0, qty := 8, article := 1, week := 0 }

theorem afterLaneFall_face : namedAhead.afterLaneFall.faceTask? = some eightAtFace ∧ namedAhead.afterLaneFall.cnu.laneTyres = 1 := by
  decide +kernel

/-- A PICK_STOP at the face, not removed by its owner, has room on the lane for its quantity (R119). -/
theorem laneTyres_le_of_laneRule {s : Station} {t : Task} {stop : PickStop} (h : s.LaneRule) (ht : s.faceTask? = some t)
    (hjob : t.job = .pickStop stop) (hremoved : t.removed = false) : s.cnu.laneTyres + stop.qty ≤ 8 := by
  obtain ⟨-, hroom, -⟩ := h
  have hface := hroom t ht
  rw [Station.faceRoom, hjob] at hface
  exact hface.2 hremoved

theorem afterLaneFall_not_laneRule : ¬ namedAhead.afterLaneFall.LaneRule := fun h => by
  obtain ⟨hface, htyres⟩ := afterLaneFall_face
  have hmany := laneTyres_le_of_laneRule h hface rfl rfl
  rw [htyres] at hmany
  exact absurd hmany (by decide)

/-- Refutes O58, in its clause of the lane rule: neither `NamesFresh` nor `LaneRule` keeps the face from holding a task name
that is still to be given, and the PICK_STOP added under that name stands at the face without the room that R119 asks:
8 tyres to come, with one on the lane. -/
theorem not_stepKeepsTables : ¬ Obligations.StepKeepsTables := fun h =>
  have hlane := (h _ _ (step_laneClearFall namedAhead [])).2.2
  afterLaneFall_not_laneRule (hlane namedAhead_namesFresh namedAhead_laneRule)

end Sys2Proof.Machine
end

section
/-! ### The acceptance checks on a frame (R78, R79, R81) -/

namespace Sys2Proof.Machine

/-- A code names the one kind whose code it is (R78). -/
theorem ofCode_eq_some_iff (n : Nat) (k : Kind) : Kind.ofCode n = some k ↔ n = k.code := by
  constructor
  · intro h
    unfold Kind.ofCode at h
    split at h <;> cases h <;> rfl
  · rintro rfl
    cases k <;> rfl

theorem accepted_iff (f : Frame) (k : Kind) :
    f.accepted = some k ↔ f.kind.toNat = k.code ∧ f.sender ≠ 0 ∧ k.lengthOk f.payload.length = true
      ∧ k.senderOk f.sender = true ∧ k.weekOk f.payload = true := by
  rw [Frame.accepted, Option.filter_eq_some_iff, ofCode_eq_some_iff]
  simp only [Bool.and_eq_true, decide_eq_true_eq, and_assoc]

/-- An OPN or a POF carries a week of 0..4095; no other kind is asked for one (R81 check 6). -/
theorem weekOk_iff (k : Kind) (p : List Byte) :
    k.weekOk p = true ↔ (k = .opn → payloadField p 3 2 ≤ 4095) ∧ (k = .pof → payloadField p 10 2 ≤ 4095) := by
  cases k <;> simp [Kind.weekOk]

/-- Settles O21: the code names the kind, and the checks on the length and on the sender are read off kind by kind. -/
theorem acceptanceChecks : Obligations.AcceptanceChecks := by
  intro f k
  rw [accepted_iff, weekOk_iff]
  refine and_congr_right fun _ => and_congr_right fun _ => and_congr ?_ (and_congr ?_ Iff.rfl)
  · cases k <;> simp [Kind.lengthOk, or_assoc]
  · cases k
    case abn => simp [Kind.senderOk]
    all_goals exact decide_eq_true_iff

end Sys2Proof.Machine
end

section
/-! ### Notices that leave the queue without other effect (R33, R78, R81, R172, R181, R193) -/

namespace Sys2Proof.Machine

theorem dropHead_eq_withQueue {x : Station} {f : Frame} {rest : List Frame} (hq : x.bus.rxq = f :: rest) :
    x.dropHead = x.withQueue rest := by
  simp [Station.dropHead, Station.withQueue, hq]

/-- The frame at the head of the queue, for a command that looks at its kind alone. -/
theorem headNotice_isSome_iff {x : Station} {f : Frame} {rest : List Frame} (hq : x.bus.rxq = f :: rest) (k : Kind) :
    (x.headNotice k).isSome = true ↔ f.accepted = some k := by
  simp [Station.headNotice, hq, Option.filter_some]

/-! #### A notice for another station -/

/-- The notice is for another station (R33, R172, R181, R193). -/
theorem targets_of_other {station : Nat} {p : List Byte} (hs : payloadField p 0 1 ≠ station) (h0 : payloadField p 0 1 ≠ 0) :
    targets station p = false := by
  simp [targets, hs, h0]

section
variable {s : Station} {p : List Byte} (h : targets s.cfg.station p = false)
include h

theorem putEach_rangeActed_of_other (r : Reason) (v : Bool) : s.putEach (s.rangeActed p) r v = s := by
  simp [Station.rangeActed, h, Station.putEach]

theorem putEach_allActed_of_other (r : Reason) (v : Bool) : s.putEach (s.allActed p) r v = s := by
  simp [Station.allActed, h, Station.putEach]

theorem unretire_rangeActed_of_other : (s.rangeActed p).foldl Station.unretire s = s := by
  simp [Station.rangeActed, h]

theorem takeSetCount_of_other : s.takeSetCount p = s := by
  simp [Station.takeSetCount, h]

theorem takeResume_of_other : s.takeResume p = s := by
  simp [Station.takeResume, h]

theorem requestEach_auditRange_of_other : s.requestEach (s.auditRange p) = s := by
  simp [Station.auditRange, h, Station.requestEach]

theorem requestEach_auditArticle_of_other : s.requestEach (s.auditArticle p) = s := by
  simp [Station.auditArticle, h, Station.requestEach]

end

/-- The commands that take a notice with a target: each with the kind of its notice and the action or selector it is for. -/
def targetedCommands : List (Instr × Kind × Option Nat) :=
  [(.cctHold, .cct, some 1), (.cctUnhold, .cct, some 2), (.cctHoldAll, .cct, some 3),
    (.cctUnholdAll, .cct, some 4), (.cctRetire, .cct, some 5), (.cctUnretire, .cct, some 6),
    (.cctClearQuarantine, .cct, some 7), (.cctSetCount, .cct, some 8), (.sctResume, .sct, none),
    (.arqByRange, .arq, some 1), (.arqByArticle, .arq, some 2), (.sqyTaken, .sqy, none)]

/-- Each of these commands takes a notice for another station off the queue, and does nothing else of its own. -/
theorem exec_targetedCommand_of_other {w : Instr × Kind × Option Nat} {x : Station} (q : List Instr) {f : Frame}
    {rest : List Frame} (hw : w ∈ targetedCommands) (hx : x.live) (hq : x.bus.rxq = f :: rest)
    (hf : f.accepted = some w.2.1) (hcode : ∀ n, w.2.2 = some n → payloadField f.payload 1 1 = n)
    (hother : targets x.cfg.station f.payload = false) :
    exec w.1 ⟨x, q⟩ = .next ⟨(x.withQueue rest).settle x, q⟩ := by
  have hout {u : Station} (h : u = x.withQueue rest) :
      (.next ⟨u.settle x, q⟩ : Host.Outcome State Fault Refusal) = .next ⟨(x.withQueue rest).settle x, q⟩ := by rw [h]
  have h : targets (x.withQueue rest).cfg.station f.payload = false := hother
  have hact : ∀ n, w.2.2 = some n → codeIs n f.payload = true := fun n hn => codeIs_of (hcode n hn)
  simp only [targetedCommands, List.mem_cons, List.not_mem_nil, or_false] at hw
  rcases hw with rfl | rfl | rfl | rfl | rfl | rfl | rfl | rfl | rfl | rfl | rfl | rfl
  · exact (answer_notice q hx hq hf (hact 1 rfl)).trans (hout (putEach_rangeActed_of_other h .held true))
  · exact (answer_notice q hx hq hf (hact 2 rfl)).trans (hout (putEach_rangeActed_of_other h .held false))
  · exact (answer_notice q hx hq hf (hact 3 rfl)).trans (hout (putEach_allActed_of_other h .held true))
  · exact (answer_notice q hx hq hf (hact 4 rfl)).trans (hout (putEach_allActed_of_other h .held false))
  · exact (answer_notice q hx hq hf (hact 5 rfl)).trans (hout (putEach_rangeActed_of_other h .retired true))
  · exact (answer_notice q hx hq hf (hact 6 rfl)).trans (hout (unretire_rangeActed_of_other h))
  · exact (answer_notice q hx hq hf (hact 7 rfl)).trans (hout (putEach_rangeActed_of_other h .quarantine false))
  · exact (answer_notice q hx hq hf (hact 8 rfl)).trans (hout (takeSetCount_of_other h))
  · exact (answer_notice q hx hq hf rfl).trans (hout (takeResume_of_other h))
  · exact (answer_notice q hx hq hf (hact 1 rfl)).trans (hout (requestEach_auditRange_of_other h))
  · exact (answer_notice q hx hq hf (hact 2 rfl)).trans (hout (requestEach_auditArticle_of_other h))
  · exact (answer_notice q hx hq hf rfl).trans (hout (if_neg (by simp [hother])))

/-- Settles O20: the frame that no command uses, the status frame, and the notice for another station. -/
theorem noticesWithoutEffect : Obligations.NoticesWithoutEffect := by
  intro x q f rest hx hq
  refine ⟨fun hunusable => answer_change q hx ?_, fun hstatus => answer_change q hx ?_,
    fun hs h0 w hw hf hcode => ⟨?_, settle_view _ _⟩⟩
  · rw [hq, List.head?_cons, Option.any_some, if_pos hunusable]
    exact dropHead_eq_withQueue hq
  · rw [if_pos]
    · exact dropHead_eq_withQueue hq
    · simpa only [Bool.or_eq_true, headNotice_isSome_iff hq, or_assoc] using hstatus
  · exact exec_targetedCommand_of_other q hw hx hq hf hcode (targets_of_other hs h0)

end Sys2Proof.Machine
end

section
/-! ### What is incoming to the bays, through the settling of an event with no group on the lane (R163, R165) -/

namespace Sys2Proof.Machine

/-- The incoming of every bay, carrier by carrier. -/
def Station.promises (s : Station) : List (List Nat) := s.smap.carriers.map (fun k => k.bays.map (fun b => b.incoming))

theorem incoming_of_promises {s t : Station} (h : t.promises = s.promises) (d : BayAddr) :
    (t.bay? d).map (fun b => b.incoming) = (s.bay? d).map (fun b => b.incoming) := by
  have hread : ∀ u : Station, (u.bay? d).map (fun b => b.incoming) =
      (u.promises[d.carrier]?).bind (fun l => l[d.bay]?) := by
    intro u
    simp only [Station.bay?, Station.carrier?, Station.promises, List.getElem?_map]
    cases u.smap.carriers[d.carrier]? <;> simp
  rw [hread, hread, h]

theorem groups_nil_of_view {s t : Station} (h : t.view = s.view) (hs : s.cnu.groups = []) : t.cnu.groups = [] := by
  have hgroups : t.cnu.groups.map Group.kept = s.cnu.groups.map Group.kept := congrArg View.groups h
  rw [hs] at hgroups
  exact List.map_eq_nil_iff.mp hgroups

section
variable (s : Station)

theorem updCarrier_promises (c : Nat) {f : Carrier → Carrier} (h : ∀ k, (f k).bays = k.bays) :
    (s.updCarrier c f).promises = s.promises := by
  refine map_modify_of_eq _ _ (fun k => ?_) _ _
  dsimp only
  split <;> rw [h]

theorem touch_promises (c : Nat) : (s.touch c).promises = s.promises := by
  have hput : (s.putReason c .touched true).promises = s.promises := updCarrier_promises s c (fun _ => rfl)
  unfold Station.touch
  dsimp only
  split
  · split <;> exact hput
  · exact hput

/-! #### The planner and the requests -/

theorem addTask_promises (j : Job) : (s.addTask j).promises = s.promises := by
  cases j
  case scan c p => exact updCarrier_promises _ c (fun _ => rfl)
  all_goals rfl

theorem startTask_promises (t : Task) : (s.startTask t).promises = s.promises := by
  unfold Station.startTask Station.atTarget
  dsimp only
  split_ifs <;> rfl

theorem withChosen_promises : s.withChosen.promises = s.promises := by
  unfold Station.withChosen
  split
  · rfl
  · exact startTask_promises _ _

theorem withChosen_view : s.withChosen.view = s.view := by
  unfold Station.withChosen
  split
  · rfl
  · exact (startTask_view _ _).trans (raisePassed_view _ _)

/-- With no group on the lane no PUTBACK is reported blocked to any effect (R128). -/
theorem decision_promises {s : Station} (h : s.cnu.groups = []) : s.decision.promises = s.promises := by
  have hgroups : s.withChosen.cnu.groups = [] := groups_nil_of_view (withChosen_view s) h
  have hdecision : s.decision = if s.mayDecide then s.withChosen else s := by
    unfold Station.decision
    dsimp only
    exact congrArg (fun u => if s.mayDecide = true then u else s) (foldl_reportBlocked hgroups)
  rw [hdecision]
  split
  · exact withChosen_promises s
  · rfl

theorem markWant_promises (w : ClaimWant) : (s.markWant w).promises = s.promises := by
  unfold Station.markWant
  split <;> rfl

theorem serveClaims_promises (fuel : Nat) {s : Station} (h : s.cnu.groups = []) :
    (s.serveClaims fuel).promises = s.promises := by
  induction fuel generalizing s with
  | zero => rfl
  | succ n ih =>
    unfold Station.serveClaims
    split
    · rfl
    · rename_i w _
      split
      · have hview : ((s.addTask w.job).markWant w).view = s.view := (markWant_view _ w).trans (addTask_view s w.job)
        have hmarked := groups_nil_of_view hview h
        rw [ih (groups_nil_of_view ((decision_view _).trans hview) h), decision_promises hmarked, markWant_promises,
          addTask_promises]
      · rfl

theorem serveAudit_promises (byCarrier : Bool) (fuel : Nat) {s : Station} (h : s.cnu.groups = []) :
    (s.serveAudit byCarrier fuel).promises = s.promises := by
  induction fuel generalizing s with
  | zero => rfl
  | succ n ih =>
    unfold Station.serveAudit
    split
    · split
      · rfl
      · rename_i c _ p _
        have hview : ((s.addTask (.scan c p)).setRescan c none).view = s.view :=
          (setRescan_view _ c none).trans (addTask_view s _)
        have hrescan : ((s.addTask (.scan c p)).setRescan c none).promises = s.promises :=
          (updCarrier_promises _ c (f := fun k => { k with rescan := none }) (fun _ => rfl)).trans (addTask_promises s _)
        rw [ih (groups_nil_of_view ((decision_view _).trans hview) h), decision_promises (groups_nil_of_view hview h),
          hrescan]
    · rfl

theorem postReady_promises (n : Nat) : (s.postReady n).promises = s.promises := by
  have hpost : ∀ k p, (s.post k p).2.promises = s.promises := fun k p => by
    unfold Station.promises
    rw [show (s.post k p).2.smap = s.smap from congrArg Steady.smap (post_steady s k p)]
  unfold Station.postReady
  split
  · rfl
  · rename_i b _
    have hready := hpost .rdy (rdyPayload b.order b.line)
    split
    · split
      all_goals
        rename_i h
        rw [h] at hready
        exact hready
    · rfl

theorem postReadies_promises : s.postReadies.promises = s.promises := by
  unfold Station.postReadies
  generalize s.clu.records.map (fun r => r.serial) = l
  induction l generalizing s with
  | nil => rfl
  | cons n l ih => rw [List.foldl_cons, ih, postReady_promises]

/-- With no group on the lane the Consolidation Unit asks for no PUTBACK. -/
theorem serveLane_promises {s : Station} (h : s.cnu.groups = []) (old : Station) :
    (s.serveLane old).promises = s.promises := by
  have hgroups := groups_nil_of_view (postReadies_view s) h
  have hposted := postReadies_promises s
  generalize hu : s.postReadies = u at hgroups hposted
  have hstart : u.beginPutback = u := by
    unfold Station.beginPutback Station.startPutback
    rw [hgroups]
    exact decideAfter_self u
  have hstuck : u.rechooseStuck = u := by
    unfold Station.rechooseStuck
    rw [hgroups]
    rfl
  have hput : u.servePutback = u := by
    unfold Station.servePutback
    rw [hgroups]
    rfl
  unfold Station.serveLane
  dsimp only
  rw [hu, hstart, hstuck, decideAfter_self, ite_self, hput, decideAfter_self, hposted]

/-! #### The face and the drives -/

theorem faceCheck_promises (t : Task) : (s.faceCheck t).promises = s.promises := by
  unfold Station.faceCheck
  split
  · unfold Station.pickStep Station.stow
    split_ifs <;> rfl
  · unfold Station.loadStep
    split_ifs <;> rfl
  · unfold Station.putbackStep
    split <;> split_ifs <;> rfl
  · rename_i c p _
    unfold Station.scanStep
    split
    · rfl
    · exact updCarrier_promises s c (fun _ => rfl)

theorem faceAdvance_promises : s.faceAdvance.promises = s.promises := by
  unfold Station.faceAdvance
  split
  · rfl
  · split
    · exact faceCheck_promises _ _
    · rfl
    · split
      · exact faceCheck_promises _ _
      · rfl
    · split
      · exact faceCheck_promises _ _
      · rfl
    · split
      · exact faceCheck_promises _ _
      · rfl
    · split <;> rfl

theorem acknowledge_promises : s.acknowledge.promises = s.promises := by
  unfold Station.acknowledge
  split
  · dsimp only
    split
    · exact touch_promises _ _
    · rfl
  · rfl

theorem resumeMove_promises : s.resumeMove.promises = s.promises := by
  unfold Station.resumeMove
  split <;> rfl

theorem serveDrive_promises (old : Station) : (s.serveDrive old).promises = s.promises := by
  unfold Station.serveDrive Station.beginSweep Station.beginRelease
  dsimp only
  split_ifs <;> rfl

end

/-! #### The settling of an event -/

theorem settleRound_promises {s : Station} (h : s.cnu.groups = []) (old : Station) :
    (s.settleRound old).promises = s.promises := by
  have hface : (s.faceAdvance.resumeMove.acknowledge).cnu.groups = [] := groups_nil_of_view (by simp) h
  have hfirst : (s.faceAdvance.resumeMove.acknowledge).promises = s.promises := by
    rw [acknowledge_promises, resumeMove_promises, faceAdvance_promises]
  unfold Station.settleRound
  generalize s.faceAdvance.resumeMove.acknowledge = u at hface hfirst
  have hlane := groups_nil_of_view (serveLane_view u old) hface
  have hclaims := groups_nil_of_view (serveClaims_view (u.serveLane old) 24) hlane
  have htasks : (u.serveTasks old).promises = s.promises := by
    unfold Station.serveTasks
    rw [serveAudit_promises _ 24 hclaims, serveClaims_promises 24 hlane, serveLane_promises hface, hfirst]
  have hdrive : ((u.serveTasks old).serveDrive old).promises = s.promises := by
    rw [serveDrive_promises, htasks]
  dsimp only
  split
  · rw [decision_promises (groups_nil_of_view (by simp) hface), hdrive]
  · exact hdrive

/-- What follows an event with no group on the lane leaves every bay's incoming as it is. -/
theorem settle_promises {s : Station} (h : s.cnu.groups = []) (old : Station) : (s.settle old).promises = s.promises := by
  have hrounds : ∀ (fuel : Nat) (old s : Station), s.cnu.groups = [] →
      (settleRounds fuel old s).promises = s.promises := by
    intro fuel
    induction fuel with
    | zero => exact fun _ _ _ => rfl
    | succ n ih =>
      intro old s h
      unfold settleRounds
      split
      · rfl
      · rw [ih s _ (groups_nil_of_view (settleRound_view s old) h), settleRound_promises h]
  unfold Station.settle
  split
  · exact hrounds 16 old s h
  · rfl

end Sys2Proof.Machine
end

section
/-! ### EXPECT and UNEXPECT at one bay (R12, R13, R6) -/

namespace Sys2Proof.Machine

/-! #### The article table through a change of a bay -/

theorem bay?_of_carriers {s t : Station} (h : t.smap.carriers = s.smap.carriers) (d : BayAddr) : t.bay? d = s.bay? d := by
  simp only [Station.bay?, Station.carrier?, h]

/-- No test of R4 takes the entry of an article that a bay is bound to. -/
theorem foldl_testArticle_article? (codes : List Nat) {t : Station} {d : BayAddr} {b : Bay} {x : Binding}
    (hb : t.bay? d = some b) (hx : b.binding = some x) :
    (codes.foldl (fun t code => t.testArticle code) t).smap.article? x.article = t.smap.article? x.article := by
  induction codes generalizing t with
  | nil => rfl
  | cons code codes ih =>
    have hneed : t.articleNeeded x.article = true := by
      rw [Station.bay?, Option.bind_eq_some_iff] at hb
      obtain ⟨k, hk, hbay⟩ := hb
      exact articleNeeded_of_bound (List.mem_of_getElem? hk) (List.mem_of_getElem? hbay) hx
    rw [List.foldl_cons, ih (by rw [bay?_of_carriers (testArticle_carriers t code), hb]),
      article?_testArticle (fun h => h ▸ hneed)]

theorem changeBay_article? {s : Station} {a d : BayAddr} {f : Bay → Bay} {b : Bay} {x : Binding}
    (hb : (s.changeBay a f).bay? d = some b) (hx : b.binding = some x) :
    (s.changeBay a f).smap.article? x.article = s.smap.article? x.article := by
  have hinner := bay?_of_carriers (changeBay_carriers s a f) d
  rw [hb] at hinner
  exact foldl_testArticle_article? _ hinner.symm hx

/-! #### EXPECT (R12, R6) -/

/-- The article has an entry, or a slot of the table is free (R4, R12). -/
theorem room_iff (s : Station) (code : Nat) :
    ((s.smap.article? code).isNone && !s.smap.articleRoom) = false ↔
      s.smap.article? code ≠ none ∨ none ∈ s.smap.articles := by
  have hfree : s.smap.articleRoom = true ↔ none ∈ s.smap.articles := by
    simp [Smap.articleRoom, List.any_eq_true]
  rw [← hfree]
  cases s.smap.article? code <;> simp

/-- The article's entry made where it has none (R4). -/
def Station.withEntry (s : Station) (a : Article) : Station :=
  if (s.smap.article? a.code).isNone then s.createArticle a else s

/-- The quantity expected at the bay, which is bound (R12). -/
def Bay.promised (b : Bay) (x : Binding) (qty : Nat) : Bay := { b with binding := some x, incoming := b.incoming + qty }

section
variable {s : Station} {addr : BayAddr} {week qty : Nat} {a : Article} {b : Bay}

theorem expect_of_accepted (hb : s.bay? addr = some b) (h : s.expectAnswer addr week qty a = .accepted) :
    s.expect addr week qty a =
      (.accepted, (s.withEntry a).changeBay addr (fun b => b.promised { article := a.code, week := week } qty)) := by
  unfold Station.expectAnswer at h
  unfold Station.expect
  rw [hb] at h ⊢
  dsimp only at h ⊢
  split_ifs at h ⊢ with _ _ _ hnone
  · rw [Station.withEntry, if_pos hnone]
    rfl
  · rw [Station.withEntry, if_neg hnone]
    rfl

theorem withEntry_carriers : (s.withEntry a).smap.carriers = s.smap.carriers := by
  unfold Station.withEntry
  split
  · exact createArticle_carriers a
  · rfl

theorem withEntry_article? (hroom : s.smap.article? a.code ≠ none ∨ none ∈ s.smap.articles) :
    (s.withEntry a).smap.article? a.code = some ((s.smap.article? a.code).getD a) := by
  unfold Station.withEntry
  cases he : s.smap.article? a.code with
  | some e => simp [he]
  | none =>
    have hfree : s.smap.articleRoom = true := by simpa [he] using (room_iff s a.code).mpr hroom
    rw [Option.isNone_none, if_pos rfl, article?_createArticle he hfree, if_pos rfl]
    rfl

/-- An EXPECT of at least one tyre, accepted: the entry stands, the bay is bound and its incoming raised, and every other
bay is as it was (R12). -/
theorem expect_accepted (hq : 1 ≤ qty) (hb : s.bay? addr = some b) (h : s.expectAnswer addr week qty a = .accepted)
    (hroom : s.smap.article? a.code ≠ none ∨ none ∈ s.smap.articles) :
    let y := (s.expect addr week qty a).2
    y.smap.article? a.code = some ((s.smap.article? a.code).getD a)
      ∧ y.bay? addr = some (b.promised { article := a.code, week := week } qty)
      ∧ ∀ d, d ≠ addr → y.bay? d = s.bay? d := by
  have hentry : ∀ d, (s.withEntry a).bay? d = s.bay? d := bay?_of_carriers withEntry_carriers
  have hbusy : (b.promised { article := a.code, week := week } qty).idle = false := by
    refine Bool.eq_false_iff.mpr fun hidle => ?_
    obtain ⟨-, -, hnone⟩ := (idle_iff _).mp hidle
    have hsum : b.incoming + qty = 0 := hnone
    omega
  have hbays : ∀ d, ((s.withEntry a).changeBay addr (fun b => b.promised { article := a.code, week := week } qty)).bay? d =
      (s.bay? d).map (fun b => if d = addr then b.promised { article := a.code, week := week } qty else b) := fun d => by
    rw [bay?_changeBay_of_busy _ _ _ ((hentry addr).trans hb) hbusy, hentry]
  have hbound : ((s.withEntry a).changeBay addr
      (fun b => b.promised { article := a.code, week := week } qty)).bay? addr =
      some (b.promised { article := a.code, week := week } qty) := by
    rw [hbays, hb]
    simp
  rw [expect_of_accepted hb h]
  refine ⟨?_, hbound, fun d hd => ?_⟩
  · exact (changeBay_article? hbound rfl).trans (withEntry_article? hroom)
  · rw [hbays]
    simp [hd]

end

/-! #### UNEXPECT (R13, R6) -/

/-- A carrier's bays, all of them empty, lose their bindings (R6). -/
theorem dropIdle_eq (bays : List Bay) :
    dropIdle bays = if ∀ z ∈ bays, z.count = 0 ∧ z.reserved = 0 ∧ z.incoming = 0
      then bays.map (fun z => { z with binding := none, grade := .none, unsureOnce := false }) else bays := by
  have hall : bays.all (fun z => z.idle) = true ↔ ∀ z ∈ bays, z.count = 0 ∧ z.reserved = 0 ∧ z.incoming = 0 := by
    simp only [List.all_eq_true, idle_iff]
  unfold dropIdle
  simp only [hall]
  rfl

theorem unexpect_of_missing {s : Station} {addr : BayAddr} (qty : Nat) (h : s.bay? addr = none) :
    s.unexpect addr qty = s := by
  simp [Station.unexpect, h]

theorem unexpect_of_bay {s : Station} {addr : BayAddr} {b : Bay} (qty : Nat) (h : s.bay? addr = some b) :
    s.unexpect addr qty = s.changeBay addr (fun b => { b with incoming := b.incoming - qty }) := by
  simp [Station.unexpect, h]

theorem changeBay_other_carrier {s : Station} {a d : BayAddr} (f : Bay → Bay) (h : d.carrier ≠ a.carrier) :
    (s.changeBay a f).bay? d = s.bay? d := by
  rw [bay?_eq, changeBay_bays, bay?_eq]
  simp [Ne.symm h]

theorem modify_eq_set {α : Type} {l : List α} {i : Nat} {x : α} (f : α → α) (h : l[i]? = some x) :
    l.modify i f = l.set i (f x) := by
  rw [List.modify_eq_set_getElem?, h]
  rfl

/-- The bays of the carrier after a change of one of them. -/
theorem changeBay_own_carrier {s : Station} {a : BayAddr} {k : Carrier} {b : Bay} (f : Bay → Bay)
    (hk : s.smap.carriers[a.carrier]? = some k) (hb : k.bays[a.bay]? = some b) :
    ((s.changeBay a f).smap.carriers[a.carrier]?).map (fun k => k.bays) = some (dropIdle (k.bays.set a.bay (f b))) := by
  have hbays := changeBay_bays s a f a.carrier
  rw [show s.carrier? a.carrier = some k from hk, Option.map_some, if_pos rfl, modify_eq_set f hb] at hbays
  exact hbays

end Sys2Proof.Machine
end

section
/-! ### The putaway offer: its tests, a bid made, a bid refused (R83, R96, R99, R100, R101) -/

namespace Sys2Proof.Machine

theorem exec_pofTaken {x : Station} (q : List Instr) {f : Frame} {rest : List Frame} (hx : x.live)
    (hq : x.bus.rxq = f :: rest) (hf : f.accepted = some .pof) :
    exec .pofTaken ⟨x, q⟩ = .next ⟨((x.withQueue rest).hearPutawayOffer f.payload).settle x, q⟩ :=
  answer_notice q hx hq hf rfl

/-! #### The tests -/

theorem pofTests_iff (s : Station) (number qty : Nat) (a : Article) :
    s.pofTests number qty a = true ↔
      (1 ≤ qty ∧ qty ≤ 8) ∧ a.code ≠ 0 ∧ (20 ≤ a.unitMass ∧ a.unitMass ≤ 600) ∧ (150 ≤ a.pitch ∧ a.pitch ≤ 400)
        ∧ (∀ r ∈ s.clu.records, r.round ≠ .putaway number)
        ∧ s.stc.mode = .running ∧ (s.bus.standing = .active ∨ s.bus.standing = .caution)
        ∧ s.clu.records.length < 24 ∧ (s.bus.posts.filter (fun p => p.kind.claimClass)).length < 8
        ∧ s.fct.infeed ≠ .surplus ∧ (s.smap.article? a.code ≠ none ∨ none ∈ s.smap.articles) := by
  have hround : s.holdsRound (.putaway number) = false ↔ ∀ r ∈ s.clu.records, r.round ≠ .putaway number := by
    simp [Station.holdsRound]
  have hblock : s.fct.infeedBlock = false ↔ s.fct.infeed ≠ .surplus := by
    simp [Fct.infeedBlock]
  have hroom : ((s.smap.article? a.code).isSome || s.smap.articleRoom) = true ↔
      s.smap.article? a.code ≠ none ∨ none ∈ s.smap.articles := by
    rw [← room_iff]
    cases s.smap.article? a.code <;> cases s.smap.articleRoom <;> simp
  rw [Station.pofTests, Bool.and_eq_true, Bool.and_eq_true, Bool.and_eq_true, Bool.and_eq_true, Bool.not_eq_true',
    Bool.not_eq_true', hround, mayBid_iff, hblock, hroom, decide_eq_true_iff]
  tauto

/-! #### The offer at the Claim Unit -/

/-- The article as the POF gives it (R79). -/
def offeredArticle (p : List Byte) : Article where
  code := payloadField p 2 3
  unitMass := payloadField p 6 2
  pitch := payloadField p 8 2

/-- The article that is bid for: its entry, or what the POF carries (R49). -/
def Station.bidArticle (s : Station) (p : List Byte) : Article :=
  (s.smap.article? (offeredArticle p).code).getD (offeredArticle p)

/-- The putaway record's own fields at a bid on the offer (R96). -/
def offeredPut (p : List Byte) (target : BayAddr) : PutBody where
  number := payloadField p 0 2
  week := payloadField p 10 2
  target := target
  state := .tentative
  arrived := 0
  stored := 0
  lastArrival := 0
  loadMark := false

/-- The week of the offer heard (R83). -/
abbrev Station.offerHeard (s : Station) (p : List Byte) : Station := s.hearWeek (payloadField p 10 2)

section
variable {s t : Station} {p : List Byte} {c : PutCand}

theorem bidPutaway_of_no_bay {number week qty : Nat} {offered : Article}
    (h : s.chosenBay ((s.smap.article? offered.code).getD offered) week qty = none) :
    s.bidPutaway number week qty offered = s := by
  simp only [Station.bidPutaway, h]

theorem bidPutaway_of_expected {number week qty : Nat} {offered : Article}
    (hbay : s.chosenBay ((s.smap.article? offered.code).getD offered) week qty = some c)
    (hexpect : s.expect c.addr week qty ((s.smap.article? offered.code).getD offered) = (.accepted, t)) :
    s.bidPutaway number week qty offered = t.openRecord ((s.smap.article? offered.code).getD offered).code qty
      (claimKey c.cost s.cfg.station) (.putaway {
        number := number, week := week, target := c.addr, state := .tentative, arrived := 0, stored := 0
        lastArrival := 0, loadMark := false }) := by
  simp only [Station.bidPutaway, hbay, hexpect]

theorem hearPutawayOffer_of_failed
    (h : (s.offerHeard p).pofTests (payloadField p 0 2) (payloadField p 5 1) (offeredArticle p) = false
      ∨ (s.offerHeard p).chosenBay (s.bidArticle p) (payloadField p 10 2) (payloadField p 5 1) = none) :
    s.hearPutawayOffer p = s.offerHeard p := by
  rcases h with h | h
  · exact if_neg (fun htests => by cases h.symm.trans htests)
  · exact ite_eq_right_iff.mpr (fun _ => bidPutaway_of_no_bay h)

theorem hearPutawayOffer_of_expected
    (htests : (s.offerHeard p).pofTests (payloadField p 0 2) (payloadField p 5 1) (offeredArticle p) = true)
    (hbay : (s.offerHeard p).chosenBay (s.bidArticle p) (payloadField p 10 2) (payloadField p 5 1) = some c)
    (hexpect : (s.offerHeard p).expect c.addr (payloadField p 10 2) (payloadField p 5 1) (s.bidArticle p) =
      (.accepted, t)) :
    s.hearPutawayOffer p = t.openRecord (s.bidArticle p).code (payloadField p 5 1) (claimKey c.cost s.cfg.station)
      (.putaway (offeredPut p c.addr)) :=
  (if_pos htests).trans (bidPutaway_of_expected hbay hexpect)

end

/-! #### A bid whose CLM is refused leaves nothing (R101 step 4) -/

theorem OnlySmap.fct {s t : Station} (h : OnlySmap s t) : t.fct = s.fct := by
  unfold OnlySmap at h
  rw [h]

/-- A TENTATIVE putaway record with nothing posted and no tyre at the infeed is removed with its expectation. -/
theorem dropRecord_of_unposted_put {s : Station} {n : Nat} {r : LineRec} {b : PutBody} (hr : s.record? n = some r)
    (hbody : r.body = .putaway b) (hclaim : r.bid.claim = none) (hclose : r.bid.close = none)
    (hinfeed : s.fct.infeed ≠ .ofRecord n) :
    s.dropRecord n = ((((s.withoutRecord n).unexpect b.target
      (r.qty - b.stored - (s.withoutRecord n).storeHeld n)).removeJobs (Job.ofRecord n))).testArticle r.article := by
  have hbid : ((s.withoutRecord n).withdrawBid r).keepNote r = s.withoutRecord n := by
    simp [Station.withdrawBid, Station.keepNote, Station.withdraw, hclaim, hclose]
  have honly := unexpect_onlySmap (s.withoutRecord n) b.target (r.qty - b.stored - (s.withoutRecord n).storeHeld n)
  rw [dropRecord_eq hr, hbid]
  unfold Station.giveBack
  rw [hbody]
  dsimp only
  unfold Station.putawayEnded
  rw [if_neg]
  exact fun h => hinfeed ((congrArg Fct.infeed honly.fct).symm.trans h)

/-- An expectation taken back leaves the incoming of every bay as it was before (R12, R13). -/
theorem unexpect_expect_incoming {s t w : Station} {addr : BayAddr} {week qty : Nat} {a : Article}
    (h : s.expect addr week qty a = (.accepted, t)) (hw : w.smap = t.smap) (d : BayAddr) :
    ((w.unexpect addr qty).bay? d).map (fun b => b.incoming) = (s.bay? d).map (fun b => b.incoming) := by
  have haccepted : s.expectAnswer addr week qty a = .accepted := by rw [← expect_fst, h]
  obtain ⟨b, hb⟩ : ∃ b, s.bay? addr = some b := by
    unfold Station.expectAnswer at haccepted
    cases hb : s.bay? addr with
    | none => rw [hb] at haccepted; cases haccepted
    | some b => exact ⟨b, rfl⟩
  have ht : t = (s.withEntry a).changeBay addr (fun b => b.promised { article := a.code, week := week } qty) := by
    rw [expect_of_accepted hb haccepted] at h
    exact (Prod.mk.inj h).2.symm
  have hup : ∀ d, (w.bay? d).map Bay.figures =
      ((s.bay? d).map Bay.figures).map (fun x => if d = addr then (x.1, x.2.1, x.2.2 + qty) else x) := fun d => by
    have hchange := figures_changeBay (s.withEntry a) addr d
      (f := fun b => b.promised { article := a.code, week := week } qty)
      (g := fun x => (x.1, x.2.1, x.2.2 + qty)) (fun _ => rfl)
    rwa [← ht, ← bay?_of_carriers (congrArg Smap.carriers hw) d, bay?_of_carriers withEntry_carriers d] at hchange
  obtain ⟨b', hb'⟩ : ∃ b', w.bay? addr = some b' := by
    have hsome := hup addr
    rw [hb] at hsome
    obtain ⟨b', hb', -⟩ := Option.map_eq_some_iff.mp hsome
    exact ⟨b', hb'⟩
  have hdown := figures_changeBay w addr d (f := fun b => { b with incoming := b.incoming - qty })
    (g := fun x => (x.1, x.2.1, x.2.2 - qty)) (fun _ => rfl)
  have hincoming : ∀ o : Option Bay, o.map (fun b => b.incoming) = (o.map Bay.figures).map (fun x => x.2.2) := fun o => by
    cases o <;> rfl
  rw [unexpect_of_bay qty hb', hincoming, hincoming, hdown, hup, Option.map_map, Option.map_map]
  refine Option.map_congr fun x _ => ?_
  by_cases hd : d = addr <;> simp [hd]

theorem onlySmap_of_expect {s t : Station} {addr : BayAddr} {week qty : Nat} {a : Article} {r : SmapAnswer}
    (h : s.expect addr week qty a = (r, t)) : OnlySmap s t := by
  have honly := expect_onlySmap s addr week qty a
  rwa [h] at honly

/-- A bid whose CLM is refused, after an EXPECT of its quantity: the record and its expectation are gone again, and no post
is made. -/
theorem openRecord_unexpected {s t : Station} {b : PutBody} {week qty key : Nat} {a : Article}
    (hexpect : s.expect b.target week qty a = (.accepted, t)) (hstored : b.stored = 0)
    (hfresh : ∀ r ∈ s.clu.records, r.serial < s.clu.nextSerial) (hcycle : s.fct.cycle = none)
    (hinfeed : s.fct.infeed ≠ .ofRecord s.clu.nextSerial) (hclm : s.bus.accepts .clm = false) :
    let z := t.openRecord a.code qty key (.putaway b)
    z.view = s.view ∧ z.bus = s.bus
      ∧ ∀ d, (z.bay? d).map (fun b => b.incoming) = (s.bay? d).map (fun b => b.incoming) := by
  have honly := onlySmap_of_expect hexpect
  have hview : t.view = s.view := by
    have h := expect_view s b.target week qty a
    rwa [hexpect] at h
  have hclu := honly.clu
  have hfct := honly.fct
  rw [← hclu] at hfresh hinfeed
  rw [← hfct] at hcycle hinfeed
  have hrecord := withNewRecord_record? (s := t) a.code qty key (.putaway b) hfresh
  have hw : (t.withNewRecord a.code qty key (.putaway b)).withoutRecord t.clu.nextSerial =
      { t with clu := { t.clu with nextSerial := t.clu.nextSerial + 1 } } := by
    have hfilter := withNewRecord_filter (s := t) a.code qty key (.putaway b) hfresh
    unfold Station.withoutRecord
    rw [hfilter]
    rfl
  have hheld : ({ t with clu := { t.clu with nextSerial := t.clu.nextSerial + 1 } } : Station).storeHeld
      t.clu.nextSerial = 0 := by
    simp [Station.storeHeld, hcycle]
  dsimp only
  rw [openRecord_of_refused a.code qty key _ (by rw [honly.bus]; exact hclm),
    dropRecord_of_unposted_put hrecord rfl rfl rfl (by exact hinfeed), hw, hheld, hstored]
  refine ⟨?_, ?_, fun d => ?_⟩
  · exact (testArticle_view _ _).trans ((unexpect_view _ _ _).trans hview)
  · exact (testArticle_onlySmap _ _).bus.trans ((unexpect_onlySmap _ _ _).bus.trans honly.bus)
  · rw [bay?_of_carriers (testArticle_carriers _ _) d]
    exact unexpect_expect_incoming (w := { t with clu := { t.clu with nextSerial := t.clu.nextSerial + 1 } }) hexpect rfl d

/-- A bid whose CLM is refused leaves the view, the Bus Interface and what is incoming to the bays as they were. -/
theorem hearPutawayOffer_of_refused {s t : Station} {p : List Byte} {c : PutCand}
    (htests : (s.offerHeard p).pofTests (payloadField p 0 2) (payloadField p 5 1) (offeredArticle p) = true)
    (hbay : (s.offerHeard p).chosenBay (s.bidArticle p) (payloadField p 10 2) (payloadField p 5 1) = some c)
    (hexpect : (s.offerHeard p).expect c.addr (payloadField p 10 2) (payloadField p 5 1) (s.bidArticle p) =
      (.accepted, t))
    (hfresh : ∀ r ∈ s.clu.records, r.serial < s.clu.nextSerial) (hcycle : s.fct.cycle = none)
    (hinfeed : s.fct.infeed ≠ .ofRecord s.clu.nextSerial) (hclm : s.bus.accepts .clm = false) :
    (s.hearPutawayOffer p).view = (s.offerHeard p).view ∧ (s.hearPutawayOffer p).bus = s.bus
      ∧ ∀ d, ((s.hearPutawayOffer p).bay? d).map (fun b => b.incoming) = (s.bay? d).map (fun b => b.incoming) := by
  rw [hearPutawayOffer_of_expected htests hbay hexpect]
  exact openRecord_unexpected (b := offeredPut p c.addr) hexpect rfl hfresh hcycle hinfeed hclm

/-! #### EXPECT, answer by answer -/

/-- EXPECT at a bay that exists, case by case (R12, R6). -/
theorem expectAnswer_of_bay {s : Station} {addr : BayAddr} (week qty : Nat) (a : Article) {b : Bay}
    (hb : s.bay? addr = some b) :
    let allowed := b.expectable { article := a.code, week := week } = true
    let room := s.smap.article? a.code ≠ none ∨ none ∈ s.smap.articles
    let fits := b.count + b.incoming + qty ≤ capB s.cfg.h ((s.smap.article? a.code).getD a).pitch
    (¬ allowed → s.expectAnswer addr week qty a = .wrongBinding)
      ∧ (allowed → ¬ room → s.expectAnswer addr week qty a = .tableFull)
      ∧ (allowed → room → ¬ fits → s.expectAnswer addr week qty a = .noRoom)
      ∧ (allowed → room → fits → s.expectAnswer addr week qty a = .accepted) := by
  unfold Station.expectAnswer
  rw [hb, ← room_iff]
  dsimp only
  refine ⟨fun ha => ?_, fun ha hr => ?_, fun ha hr hf => ?_, fun ha hr hf => ?_⟩
  · rw [if_pos (by simpa using ha)]
  · rw [if_neg (by simp [ha]), if_pos (by simpa using hr)]
  · rw [if_neg (by simp [ha]), if_neg (by simp [hr]), if_neg hf]
  · rw [if_neg (by simp [ha]), if_neg (by simp [hr]), if_pos hf]

theorem expect_of_answer {s : Station} {addr : BayAddr} {week qty : Nat} {a : Article} {r : SmapAnswer}
    (h : s.expectAnswer addr week qty a = r) (hr : r ≠ .accepted) : s.expect addr week qty a = (r, s) := by
  subst h
  exact Prod.ext (expect_fst s addr week qty a) (expect_of_refused s hr)

/-- Settles O30: the offer bid, refused and failed; its tests; EXPECT; UNEXPECT. -/
theorem putawayOfferBid : Obligations.PutawayOfferBid := by
  refine ⟨fun x q f rest hx hq hf => ⟨?_, ?_, ?_⟩, pofTests_iff, fun x addr week qty a hqty => ⟨fun hnone => ?_, ?_⟩,
    fun x addr qty => ⟨unexpect_of_missing qty, fun k b hk hb => ?_⟩⟩
  · intro c t htests hbay hexpect hclm hfresh
    refine ⟨?_, settle_view _ _⟩
    have honly := onlySmap_of_expect hexpect
    unfold OnlySmap at honly
    rw [exec_pofTaken q hx hq hf, hearPutawayOffer_of_expected (s := x.withQueue rest) htests hbay hexpect, honly,
      openRecord_of_accepted _ _ _ _ (by exact hfresh) (by exact hclm)]
    rfl
  · intro c t htests hbay hexpect hclm hnames hcycle hinfeed hgroups
    obtain ⟨-, hfresh, -⟩ := hnames
    obtain ⟨hview, hbus, hincoming⟩ := hearPutawayOffer_of_refused (s := x.withQueue rest) htests hbay hexpect hfresh hcycle
      hinfeed hclm
    have hpromises := settle_promises (groups_nil_of_view hview hgroups) x
    refine ⟨_, exec_pofTaken q hx hq hf, (settle_view _ _).trans hview, fun d b hb => ?_, fun p hp hkind => ?_⟩
    · have hd := (incoming_of_promises hpromises d).trans (hincoming d)
      rw [show (x.withQueue rest).bay? d = some b from hb] at hd
      obtain ⟨b', hb', hsame⟩ := Option.map_eq_some_iff.mp hd
      exact ⟨b', hb', hsame⟩
    · have hposts := mem_posts_of_settle hp (by simp [hkind])
      rwa [hbus] at hposts
  · intro h
    rw [exec_pofTaken q hx hq hf, hearPutawayOffer_of_failed (s := x.withQueue rest) h]
    exact ⟨rfl, settle_view _ _⟩
  · exact expect_of_answer (by rw [Station.expectAnswer, hnone]) nofun
  · intro b hb
    obtain ⟨hwrong, hfull, hno, hyes⟩ := expectAnswer_of_bay week qty a hb
    rw [expectable_iff] at hwrong hfull hno hyes
    refine ⟨fun ha => expect_of_answer (hwrong ha) nofun, fun ha hr => expect_of_answer (hfull ha hr) nofun,
      fun ha hr hf => expect_of_answer (hno ha hr hf) nofun, fun ha hr hf => ?_⟩
    have hanswer := hyes ha hr hf
    obtain ⟨hentry, hbay, hother⟩ := expect_accepted hqty hb hanswer hr
    exact ⟨(expect_fst x addr week qty a).trans hanswer, expect_onlySmap x addr week qty a, hentry, hbay, hother⟩
  · have hbay : x.bay? addr = some b := by
      rw [Station.bay?, Station.carrier?, hk]
      exact hb
    dsimp only
    rw [unexpect_of_bay qty hbay, ← dropIdle_eq]
    exact ⟨changeBay_own_carrier _ hk hb, changeBay_onlySmap _ _ _, fun d hd => changeBay_other_carrier _ hd⟩

end Sys2Proof.Machine
end

section
/-! ### The putback of a RETURNING head group: its destination, its start, and that it follows every event (R163, R164) -/

namespace Sys2Proof.Machine

/-! #### The destination (R164) -/

theorem OnlySmap.cnu {s t : Station} (h : OnlySmap s t) : t.cnu = s.cnu := by
  unfold OnlySmap at h
  rw [h]

theorem originTakes_iff (x : Station) (t : Tyre) :
    x.originTakes t = true ↔ x.mayStore t.origin.carrier = true ∧ ∃ b, x.bay? t.origin = some b
      ∧ b.binding = some { article := t.article, week := t.week }
      ∧ b.count + b.incoming + 1 ≤ capB x.cfg.h (x.tyreArticle t).pitch := by
  unfold Station.originTakes
  cases x.bay? t.origin <;> simp

theorem expectDest_of_no_choice {x : Station} {t : Tyre} (h : x.destChoice t = none) : x.expectDest t = (none, x) := by
  have htry : x.tryDest t = (none, x) := by
    unfold Station.tryDest
    rw [h]
  unfold Station.expectDest
  rw [htry]
  exact htry

theorem expectDest_of_accepted {x : Station} {t : Tyre} {d : BayAddr} (h : x.destChoice t = some d)
    (he : (x.expect d t.week 1 (x.tyreArticle t)).1 = .accepted) :
    x.expectDest t = (some d, (x.expect d t.week 1 (x.tyreArticle t)).2) := by
  have htry : x.tryDest t = (some d, (x.expect d t.week 1 (x.tyreArticle t)).2) := by
    unfold Station.tryDest
    rw [h]
    dsimp only
    rw [show x.expect d t.week 1 (x.tyreArticle t) = (.accepted, (x.expect d t.week 1 (x.tyreArticle t)).2) from
      Prod.ext he rfl]
  unfold Station.expectDest
  rw [htry]

/-- The original bay where that takes the tyre, else the bay of R52, else none. -/
theorem destChoice_eq (x : Station) (t : Tyre) :
    x.destChoice t = if x.originTakes t = true then some t.origin
      else (x.chosenBay (x.tyreArticle t) t.week 1).map (fun c => c.addr) := rfl

/-! #### The start of a putback (R163) -/

section
variable {s : Station} {g : Group} {gs : List Group}

/-- A change of the head group where no other group is of its order. -/
theorem updGroup_sole_head {f : Group → Group} (hs : s.cnu.groups = g :: gs) (hother : ∀ h ∈ gs, h.order ≠ g.order) :
    (s.updGroup g.order f).cnu.groups = f g :: gs := by
  have hrest : gs.map (fun h => if h.order = g.order then f h else h) = gs :=
    (List.map_congr_left fun h hh => if_neg (hother h hh)).trans (List.map_id' gs)
  simp only [Station.updGroup, hs, List.map_cons, if_true, hrest]

theorem group?_head (hs : s.cnu.groups = g :: gs) : s.group? g.order = some g := by
  simp [Station.group?, hs]

/-- The stuck mark of the head group follows the destination, with STAGING_STUCK as it becomes set (R164). -/
theorem markStuck_sole_head (hs : s.cnu.groups = g :: gs) (hother : ∀ h ∈ gs, h.order ≠ g.order) (dest : Option BayAddr) :
    (s.markStuck g.order dest).cnu.groups = { g with stuck := dest.isNone } :: gs
      ∧ (s.markStuck g.order dest).mpl = s.mpl
      ∧ (s.markStuck g.order dest).stc.lastFault =
          if dest = none ∧ g.stuck = false then some .stagingStuck else s.stc.lastFault := by
  unfold Station.markStuck
  cases dest with
  | some d =>
    refine ⟨updGroup_sole_head hs hother, rfl, ?_⟩
    simp [Station.updGroup]
  | none =>
    dsimp only
    rw [group?_head hs, Option.any_some]
    cases hstuck : g.stuck with
    | true =>
      refine ⟨?_, rfl, by simp⟩
      rw [if_pos rfl, hs, Option.isNone_none, ← hstuck]
    | false =>
      unfold Station.nonHaltingFault
      have hgroups := updGroup_sole_head (f := fun g => { g with stuck := true }) hs hother
      generalize hu : s.updGroup g.order (fun g => { g with stuck := true }) = u at hgroups
      have hoffice := statusTrigger_office { u with stc := { u.stc with lastFault := some .stagingStuck } }
      have hsteady := statusTrigger_steady { u with stc := { u.stc with lastFault := some .stagingStuck } }
      refine ⟨?_, (congrArg Steady.mpl hsteady).trans (by rw [← hu]; rfl), ?_⟩
      · exact (congrArg (fun o : Office => o.cnu.groups) hoffice).trans hgroups
      · exact congrArg Office.lastFault hoffice

/-- The PUTBACK of the head group asked for: added where the list has room, else wanted (R163). -/
theorem askPutback_sole_head (hs : s.cnu.groups = g :: gs) (hother : ∀ h ∈ gs, h.order ≠ g.order) (hmark : g.putbackMark = false)
    (dest : Option BayAddr) :
    let y := s.askPutback g.order dest
    let room := s.mpl.tasks.length < 24
    (∃ h, y.cnu.groups = h :: gs ∧ h.stuck = dest.isNone ∧ h.kept = g.kept ∧ h.putbackMark = decide room
        ∧ h.putbackWanted = decide (¬ room) ∧ h.wantedDest = if room then none else dest)
      ∧ y.mpl.tasks = s.mpl.tasks ++ (if room then
          [{ id := s.mpl.nextTask, passed := 0, removed := false, job := .putback g.order dest }] else [])
      ∧ y.stc.lastFault = if dest = none ∧ g.stuck = false then some .stagingStuck else s.stc.lastFault := by
  obtain ⟨hgroups, hmpl, hfault⟩ := markStuck_sole_head hs hother dest
  dsimp only
  unfold Station.askPutback
  dsimp only
  generalize s.markStuck g.order dest = u at hgroups hmpl hfault
  have haccepts : u.acceptsTask (.putback g.order dest) = true ↔ s.mpl.tasks.length < 24 := by
    simp [Station.acceptsTask, hmpl]
  by_cases hroom : s.mpl.tasks.length < 24
  · rw [if_pos (haccepts.mpr hroom)]
    refine ⟨⟨_, updGroup_sole_head (s := u.addTask (.putback g.order dest)) (g := { g with stuck := dest.isNone }) hgroups hother,
      rfl, rfl, by simp [hroom], by simp [hroom], by simp [hroom]⟩, ?_, hfault⟩
    simp [Station.updGroup, Station.addTask, hmpl, hroom]
  · rw [if_neg (fun h => hroom (haccepts.mp h))]
    refine ⟨⟨_, updGroup_sole_head (g := { g with stuck := dest.isNone }) hgroups hother, rfl, rfl, by simp [hroom, hmark],
      by simp [hroom], by simp [hroom]⟩, ?_, hfault⟩
    simp [Station.updGroup, hmpl, hroom]

end

theorem startPutback_eq {x u : Station} {g : Group} {gs : List Group} {t : Tyre} {ts : List Tyre} {dest : Option BayAddr}
    (hgroups : x.cnu.groups = g :: gs) (htyres : g.tyres = t :: ts) (hreturning : g.returning = true)
    (hrelease : g.release = .clear) (hmark : g.putbackMark = false) (hwanted : g.putbackWanted = false)
    (hdest : x.expectDest t = (dest, u)) : x.startPutback = u.askPutback g.order dest := by
  simp [Station.startPutback, hgroups, htyres, hreturning, Group.releaseFlag, hrelease, hmark, hwanted, hdest]

end Sys2Proof.Machine
end

section
/-! ### After every event the putback of a RETURNING head group has been asked for (R163) -/

namespace Sys2Proof.Machine

/-- What R163 looks at in a group: whether its putback has to be asked for as it comes to the head, and whether it has
been. -/
structure Pledge where
  order : Nat
  needed : Bool
  made : Bool

def Group.pledge (g : Group) : Pledge where
  order := g.order
  needed := g.returning && !g.releaseFlag && !g.tyres.isEmpty
  made := g.putbackMark || g.putbackWanted

def Station.pledges (s : Station) : List Pledge := s.cnu.groups.map Group.pledge

/-- The head group has its putback in the list or wanted, where it needs one. -/
def Station.HeadServed (s : Station) : Prop := ∀ p, s.pledges.head? = some p → p.needed = true → p.made = true

theorem headServed_iff (s : Station) :
    s.HeadServed ↔ ∀ g, s.cnu.groups.head? = some g → g.returning = true → g.release = .clear → g.tyres ≠ [] →
      g.putbackMark = true ∨ g.putbackWanted = true := by
  unfold Station.HeadServed Station.pledges
  cases s.cnu.groups with
  | nil => simp
  | cons g gs => simp [Group.pledge, Group.releaseFlag, and_imp]

theorem headServed_of_pledges {s t : Station} (h : t.pledges = s.pledges) (hs : s.HeadServed) : t.HeadServed := by
  unfold Station.HeadServed
  rw [h]
  exact hs

theorem updGroup_pledges (s : Station) (o : Nat) {f : Group → Group} (h : ∀ g, (f g).pledge = g.pledge) :
    (s.updGroup o f).pledges = s.pledges := by
  refine map_map_of_eq _ _ (fun g => ?_) _
  split
  · exact h g
  · rfl

theorem pledges_of_cnu {s t : Station} (h : t.cnu = s.cnu) : t.pledges = s.pledges := by
  unfold Station.pledges
  rw [h]

section
variable (s : Station)

theorem statusTrigger_pledges : s.statusTrigger.pledges = s.pledges :=
  pledges_of_cnu (congrArg Office.cnu (statusTrigger_office s))

theorem markStuck_pledges (o : Nat) (d : Option BayAddr) : (s.markStuck o d).pledges = s.pledges := by
  unfold Station.markStuck
  split
  · exact updGroup_pledges s o (fun _ => rfl)
  · split
    · rfl
    · exact (statusTrigger_pledges _).trans (updGroup_pledges s o (f := fun g => { g with stuck := true }) (fun _ => rfl))

/-- A PUTBACK asked for is in the list or wanted (R163). -/
theorem askPutback_pledges (o : Nat) (d : Option BayAddr) :
    (s.askPutback o d).pledges = s.pledges.map (fun p => if p.order = o then { p with made := true } else p) := by
  have hmade : ∀ (u : Station) (f : Group → Group), (∀ g, (f g).pledge = { g.pledge with made := true }) →
      (u.updGroup o f).pledges = u.pledges.map (fun p => if p.order = o then { p with made := true } else p) := by
    intro u f hf
    simp only [Station.pledges, Station.updGroup, List.map_map]
    refine List.map_congr_left (fun g _ => ?_)
    by_cases ho : g.order = o
    · rw [Function.comp_apply, Function.comp_apply, if_pos ho, if_pos (show g.pledge.order = o from ho), hf]
    · rw [Function.comp_apply, Function.comp_apply, if_neg ho, if_neg (show ¬ g.pledge.order = o from ho)]
  unfold Station.askPutback
  dsimp only
  rw [← markStuck_pledges s o d]
  split
  · exact hmade ((s.markStuck o d).addTask (.putback o d)) _ (fun _ => rfl)
  · refine hmade _ _ (fun g => ?_)
    simp only [Group.pledge, Bool.or_true]
    rfl

/-! #### Operations that leave what R163 looks at -/

theorem expectDest_pledges (t : Tyre) : (s.expectDest t).2.pledges = s.pledges := by
  have honly := expectDest_onlySmap s t
  unfold OnlySmap at honly
  rw [honly]
  rfl

theorem unexpect_pledges (a : BayAddr) (q : Nat) : (s.unexpect a q).pledges = s.pledges := by
  have honly := unexpect_onlySmap s a q
  unfold OnlySmap at honly
  rw [honly]
  rfl

theorem blockedPutback_pledges (o : Nat) (a : BayAddr) : (s.blockedPutback o a).pledges = s.pledges := by
  unfold Station.blockedPutback
  split
  · rfl
  · exact (markStuck_pledges _ _ _).trans ((expectDest_pledges _ _).trans (unexpect_pledges _ _ _))

theorem decision_pledges : s.decision.pledges = s.pledges := by
  have hreports : ∀ (l : List (Nat × BayAddr)) (u : Station), (l.foldl Station.reportBlocked u).pledges = u.pledges := by
    intro l
    induction l with
    | nil => exact fun _ => rfl
    | cons a l ih => exact fun u => (ih _).trans (blockedPutback_pledges u a.1 a.2)
  unfold Station.decision
  split
  · exact (hreports _ _).trans (pledges_of_cnu (congrArg Office.cnu (withChosen_office s)))
  · rfl

theorem decideAfter_pledges (before : Station) : (s.decideAfter before).pledges = s.pledges := by
  unfold Station.decideAfter
  split
  · exact decision_pledges s
  · rfl

theorem rechooseStuck_pledges : s.rechooseStuck.pledges = s.pledges := by
  unfold Station.rechooseStuck
  split
  · rfl
  · rename_i g _
    split
    · rfl
    · rename_i t _ _
      have hdest := expectDest_pledges s t
      split
      · rfl
      · rename_i d u hu
        rw [hu] at hdest
        have hmark := (markStuck_pledges u g.order (some d)).trans hdest
        dsimp only
        split
        · exact hmark
        · refine (updGroup_pledges _ _ ?_).trans hmark
          exact fun _ => rfl

theorem serveClaims_pledges (fuel : Nat) : (s.serveClaims fuel).pledges = s.pledges := by
  induction fuel generalizing s with
  | zero => rfl
  | succ n ih =>
    unfold Station.serveClaims
    split
    · rfl
    · rename_i w _
      have hmark : ((s.addTask w.job).markWant w).pledges = s.pledges := by
        unfold Station.markWant
        split <;> exact pledges_of_cnu (congrArg Office.cnu (addTask_office s w.job))
      split
      · rw [ih, decision_pledges, hmark]
      · rfl

theorem serveAudit_pledges (byCarrier : Bool) (fuel : Nat) : (s.serveAudit byCarrier fuel).pledges = s.pledges := by
  induction fuel generalizing s with
  | zero => rfl
  | succ n ih =>
    unfold Station.serveAudit
    split
    · split
      · rfl
      · rw [ih, decision_pledges]
        exact pledges_of_cnu (congrArg Office.cnu (addTask_office s _))
    · rfl

theorem serveDrive_pledges (old : Station) : (s.serveDrive old).pledges = s.pledges :=
  pledges_of_cnu (congrArg Office.cnu (serveDrive_office s old))

/-! #### The head group served -/

theorem headServed_map_made {s t : Station} {o : Nat}
    (h : t.pledges = s.pledges.map (fun p => if p.order = o then { p with made := true } else p)) (hs : s.HeadServed) :
    t.HeadServed := by
  intro p hp hneeded
  rw [h, List.head?_map] at hp
  obtain ⟨q, hq, rfl⟩ := Option.map_eq_some_iff.mp hp
  by_cases ho : q.order = o
  · simp [ho]
  · simp only [ho, if_false] at hneeded ⊢
    exact hs q hq hneeded

/-- The start of R163 serves the head group. -/
theorem startPutback_headServed : s.startPutback.HeadServed := by
  unfold Station.startPutback
  cases hgroups : s.cnu.groups with
  | nil =>
    intro p hp
    simp [Station.pledges, hgroups] at hp
  | cons g gs =>
    have hhead : s.pledges.head? = some g.pledge := by simp [Station.pledges, hgroups]
    have hidle : (g.pledge.needed = true → g.pledge.made = true) → s.HeadServed := by
      intro h p hp
      rw [hhead, Option.some.injEq] at hp
      exact hp ▸ h
    dsimp only [List.head?_cons]
    cases htyres : g.tyres with
    | nil => exact hidle (by simp [Group.pledge, htyres])
    | cons t ts =>
      dsimp only
      split
      · intro p hp _
        rw [askPutback_pledges, expectDest_pledges, List.head?_map, hhead] at hp
        obtain rfl : _ = p := Option.some.inj hp
        simp [Group.pledge]
      · rename_i hno
        refine hidle (fun hneeded => ?_)
        simp only [Group.pledge, Bool.and_eq_true, Bool.not_eq_true', Bool.or_eq_true] at hneeded hno ⊢
        by_contra hmade
        exact hno ⟨⟨hneeded.1, by simpa using fun h => hmade (.inl h)⟩, by simpa using fun h => hmade (.inr h)⟩

theorem servePutback_headServed {s : Station} (h : s.HeadServed) : s.servePutback.HeadServed := by
  unfold Station.servePutback
  split
  · exact h
  · rename_i g _
    split
    · exact h
    · rename_i t _ _
      split
      · refine headServed_map_made (askPutback_pledges _ _ _) (headServed_of_pledges (expectDest_pledges _ _) ?_)
        split
        · exact headServed_of_pledges (unexpect_pledges s _ _) h
        · exact h
      · exact h

theorem serveLane_headServed (old : Station) : (s.serveLane old).HeadServed := by
  unfold Station.serveLane
  have hstart : s.postReadies.beginPutback.HeadServed :=
    headServed_of_pledges (decideAfter_pledges _ _) (startPutback_headServed _)
  dsimp only
  refine headServed_of_pledges (decideAfter_pledges _ _) (servePutback_headServed ?_)
  split
  · exact headServed_of_pledges ((decideAfter_pledges _ _).trans (rechooseStuck_pledges _)) hstart
  · exact hstart

theorem settleRound_headServed (old : Station) : (s.settleRound old).HeadServed := by
  unfold Station.settleRound
  have hserved : ∀ u : Station, ((u.serveTasks old).serveDrive old).HeadServed := fun u => by
    refine headServed_of_pledges (serveDrive_pledges _ old) ?_
    exact headServed_of_pledges ((serveAudit_pledges _ _ _).trans (serveClaims_pledges _ _)) (serveLane_headServed u old)
  dsimp only
  split
  · exact headServed_of_pledges (decision_pledges _) (hserved _)
  · exact hserved _

theorem settleRounds_headServed (fuel : Nat) (old : Station) {s : Station} (h : s.HeadServed) :
    (settleRounds fuel old s).HeadServed := by
  induction fuel generalizing old s with
  | zero => exact h
  | succ n ih =>
    unfold settleRounds
    split
    · exact h
    · exact ih _ (settleRound_headServed s old)

/-- With so much fuel at least one round is made, which serves the head group. -/
theorem settleRounds_headServed_of_fuel {fuel : Nat} (hfuel : 10 ≤ fuel) (old : Station) :
    (settleRounds (fuel + 1) old s).HeadServed := by
  rw [settleRounds, if_neg]
  · exact settleRounds_headServed fuel s (settleRound_headServed s old)
  · simp [Nat.not_lt.mpr hfuel]

theorem settle_headServed (old : Station) (h : (s.settle old).live) : (s.settle old).HeadServed := by
  have hrounds : (settleRounds 16 old s).HeadServed := settleRounds_headServed_of_fuel s (fuel := 15) (by decide) old
  unfold Station.settle at h ⊢
  split
  · generalize settleRounds 16 old s = u at hrounds
    exact hrounds
  · rename_i hoff
    rw [if_neg hoff] at h
    exact absurd h hoff

end

/-- Every command answers with a change of the station and what the rules tie to the event. -/
theorem exec_settles (c : Instr) (s : State) : ∃ u : Station, exec c s = .next { s with station := u.settle s.station } := by
  cases c <;> exact ⟨_, rfl⟩

/-- After every event at a joined station the putback of a RETURNING head group has been asked for. -/
theorem exec_headServed {c : Instr} {x y : Station} {q : List Instr} (h : exec c ⟨x, q⟩ = .next ⟨y, q⟩) (hy : y.live) :
    y.HeadServed := by
  obtain ⟨u, hu⟩ := exec_settles c ⟨x, q⟩
  rw [hu] at h
  injection h with h
  injection h with h
  subst h
  exact settle_headServed u x hy

end Sys2Proof.Machine
end

section
/-! ### Records of an order removed and turned: what lasts of the order table, the face, the records (R111, R114) -/

namespace Sys2Proof.Machine

/-! #### The order table as a record goes -/

/-- The line taken out of the order's own lines, in the order table (R111). -/
def dropOwn (order line : Nat) (l : List OrderEntry) : List OrderEntry :=
  l.map (fun e => if e.order = order then { e with own := e.own.filter (fun n => n != line) } else e)

theorem dropOwnLine_orders (s : Station) (order line : Nat) :
    (s.dropOwnLine order line).lasting.orders = dropOwn order line s.lasting.orders := by
  simp only [Station.lasting, Station.dropOwnLine, Station.updOrder, dropOwn, List.map_map]
  refine List.map_congr_left (fun e _ => ?_)
  by_cases h : e.order = order <;> simp [OrderEntry.kept, h]

theorem dropOwn_names (order line : Nat) (l : List OrderEntry) :
    (dropOwn order line l).map (fun e => e.order) = l.map (fun e => e.order) :=
  map_map_of_eq (fun e : OrderEntry => e.order) _ (fun e => by split <;> rfl) l

/-- A change of the entry of one order leaves the entries of the others. -/
theorem filter_map_others {f : OrderEntry → OrderEntry} (hf : ∀ e, (f e).order = e.order) (order : Nat) (l : List OrderEntry) :
    (l.map (fun e => if e.order = order then f e else e)).filter (fun e => e.order ≠ order) =
      l.filter (fun e => e.order ≠ order) := by
  induction l with
  | nil => rfl
  | cons e l ih =>
    by_cases h : e.order = order
    · rw [List.map_cons, List.filter_cons_of_neg (by simp [h, hf]), List.filter_cons_of_neg (by simp [h]), ih]
    · rw [List.map_cons, if_neg h, List.filter_cons_of_pos (by simp [h]), List.filter_cons_of_pos (by simp [h]), ih]

theorem dropOwn_others (order line : Nat) (l : List OrderEntry) :
    (dropOwn order line l).filter (fun e => e.order ≠ order) = l.filter (fun e => e.order ≠ order) :=
  filter_map_others (f := fun e => { e with own := e.own.filter (fun n => n != line) }) (fun _ => rfl) order l

/-- A record goes, and of the order table at most the own lines of its order change. -/
theorem dropRecord_orders_cases {s : Station} {n : Nat} {r : LineRec} (hr : s.record? n = some r) :
    (s.dropRecord n).lasting.orders = s.lasting.orders
      ∨ ∃ b, r.body = .pick b ∧ (s.dropRecord n).lasting.orders = dropOwn b.order b.line s.lasting.orders := by
  by_cases hwon : r.won = true
  · cases hb : r.body with
    | putaway b =>
      refine .inl ?_
      unfold Station.dropRecord
      rw [hr]
      dsimp only
      rw [hb]
      dsimp only
      rw [testArticle_lasting, putawayEnded_lasting, removeJobs_lasting, unexpect_lasting, keepNote_lasting,
        withdrawBid_lasting]
      rfl
    | pick b =>
      refine .inr ⟨b, rfl, ?_⟩
      have hstate : b.state = .won := by simpa [LineRec.won, hb] using hwon
      unfold Station.dropRecord
      rw [hr]
      dsimp only
      rw [hb]
      dsimp only
      rw [if_pos hstate, testArticle_lasting, dropOwnLine_orders, setOwedReadies_lasting, removeJobs_lasting,
        unreserve_lasting, keepNote_lasting, withdrawBid_lasting]
      rfl
  · refine .inl ?_
    rw [dropRecord_orders hr (by simpa using hwon)]
    rfl

/-! #### What any removal or turn of records leaves alone -/

/-- `t` is what the removal of records, or a turn to RETURNING, can make of `s`: the rest of the view, what is counted of
the bays, and the orders of the order table are as they were. -/
structure RecordsGo (s t : Station) : Prop where
  rest : t.view.rest = s.view.rest
  holdings : t.smap.carriers.map Carrier.holdings = s.smap.carriers.map Carrier.holdings
  orders : t.lasting.orders.map (fun e => e.order) = s.lasting.orders.map (fun e => e.order)

section
variable {s t u : Station}

@[refl] theorem RecordsGo.refl (s : Station) : RecordsGo s s := ⟨rfl, rfl, rfl⟩

theorem RecordsGo.trans (h : RecordsGo s t) (h' : RecordsGo t u) : RecordsGo s u :=
  ⟨h'.rest.trans h.rest, h'.holdings.trans h.holdings, h'.orders.trans h.orders⟩

theorem RecordsGo.of_lasting (hrest : t.lasting.rest = s.lasting.rest) (hholdings : t.lasting.holdings = s.lasting.holdings)
    (horders : t.lasting.orders = s.lasting.orders) : RecordsGo s t :=
  ⟨hrest, hholdings, congrArg _ horders⟩

theorem RecordsGo.of_steady (h : t.steady = s.steady) : RecordsGo s t := by
  have hlasting := lasting_of_steady h
  exact .of_lasting (congrArg Lasting.rest hlasting) (congrArg Lasting.holdings hlasting) (congrArg Lasting.orders hlasting)

theorem foldl_recordsGo {α : Type} {f : Station → α → Station} (h : ∀ s x, RecordsGo s (f s x)) (l : List α) (s : Station) :
    RecordsGo s (l.foldl f s) := by
  induction l generalizing s with
  | nil => exact .refl s
  | cons x l ih => exact (h s x).trans (ih _)

theorem order_names (s : Station) : s.lasting.orders.map (fun e => e.order) = s.cnu.orders.map (fun e => e.order) := by
  rw [show s.lasting.orders = s.cnu.orders.map OrderEntry.kept from rfl, List.map_map]
  rfl

theorem RecordsGo.orderNames (h : RecordsGo s t) :
    t.cnu.orders.map (fun e => e.order) = s.cnu.orders.map (fun e => e.order) := by
  rw [← order_names, ← order_names, h.orders]

theorem onLane_of_rest (h : t.view.rest = s.view.rest) : t.onLane = s.onLane := by
  have hgroups : t.cnu.groups.map Group.kept = s.cnu.groups.map Group.kept := congrArg View.groups h
  have hread : ∀ (u : Station) (n : Nat), u.onLane n =
      (u.cnu.groups.map Group.kept).any (fun k => k.2.2.1.any (fun t => t.serial == some n)) := fun u n => by
    rw [List.any_map]
    rfl
  funext n
  rw [hread, hread, hgroups]

theorem RecordsGo.onLane (h : RecordsGo s t) : t.onLane = s.onLane := onLane_of_rest h.rest

theorem dropRecord_recordsGo (s : Station) (n : Nat) : RecordsGo s (s.dropRecord n) := by
  refine ⟨dropRecord_rest s n, congrArg Lasting.holdings (dropRecord_lasting s n), ?_⟩
  cases hr : s.record? n with
  | none =>
    have hsame : s.dropRecord n = s := by
      unfold Station.dropRecord
      rw [hr]
    rw [hsame]
  | some r =>
    rcases dropRecord_orders_cases hr with h | ⟨b, -, h⟩
    · rw [h]
    · rw [h, dropOwn_names]

theorem abandonRecord_recordsGo (s : Station) (n : Nat) : RecordsGo s (s.abandonRecord n) := by
  unfold Station.abandonRecord
  split
  · rfl
  · split
    · exact (RecordsGo.of_steady (withdraw_steady s _)).trans (dropRecord_recordsGo _ n)
    · exact dropRecord_recordsGo s n

/-! #### A record turned RETURNING (R114) -/

/-- A record as `LineRec.core` shows it. -/
abbrev RecordCore := Nat × RoundId × Nat × Nat × (Nat × Nat × Nat)

/-- A pick turned RETURNING, as `LineRec.core` shows it. -/
def turnedCore (c : RecordCore) : RecordCore :=
  match c.2.1 with
  | .pick _ _ => (c.1, c.2.1, c.2.2.1, c.2.2.2.1, (c.1, 4, 0))
  | .putaway _ => c

theorem turnedCore_serial (c : RecordCore) : (turnedCore c).1 = c.1 := by
  unfold turnedCore
  split <;> rfl

theorem turnedCore_turnedCore (c : RecordCore) : turnedCore (turnedCore c) = turnedCore c := by
  rcases c with ⟨n, round, rest⟩
  cases round <;> rfl

theorem updPick_turn_lasting (s : Station) (n : Nat) :
    (s.updPick n PickBody.turn).lasting =
      { s.lasting with cores := s.lasting.cores.map (fun c => if c.1 = n then turnedCore c else c) } := by
  have hcores : (s.updPick n PickBody.turn).clu.records.map LineRec.core =
      (s.clu.records.map LineRec.core).map (fun c => if c.1 = n then turnedCore c else c) := by
    simp only [Station.updPick, Station.updRecord, List.map_map]
    refine List.map_congr_left (fun r _ => ?_)
    rcases r with ⟨serial, article, qty, bid, body⟩
    by_cases hn : serial = n
    · cases body <;> simp [LineRec.mapPick, LineRec.core, LineRec.round, LineRec.reported, turnedCore, PickBody.turn, hn]
    · simp [LineRec.core, hn]
  unfold Station.lasting
  rw [hcores]
  rfl

theorem releasePick_lasting (s : Station) (n : Nat) : (s.releasePick n).lasting = s.lasting := by
  unfold Station.releasePick
  split
  · rfl
  · refine (removeJobs_lasting _ _).trans ((lasting_of_view (updPick_view _ n _ ?_)).trans (unreserve_lasting _ _))
    exact fun _ => ⟨rfl, rfl, rfl⟩

theorem withTurned_lasting (s : Station) (n : Nat) :
    (s.withTurned n).lasting =
      { s.lasting with cores := s.lasting.cores.map (fun c => if c.1 = n then turnedCore c else c) } := by
  rw [← releasePick_lasting s n, ← updPick_turn_lasting]
  rfl

theorem withTurned_recordsGo (s : Station) (n : Nat) : RecordsGo s (s.withTurned n) := by
  have h := withTurned_lasting s n
  exact .of_lasting (by rw [h]) (by rw [h]) (by rw [h])

theorem turnReturning_recordsGo (s : Station) (n : Nat) : RecordsGo s (s.turnReturning n) := by
  rw [turnReturning_eq]
  split
  · exact withTurned_recordsGo s n
  · exact (withTurned_recordsGo s n).trans (dropRecord_recordsGo _ n)

/-! #### The records after several have been removed or turned -/

/-- What becomes of a record as the serials of a list turn RETURNING: it stays with a tyre on the lane alone. -/
def coreFate (lane : Nat → Bool) (l : List Nat) (c : RecordCore) : Option RecordCore :=
  if c.1 ∈ l then (if lane c.1 = true then some (turnedCore c) else none) else some c

theorem coreFate_bind (lane : Nat → Bool) (n : Nat) (l : List Nat) (c : RecordCore) :
    (coreFate lane [n] c).bind (coreFate lane l) = coreFate lane (n :: l) c := by
  have hsame := turnedCore_serial c
  by_cases hn : c.1 = n <;> by_cases hl : c.1 ∈ l <;> by_cases hlane : lane c.1 = true
  all_goals simp_all [coreFate, turnedCore_turnedCore]

theorem turnReturning_cores (s : Station) (n : Nat) :
    (s.turnReturning n).lasting.cores = s.lasting.cores.filterMap (coreFate s.onLane [n]) := by
  have hcores := congrArg Lasting.cores (withTurned_lasting s n)
  rw [turnReturning_eq, (withTurned_recordsGo s n).onLane]
  split
  · rename_i hlane
    rw [hcores, ← List.filterMap_eq_map]
    refine List.filterMap_congr (fun c _ => ?_)
    by_cases hn : c.1 = n <;> simp [coreFate, hn, hlane]
  · rename_i hlane
    rw [show ((s.withTurned n).dropRecord n).lasting.cores = _ from dropRecord_cores _ n,
      show (s.withTurned n).clu.records.map LineRec.core = _ from hcores, ← List.filterMap_eq_filter,
      ← List.filterMap_eq_map, List.filterMap_filterMap]
    refine List.filterMap_congr (fun c _ => ?_)
    have hsame := turnedCore_serial c
    by_cases hn : c.1 = n <;> simp_all [coreFate, Option.guard]

theorem foldl_turnReturning_cores (l : List Nat) (s : Station) :
    (l.foldl (fun t n => t.turnReturning n) s).lasting.cores = s.lasting.cores.filterMap (coreFate s.onLane l) := by
  induction l generalizing s with
  | nil =>
    have hall : coreFate s.onLane [] = some := funext (fun c => by simp [coreFate])
    rw [List.foldl_nil, hall, List.filterMap_some]
  | cons n l ih =>
    rw [List.foldl_cons, ih, turnReturning_cores, (turnReturning_recordsGo s n).onLane, List.filterMap_filterMap]
    exact List.filterMap_congr (fun c _ => coreFate_bind s.onLane n l c)

theorem abandonRecord_cores (s : Station) (n : Nat) :
    (s.abandonRecord n).lasting.cores = s.lasting.cores.filter (fun c => c.1 ≠ n) := by
  unfold Station.abandonRecord
  split
  · rename_i hr
    exact (congrArg Lasting.cores (without_of_record?_none hr)).symm
  · refine (dropRecord_cores _ n).trans (congrArg (List.filter _) ?_)
    split
    · exact cores_of_steady (withdraw_steady s _)
    · rfl

theorem foldl_abandonRecord_cores (l : List Nat) (s : Station) :
    (l.foldl (fun t n => t.abandonRecord n) s).lasting.cores = s.lasting.cores.filter (fun c => c.1 ∉ l) := by
  induction l generalizing s with
  | nil => simp
  | cons n l ih =>
    rw [List.foldl_cons, ih, abandonRecord_cores, List.filter_filter]
    refine List.filter_congr (fun c _ => ?_)
    simp [Bool.and_comm]

/-! #### What the removal or turn of the lines of one order leaves alone -/

/-- The record is for a line of the order. -/
def LineRec.lineOf (r : LineRec) (order : Nat) : Prop := ∃ line, r.round = .pick order line

theorem lineOf_of_pickOf {r : LineRec} {order : Nat} {states : List PickState} (h : r.pickOf order states = true) :
    r.lineOf order := by
  rcases r with ⟨serial, article, qty, bid, body⟩
  cases body with
  | pick b =>
    have horder : b.order = order := by
      simp only [LineRec.pickOf, Bool.and_eq_true, decide_eq_true_eq] at h
      exact h.1
    exact ⟨b.line, by rw [← horder]; rfl⟩
  | putaway b => cases h

/-- `t` is what the removal or turn of lines of the order can make of `s`: the face, the entries of the other orders but for
their abandons, and the rounds of the records that stay are as they were. -/
structure LinesGo (order : Nat) (s t : Station) : Prop where
  fct : t.fct = s.fct
  others : t.lasting.orders.filter (fun e => e.order ≠ order) = s.lasting.orders.filter (fun e => e.order ≠ order)
  rounds : ∀ k ∈ t.clu.records, ∃ r ∈ s.clu.records, r.serial = k.serial ∧ r.round = k.round

@[refl] theorem LinesGo.refl (order : Nat) (s : Station) : LinesGo order s s :=
  ⟨rfl, rfl, fun k hk => ⟨k, hk, rfl, rfl⟩⟩

theorem LinesGo.trans {order : Nat} (h : LinesGo order s t) (h' : LinesGo order t u) : LinesGo order s u where
  fct := h'.fct.trans h.fct
  others := h'.others.trans h.others
  rounds k hk := by
    obtain ⟨r', hr', hserial', hround'⟩ := h'.rounds k hk
    obtain ⟨r, hr, hserial, hround⟩ := h.rounds r' hr'
    exact ⟨r, hr, hserial.trans hserial', hround.trans hround'⟩

/-- A record of the later station, where the cores are those of the earlier one. -/
theorem rounds_of_cores (h : ∀ c ∈ t.lasting.cores, ∃ c' ∈ s.lasting.cores, c'.1 = c.1 ∧ c'.2.1 = c.2.1) :
    ∀ k ∈ t.clu.records, ∃ r ∈ s.clu.records, r.serial = k.serial ∧ r.round = k.round := by
  intro k hk
  obtain ⟨c, hc, hserial, hround⟩ := h k.core (List.mem_map_of_mem hk)
  obtain ⟨r, hr, rfl⟩ := List.mem_map.mp hc
  exact ⟨r, hr, hserial, hround⟩

theorem LinesGo.of_steady (order : Nat) (h : t.steady = s.steady) : LinesGo order s t := by
  have hlasting := lasting_of_steady h
  refine ⟨congrArg Steady.fct h, by rw [hlasting], rounds_of_cores fun c hc => ⟨c, ?_, rfl, rfl⟩⟩
  rwa [hlasting] at hc

/-- A pick record gives back its stock, its tasks, its line, and nothing at the face (R111). -/
theorem giveBack_fct {s : Station} {n : Nat} {r : LineRec} {b : PickBody} (hb : r.body = .pick b) :
    (s.giveBack n r).fct = s.fct := by
  unfold Station.giveBack
  rw [hb]
  dsimp only
  rw [(testArticle_onlySmap _ _).fct]
  split <;> exact (unreserve_onlySmap s _).fct

theorem dropRecord_fct {s : Station} {n order : Nat} (h : ∀ r ∈ s.clu.records, r.serial = n → r.lineOf order) :
    (s.dropRecord n).fct = s.fct := by
  cases hr : s.record? n with
  | none =>
    unfold Station.dropRecord
    rw [hr]
  | some r =>
    obtain ⟨hmem, hserial⟩ := mem_of_record? hr
    obtain ⟨line, hround⟩ := h r hmem hserial
    cases hb : r.body with
    | putaway b => simp [LineRec.round, hb] at hround
    | pick b =>
      have hbid := congrArg Steady.fct (withdrawBid_steady (s.withoutRecord n) r)
      have hnote : ∀ u : Station, (u.keepNote r).fct = u.fct := fun u => by
        unfold Station.keepNote
        split
        · rfl
        · split <;> rfl
      rw [dropRecord_eq hr, giveBack_fct hb, hnote]
      exact hbid

theorem dropRecord_linesGo {s : Station} {n order : Nat} (h : ∀ r ∈ s.clu.records, r.serial = n → r.lineOf order) :
    LinesGo order s (s.dropRecord n) := by
  refine ⟨dropRecord_fct h, ?_, rounds_of_cores fun c hc => ?_⟩
  · cases hr : s.record? n with
    | none =>
      unfold Station.dropRecord
      rw [hr]
    | some r =>
      obtain ⟨hmem, hserial⟩ := mem_of_record? hr
      obtain ⟨line, hround⟩ := h r hmem hserial
      rcases dropRecord_orders_cases hr with hsame | ⟨b, hb, hdrop⟩
      · rw [hsame]
      · have horder : b.order = order := by
          simp only [LineRec.round, hb, RoundId.pick.injEq] at hround
          exact hround.1
        rw [hdrop, horder, dropOwn_others]
  · have hmem : c ∈ s.clu.records.map LineRec.core := by
      have hcores := dropRecord_cores s n
      rw [show c ∈ (s.dropRecord n).lasting.cores ↔ c ∈ (s.dropRecord n).clu.records.map LineRec.core from Iff.rfl, hcores]
        at hc
      exact List.mem_of_mem_filter hc
    exact ⟨c, hmem, rfl, rfl⟩

theorem abandonRecord_linesGo {s : Station} {n order : Nat} (h : ∀ r ∈ s.clu.records, r.serial = n → r.lineOf order) :
    LinesGo order s (s.abandonRecord n) := by
  unfold Station.abandonRecord
  split
  · rfl
  · split
    · have hsteady := withdraw_steady s
      refine (LinesGo.of_steady order (hsteady _)).trans (dropRecord_linesGo fun k hk hserial => ?_)
      obtain ⟨r, hr, hsame, hround⟩ := (LinesGo.of_steady order (hsteady _)).rounds k hk
      obtain ⟨line, hline⟩ := h r hr (hsame.trans hserial)
      exact ⟨line, hround ▸ hline⟩
    · exact dropRecord_linesGo h

theorem withTurned_linesGo (s : Station) (n order : Nat) : LinesGo order s (s.withTurned n) := by
  have hlasting := withTurned_lasting s n
  have hfct : (s.releasePick n).fct = s.fct := by
    unfold Station.releasePick
    split
    · rfl
    · exact (unreserve_onlySmap s _).fct
  refine ⟨hfct, by rw [congrArg Lasting.orders hlasting], rounds_of_cores fun c hc => ?_⟩
  rw [congrArg Lasting.cores hlasting] at hc
  obtain ⟨c', hc', rfl⟩ := List.mem_map.mp hc
  refine ⟨c', hc', ?_⟩
  split
  · refine ⟨(turnedCore_serial c').symm, ?_⟩
    unfold turnedCore
    split <;> simp_all
  · exact ⟨rfl, rfl⟩

theorem turnReturning_linesGo {s : Station} {n order : Nat} (h : ∀ r ∈ s.clu.records, r.serial = n → r.lineOf order) :
    LinesGo order s (s.turnReturning n) := by
  have hturned := withTurned_linesGo s n order
  rw [turnReturning_eq]
  split
  · exact hturned
  · refine hturned.trans (dropRecord_linesGo fun k hk hserial => ?_)
    obtain ⟨r, hr, hsame, hround⟩ := hturned.rounds k hk
    obtain ⟨line, hline⟩ := h r hr (hsame.trans hserial)
    exact ⟨line, hround ▸ hline⟩

/-- Several lines of the order, one after another. -/
theorem foldl_linesGo {order : Nat} {f : Station → Nat → Station}
    (hf : ∀ (s : Station) (n : Nat), (∀ r ∈ s.clu.records, r.serial = n → r.lineOf order) → LinesGo order s (f s n))
    (l : List Nat) {s : Station} (h : ∀ r ∈ s.clu.records, r.serial ∈ l → r.lineOf order) :
    LinesGo order s (l.foldl f s) := by
  induction l generalizing s with
  | nil => exact .refl order s
  | cons n l ih =>
    have hone := hf s n (fun r hr hserial => h r hr (by simp [hserial]))
    refine hone.trans (ih fun k hk hmem => ?_)
    obtain ⟨r, hr, hsame, hround⟩ := hone.rounds k hk
    obtain ⟨line, hline⟩ := h r hr (by simp [hsame, hmem])
    exact ⟨line, hround ▸ hline⟩

/-- Where no two records have one serial, the serials of the lines of an order name its lines alone. -/
theorem lineOf_of_serial {s : Station} (hnodup : (s.clu.records.map (fun r => r.serial)).Nodup) {order : Nat}
    {states : List PickState} :
    ∀ r ∈ s.clu.records, r.serial ∈ (s.clu.records.filter (fun k => k.pickOf order states)).map (fun k => k.serial) →
      r.lineOf order := by
  intro r hr hserial
  obtain ⟨k, hk, hsame⟩ := List.mem_map.mp hserial
  obtain ⟨hmem, hpick⟩ := List.mem_filter.mp hk
  exact List.inj_on_of_nodup_map hnodup hmem hr hsame ▸ lineOf_of_pickOf hpick

/-- Which records satisfy a test of the order and the state can be told from the cores. -/
theorem pickOf_of_core {r k : LineRec} (h : r.core = k.core) (order : Nat) (states : List PickState) :
    r.pickOf order states = k.pickOf order states := by
  rcases r with ⟨serial, article, qty, bid, body⟩
  rcases k with ⟨serial', article', qty', bid', body'⟩
  simp only [LineRec.core, Prod.mk.injEq] at h
  obtain ⟨-, hround, -, -, hreported⟩ := h
  cases body with
  | pick b =>
    cases body' with
    | pick b' =>
      have horder : b.order = b'.order := by
        simp only [LineRec.round, RoundId.pick.injEq] at hround
        exact hround.1
      have hstate : b.state = b'.state := by
        rcases b with ⟨order, line, state⟩
        rcases b' with ⟨order', line', state'⟩
        cases state <;> cases state' <;> simp_all [LineRec.reported]
      simp only [LineRec.pickOf, horder, hstate]
    | putaway b' => cases hround
  | putaway b =>
    cases body' with
    | pick b' => cases hround
    | putaway b' => rfl

end

end Sys2Proof.Machine
end

section
/-! ### The posts of a bid go with it: the slot of a PENDING claim or close becomes FREE (R87, R111, R114) -/

namespace Sys2Proof.Machine

/-! #### A slot a withdrawal can make FREE -/

/-- No later post bears this handle, and its slot is FREE, or PENDING and so free to be withdrawn. -/
structure Bus.Removable (b : Bus) (h : Nat) : Prop where
  old : h < b.nextHandle
  slot : b.slotFree h ∨ b.canWithdraw h = true

section
variable {b c : Bus} {s t : Station} {h : Nat}

theorem Bus.Removable.grown (hb : b.Removable h) (hg : b.Grown c) : c.Removable h := by
  refine ⟨hb.old.trans_le hg.handles, hb.slot.imp (hg.carried.free h hb.old) (fun hw => ?_)⟩
  obtain ⟨p, hp, hpending⟩ := (Option.any_eq_true _ _).mp hw
  obtain ⟨l, hl, -⟩ := hg.posts
  have hp' : c.post? h = some p := by
    unfold Bus.post? at hp ⊢
    rw [hl, List.find?_append, hp, Option.some_or]
  rwa [Bus.canWithdraw, hp', Option.any_some]

theorem Bus.Removable.freeSlot (hs : s.bus.Removable h) (m : Nat) : (s.freeSlot m).bus.Removable h := by
  refine ⟨hs.old, ?_⟩
  by_cases hm : m = h
  · exact .inl (fun p hp => by simpa [hm] using List.of_mem_filter hp)
  · refine hs.slot.imp (fun hfree p hp => hfree p (List.mem_of_mem_filter hp)) (fun hw => ?_)
    have hsame : (s.freeSlot m).bus.post? h = s.bus.post? h := by
      unfold Bus.post? Station.freeSlot
      rw [List.find?_filter]
      congr 1
      funext p
      by_cases hp : p.handle = h <;> simp [hp, Ne.symm hm]
    rwa [Bus.canWithdraw, hsame]

/-- The withdrawal of a PENDING post frees its slot, whatever fills the slots after (R87, R90). -/
theorem Bus.Removable.freed (hs : s.bus.Removable h) : (s.withdraw (some h)).bus.slotFree h := by
  unfold Station.withdraw
  dsimp only
  split
  · have hcarried : (s.freeSlot h).bus.Carried (s.freeSlot h).offerSlot.bus := (Bus.Carried.refl _).offerSlot
    exact hcarried.free h hs.old (fun p hp => by simpa using List.of_mem_filter hp)
  · rename_i hno
    exact hs.slot.resolve_right hno

end

/-! #### The record whose bid it is -/

/-- What of a record the withdrawal of its bid looks at. -/
def LineRec.bidSide (r : LineRec) : Bid × Bool × Bool := (r.bid, r.tentative, r.won)

theorem bidSide_mapPick (r : LineRec) (f : PickBody → PickBody) (h : ∀ b, (f b).state = b.state) :
    (r.mapPick f).bidSide = r.bidSide := by
  rcases r with ⟨serial, article, qty, bid, body⟩
  cases body <;> simp [LineRec.mapPick, LineRec.bidSide, LineRec.tentative, LineRec.won, h]

theorem mapPick_serial (r : LineRec) (f : PickBody → PickBody) : (r.mapPick f).serial = r.serial := by
  unfold LineRec.mapPick
  split <;> rfl

/-- The slot of the handle can be freed, and a record that still bears the serial of `k` has its bid. -/
structure Station.Pinned (h : Nat) (k : LineRec) (s : Station) : Prop where
  slot : s.bus.Removable h
  bid : ∀ r ∈ s.clu.records, r.serial = k.serial → r.bidSide = k.bidSide

section
variable {s t : Station} {h : Nat} {k : LineRec}

theorem Station.Pinned.of_records (hs : s.Pinned h k) (hslot : t.bus.Removable h)
    (hrecords : ∀ r ∈ t.clu.records, r.serial = k.serial → ∃ o ∈ s.clu.records, o.serial = r.serial ∧ o.bidSide = r.bidSide) :
    t.Pinned h k := by
  refine ⟨hslot, fun r hr hserial => ?_⟩
  obtain ⟨o, ho, hname, hside⟩ := hrecords r hr hserial
  exact hside.symm.trans (hs.bid o ho (hname.trans hserial))

theorem Station.Pinned.grown (hs : s.Pinned h k) (hg : s.bus.Grown t.bus) (hclu : t.clu.records = s.clu.records) :
    t.Pinned h k :=
  hs.of_records (hs.slot.grown hg) (fun r hr _ => ⟨r, hclu ▸ hr, rfl, rfl⟩)

theorem Station.Pinned.updPick (hs : s.Pinned h k) (n : Nat) {f : PickBody → PickBody} (hf : ∀ b, (f b).state = b.state) :
    (s.updPick n f).Pinned h k := by
  refine hs.of_records (t := s.updPick n f) hs.slot (fun r hr _ => ?_)
  obtain ⟨o, ho, rfl⟩ := List.mem_map.mp hr
  refine ⟨o, ho, ?_⟩
  split
  · exact ⟨(mapPick_serial o f).symm, (bidSide_mapPick o f hf).symm⟩
  · exact ⟨rfl, rfl⟩

theorem Station.Pinned.trimOwedReadies (hs : s.Pinned h k) (l : List Nat) : (s.trimOwedReadies l).Pinned h k := by
  induction l generalizing s with
  | nil => exact ⟨hs.slot, hs.bid⟩
  | cons n rest ih =>
    unfold Station.trimOwedReadies
    split
    · exact ⟨hs.slot, hs.bid⟩
    · exact ih (hs.updPick n (fun _ => rfl))

/-- An owner's answer to an offer: of a record with no close owed the bid is left as it is. -/
theorem Station.Pinned.fillOwed (hs : s.Pinned h k) (hk : k.bid.closeOwed = false) (kind : Kind) :
    (s.fillOwed kind).station.Pinned h k := by
  have hslot := hs.slot.grown (fillOwed_grown s kind)
  cases kind
  case cls =>
    refine ⟨hslot, ?_⟩
    simp only [Station.fillOwed, Station.fillCls, declined]
    split
    · exact hs.bid
    · rename_i r hr
      have howed : r.bid.closeOwed = true := by
        have h := List.find?_some hr
        simp only [Bool.and_eq_true] at h
        exact h.1
      have hother : r.serial ≠ k.serial := fun hsame => by
        have hbid : r.bid = k.bid := congrArg Prod.fst (hs.bid r (List.mem_of_find?_eq_some hr) hsame)
        rw [hbid, hk] at howed
        cases howed
      intro o ho hserial
      obtain ⟨o', ho', rfl⟩ := List.mem_map.mp ho
      split
      · rename_i hsame
        rw [if_pos hsame] at hserial
        exact absurd (hsame.symm.trans hserial) hother
      · rename_i hne
        rw [if_neg hne] at hserial
        exact hs.bid o' ho' hserial
  case rdy =>
    refine ⟨hslot, ?_⟩
    have htrim := hs.trimOwedReadies s.cnu.owedReadies
    simp only [Station.fillOwed]
    unfold Station.fillRdy
    dsimp only
    split
    · exact htrim.bid
    · split
      · exact htrim.bid
      · exact (htrim.updPick _ (f := fun b => { b with readyOwed := false, readySent := true }) (fun _ => rfl)).bid
  all_goals
    refine ⟨hslot, ?_⟩
    simp only [Station.fillOwed, Station.fillAbn, Station.fillArp, Station.fillSan, Station.fillSts, declined]
    repeat' split
    all_goals exact hs.bid

theorem Station.Pinned.offerKinds (hs : s.Pinned h k) (hk : k.bid.closeOwed = false) (ks : List Kind) :
    (offerKinds s ks).Pinned h k := by
  induction ks generalizing s with
  | nil => exact hs
  | cons kind ks ih =>
    have hfill := hs.fillOwed hk kind
    have hunowed : ((s.fillOwed kind).station.unoweKind kind).Pinned h k := ⟨⟨hfill.slot.old, hfill.slot.slot⟩, hfill.bid⟩
    unfold Machine.offerKinds
    dsimp only
    split
    · exact ih hs
    · split
      · split
        · exact hfill
        · exact hunowed
      · exact ih hunowed

theorem Station.Pinned.withdraw (hs : s.Pinned h k) (hk : k.bid.closeOwed = false) (m : Option Nat) :
    (s.withdraw m).Pinned h k := by
  unfold Station.withdraw
  split
  · exact hs
  · rename_i m
    have hfree : (s.freeSlot m).Pinned h k := ⟨hs.slot.freeSlot m, hs.bid⟩
    split
    · unfold Station.offerSlot
      split
      · exact hfree.offerKinds hk _
      · exact hfree
    · exact hs

theorem Station.Pinned.withdrawBid (hs : s.Pinned h k) (hk : k.bid.closeOwed = false) (r : LineRec) :
    (s.withdrawBid r).Pinned h k := by
  unfold Station.withdrawBid
  split
  · refine Station.Pinned.withdraw ?_ hk _
    split
    · exact hs
    · exact hs.withdraw hk _
  · exact hs

/-- What is given back after a removed record posts at most an STS, and is of no other record. -/
theorem giveBack_grown (s : Station) (n : Nat) (r : LineRec) :
    s.bus.Grown (s.giveBack n r).bus ∧ (s.giveBack n r).clu.records = s.clu.records := by
  have hended : ∀ u : Station, u.bus.Grown (u.putawayEnded n).bus ∧ (u.putawayEnded n).clu.records = u.clu.records := by
    intro u
    unfold Station.putawayEnded
    split
    · exact ⟨Bus.Grown.nonHaltingFault (by exact .refl u.bus) _, congrArg (fun o : Office => o.clu.records)
        (statusTrigger_office _)⟩
    · exact ⟨.refl _, rfl⟩
  unfold Station.giveBack
  dsimp only
  have htest := testArticle_onlySmap
  rw [(htest _ _).bus, (htest _ _).clu]
  split
  · rename_i b _
    have hstock := unreserve_onlySmap s (s.releaseList n b)
    split
    all_goals exact ⟨hstock.bus ▸ .refl _, congrArg Clu.records hstock.clu⟩
  · rename_i b _
    have hstock := unexpect_onlySmap s b.target (r.qty - b.stored - s.storeHeld n)
    obtain ⟨hgrown, hrecords⟩ := hended ((s.unexpect b.target (r.qty - b.stored - s.storeHeld n)).removeJobs (Job.ofRecord n))
    exact ⟨hstock.bus ▸ hgrown, hrecords.trans (congrArg Clu.records hstock.clu)⟩

theorem keepNote_records (s : Station) (r : LineRec) :
    (s.keepNote r).bus = s.bus ∧ (s.keepNote r).clu.records = s.clu.records := by
  unfold Station.keepNote
  split
  · exact ⟨rfl, rfl⟩
  · split <;> exact ⟨rfl, rfl⟩

theorem Station.Pinned.dropRecord (hs : s.Pinned h k) (hk : k.bid.closeOwed = false) (n : Nat) :
    (s.dropRecord n).Pinned h k := by
  cases hr : s.record? n with
  | none =>
    unfold Station.dropRecord
    rwa [hr]
  | some r =>
    have hwithout : (s.withoutRecord n).Pinned h k := ⟨hs.slot, fun o ho => hs.bid o (List.mem_of_mem_filter ho)⟩
    obtain ⟨hnote, hnoted⟩ := keepNote_records ((s.withoutRecord n).withdrawBid r) r
    obtain ⟨hgrown, hrecords⟩ := giveBack_grown (((s.withoutRecord n).withdrawBid r).keepNote r) n r
    rw [dropRecord_eq hr]
    exact (hwithout.withdrawBid hk r).grown (hnote ▸ hgrown) (hrecords.trans hnoted)

theorem Station.Pinned.abandonRecord (hs : s.Pinned h k) (hk : k.bid.closeOwed = false) (n : Nat) :
    (s.abandonRecord n).Pinned h k := by
  unfold Station.abandonRecord
  split
  · exact hs
  · split
    · exact (hs.withdraw hk _).dropRecord hk n
    · exact hs.dropRecord hk n

/-! #### The slots free again after the abandon -/

/-- The removal of a TENTATIVE record frees the slot of its close, and of its claim not sent. -/
theorem dropRecord_slotFree (hs : s.Pinned h k) (hk : k.bid.closeOwed = false) {r : LineRec} {n : Nat}
    (hr : s.record? n = some r) (htentative : r.tentative = true)
    (hbid : r.bid.close = some h ∨ (r.bid.sent = false ∧ r.bid.claim = some h)) : (s.dropRecord n).bus.slotFree h := by
  have hwithout : (s.withoutRecord n).Pinned h k := ⟨hs.slot, fun o ho => hs.bid o (List.mem_of_mem_filter ho)⟩
  have hfree : ((s.withoutRecord n).withdrawBid r).bus.slotFree h := by
    unfold Station.withdrawBid
    rw [if_pos htentative]
    rcases hbid with hclose | ⟨hsent, hclaim⟩
    · rw [hclose]
      refine Bus.Removable.freed ?_
      split
      · exact hwithout.slot
      · exact (hwithout.withdraw hk _).slot
    · rw [hsent, hclaim]
      have hclaimed := hwithout.withdraw hk (some h)
      exact (Bus.Carried.withdraw (.refl _) _).free h hclaimed.slot.old hwithout.slot.freed
  obtain ⟨hnote, -⟩ := keepNote_records ((s.withoutRecord n).withdrawBid r) r
  obtain ⟨hgrown, -⟩ := giveBack_grown (((s.withoutRecord n).withdrawBid r).keepNote r) n r
  rw [dropRecord_eq hr]
  rw [hnote] at hgrown
  exact hgrown.carried.free h (hwithout.withdrawBid hk r).slot.old hfree

/-- So does the abandon of a TENTATIVE or WON record (R114). -/
theorem abandonRecord_slotFree (hs : s.Pinned h k) (hk : k.bid.closeOwed = false) {r : LineRec} {n : Nat}
    (hr : s.record? n = some r)
    (hbid : (r.won = true ∧ r.bid.close = some h) ∨ (r.tentative = true
      ∧ (r.bid.close = some h ∨ (r.bid.sent = false ∧ r.bid.claim = some h)))) : (s.abandonRecord n).bus.slotFree h := by
  unfold Station.abandonRecord
  rw [hr]
  dsimp only
  rcases hbid with ⟨hwon, hclose⟩ | ⟨htentative, hbid⟩
  · rw [if_pos hwon, hclose]
    exact (Bus.Carried.dropRecord (.refl _) n).free h (hs.withdraw hk (some h)).slot.old hs.slot.freed
  · rw [if_neg (by simp [not_won_of_tentative htentative])]
    exact dropRecord_slotFree hs hk hr htentative hbid

end

end Sys2Proof.Machine
end

section
/-! ### OPN: an order opened, with the eviction it needs (R83, R151, R152) -/

namespace Sys2Proof.Machine

/-- The entry of an order just opened: OPEN, nothing ready (R151). -/
def newEntry (order lines : Nat) : OrderEntry where
  order := order
  lineCount := lines
  ready := []
  own := []
  holdStart := none
  holdExpired := false
  state := .opened
  abandon := none
  abandonOwed := none

/-- The station takes the order up, where it has room: the numbers are in range, and it is neither held nor on the lane
(R151). -/
def Station.TakesOrder (s : Station) (order lines : Nat) : Prop :=
  order ≠ 0 ∧ 1 ≤ lines ∧ lines ≤ 16 ∧ (∀ e ∈ s.cnu.orders, e.order ≠ order) ∧ ∀ g ∈ s.cnu.groups, g.order ≠ order

section
variable {s : Station} {order lines : Nat}

theorem refusal_iff : (order = 0 ∨ lines = 0 ∨ 16 < lines ∨ (s.order? order).isSome = true ∨ (s.group? order).isSome = true) ↔
    ¬ s.TakesOrder order lines := by
  have horder : (s.order? order).isSome = true ↔ ¬ ∀ e ∈ s.cnu.orders, e.order ≠ order := by
    simp [Station.order?]
  have hgroup : (s.group? order).isSome = true ↔ ¬ ∀ g ∈ s.cnu.groups, g.order ≠ order := by
    simp [Station.group?]
  unfold Station.TakesOrder
  rw [horder, hgroup]
  have hlow : lines = 0 ↔ ¬ 1 ≤ lines := by omega
  have hhigh : 16 < lines ↔ ¬ lines ≤ 16 := by omega
  rw [hlow, hhigh]
  tauto

theorem openOrder_of_refused (h : ¬ s.TakesOrder order lines) : s.openOrder order lines = s := if_pos (refusal_iff.mpr h)

theorem openOrder_of_room (h : s.TakesOrder order lines) (hroom : s.cnu.orders.length < 32) :
    s.openOrder order lines = s.recordOrder order lines :=
  (if_neg (fun hno => refusal_iff.mp hno h)).trans (if_pos hroom)

theorem openOrder_of_full (h : s.TakesOrder order lines) (hfull : 32 ≤ s.cnu.orders.length) :
    (∀ e, s.cnu.evictable = some e → s.openOrder order lines = (s.evict e).recordOrder order lines)
      ∧ (s.cnu.evictable = none → s.openOrder order lines = s) := by
  unfold Station.openOrder
  rw [if_neg (fun hno => refusal_iff.mp hno h), if_neg (Nat.not_lt.mpr hfull)]
  exact ⟨fun e he => by rw [he], fun hnone => by rw [hnone]⟩

/-! #### Which entry gives way (R152) -/

theorem evictable_of_closed {c : Cnu} {e : OrderEntry} (h : c.orders.find? (fun e => e.state = .closed) = some e) :
    c.evictable = some e := by
  unfold Cnu.evictable
  rw [h]

theorem evictable_of_no_closed {c : Cnu} (h : ∀ e ∈ c.orders, e.state ≠ .closed) :
    c.evictable = c.orders.find? (fun e => decide (e.state = .opened ∧ e.own = [] ∧ e.abandon = none ∧ e.abandonOwed = none)) := by
  unfold Cnu.evictable
  rw [List.find?_eq_none.mpr (by simpa using h)]
  dsimp only
  congr 1
  funext e
  rw [Bool.eq_iff_iff]
  simp [and_assoc]

theorem evictable_eq_none {c : Cnu} (h : ∀ e ∈ c.orders, e.state = .releasing ∨ (e.state = .opened
    ∧ (e.own ≠ [] ∨ e.abandon ≠ none ∨ e.abandonOwed ≠ none))) : c.evictable = none := by
  have hclosed : ∀ e ∈ c.orders, e.state ≠ .closed := fun e he => by
    rcases h e he with hs | ⟨hs, -⟩ <;> simp [hs]
  rw [evictable_of_no_closed hclosed, List.find?_eq_none]
  intro e he
  rcases h e he with hs | ⟨hs, hused⟩
  · simp [hs]
  · simp only [hs, true_and, decide_eq_true_eq]
    tauto

/-! #### The entry evicted -/

/-- The table without the entries of this order. -/
def Station.withoutOrder (s : Station) (order : Nat) : Station :=
  { s with cnu := { s.cnu with orders := s.cnu.orders.filter (fun e => e.order ≠ order) } }

theorem evict_eq (s : Station) (e : OrderEntry) :
    s.evict e = if e.state = .opened then (s.withoutOrder e.order).dropWhere (fun r => r.pickOf e.order [.tentative])
      else s.withoutOrder e.order := by
  have hfilter : s.cnu.orders.filter (fun x => x.order != e.order) = s.cnu.orders.filter (fun x => x.order ≠ e.order) :=
    List.filter_congr (fun x _ => by by_cases h : x.order = e.order <;> simp [h])
  unfold Station.evict
  rw [hfilter]
  rfl

/-- What the records of an order withdrawn leave of the station, the order out of the table. -/
theorem withoutOrder_dropWhere (s : Station) (order : Nat) :
    RecordsGo (s.withoutOrder order) ((s.withoutOrder order).dropWhere (fun r => r.pickOf order [.tentative]))
      ∧ (s.NamesFresh →
        LinesGo order (s.withoutOrder order) ((s.withoutOrder order).dropWhere (fun r => r.pickOf order [.tentative]))
        ∧ ((s.withoutOrder order).dropWhere (fun r => r.pickOf order [.tentative])).clu.records.map LineRec.core =
          (s.clu.records.filter (fun r => !r.pickOf order [.tentative])).map LineRec.core) := by
  refine ⟨foldl_recordsGo dropRecord_recordsGo _ _, fun hnames => ?_⟩
  obtain ⟨-, -, -, -, hserials, -⟩ := hnames
  exact ⟨foldl_linesGo (fun _ _ h => dropRecord_linesGo h) _ (lineOf_of_serial (s := s.withoutOrder order) hserials),
    dropWhere_cores (s := s.withoutOrder order) hserials _⟩

theorem recordOrder_lasting (s : Station) (order lines : Nat) :
    (s.recordOrder order lines).lasting =
      { s.lasting with orders := s.lasting.orders ++ [newEntry order lines] } := by
  unfold Station.lasting
  rw [show (s.recordOrder order lines).cnu.orders = s.cnu.orders ++ [newEntry order lines] from rfl, List.map_append]
  rfl

theorem order?_append_new {l : List OrderEntry} (hs : s.cnu.orders = l ++ [newEntry order lines])
    (h : ∀ e ∈ l, e.order ≠ order) : s.order? order = some (newEntry order lines) := by
  unfold Station.order?
  rw [hs, List.find?_append, List.find?_eq_none.mpr (by simpa using h)]
  simp [newEntry]

/-! #### The order opened -/

section
variable {old : OrderEntry}

/-- The oldest CLOSED entry gives way. -/
theorem openOrder_of_closed (h : s.TakesOrder order lines) (hfull : s.cnu.orders.length = 32)
    (hold : s.cnu.orders.find? (fun e => e.state = .closed) = some old) :
    s.openOrder order lines = (s.withoutOrder old.order).recordOrder order lines := by
  have hstate : old.state = .closed := by simpa using List.find?_some hold
  obtain ⟨hevict, -⟩ := openOrder_of_full h hfull.ge
  rw [hevict old (evictable_of_closed hold), evict_eq, if_neg (by simp [hstate])]

/-- With none CLOSED the oldest OPEN one without own lines and abandon gives way, and its TENTATIVE records go. -/
theorem openOrder_of_opened (h : s.TakesOrder order lines) (hfull : s.cnu.orders.length = 32)
    (hclosed : ∀ e ∈ s.cnu.orders, e.state ≠ .closed)
    (hold : s.cnu.orders.find? (fun e =>
      decide (e.state = .opened ∧ e.own = [] ∧ e.abandon = none ∧ e.abandonOwed = none)) = some old) :
    s.openOrder order lines =
      ((s.withoutOrder old.order).dropWhere (fun r => r.pickOf old.order [.tentative])).recordOrder order lines := by
  have hfound := List.find?_some hold
  obtain ⟨hstate, -⟩ := of_decide_eq_true hfound
  obtain ⟨hevict, -⟩ := openOrder_of_full h hfull.ge
  rw [hevict old ((evictable_of_no_closed hclosed).trans hold), evict_eq, if_pos hstate]

/-- An order not taken up, or that finds a full table with nothing to evict, leaves the table. -/
theorem openOrder_of_stale (h : ¬ s.TakesOrder order lines ∨ (32 ≤ s.cnu.orders.length
    ∧ ∀ e ∈ s.cnu.orders, e.state = .releasing ∨ (e.state = .opened
      ∧ (e.own ≠ [] ∨ e.abandon ≠ none ∨ e.abandonOwed ≠ none)))) : s.openOrder order lines = s := by
  by_cases hfresh : s.TakesOrder order lines
  · obtain ⟨hfull, hused⟩ := h.resolve_left (not_not_intro hfresh)
    obtain ⟨-, hnone⟩ := openOrder_of_full hfresh hfull
    exact hnone (evictable_eq_none hused)
  · exact openOrder_of_refused hfresh

end

/-! #### The event -/

/-- OPN heard: its frame taken, the store week raised to the week it carries (R83). -/
abbrev Station.opnHeard (s : Station) (rest : List Frame) (p : List Byte) : Station :=
  (s.withQueue rest).hearWeek (payloadField p 3 2)

theorem exec_opnTaken {x u : Station} (q : List Instr) {f : Frame} {rest : List Frame} (hx : x.live)
    (hq : x.bus.rxq = f :: rest) (hf : f.accepted = some .opn)
    (hu : (x.opnHeard rest f.payload).openOrder (payloadField f.payload 0 2) (payloadField f.payload 2 1) = u) :
    exec .opnTaken ⟨x, q⟩ = .next ⟨u.settle x, q⟩ ∧ (u.settle x).view = u.view :=
  ⟨(answer_notice q hx hq hf rfl).trans (by rw [hu]), settle_view u x⟩

/-- The oldest OPEN entry gives way: its TENTATIVE records go, and the new entry is the last. -/
theorem opened_evicted (x : Station) {s : Station} {old : OrderEntry} {order lines : Nat} (hfresh : s.TakesOrder order lines) :
    let y := (((s.withoutOrder old.order).dropWhere (fun r => r.pickOf old.order [.tentative])).recordOrder order lines).settle x
    y.view.rest = s.view.rest
      ∧ y.smap.carriers.map Carrier.holdings = s.smap.carriers.map Carrier.holdings
      ∧ y.cnu.orders.map (fun e => e.order) =
          (s.cnu.orders.filter (fun e => e.order ≠ old.order)).map (fun e => e.order) ++ [order]
      ∧ y.order? order = some (newEntry order lines)
      ∧ (s.NamesFresh → y.view.infeed = s.view.infeed
        ∧ y.cnu.orders.map OrderEntry.kept =
          (s.cnu.orders.filter (fun e => e.order ≠ old.order)).map OrderEntry.kept ++ [newEntry order lines]
        ∧ y.clu.records.map LineRec.core =
          (s.clu.records.filter (fun r => !r.pickOf old.order [.tentative])).map LineRec.core) := by
  obtain ⟨hgo, hlines⟩ := withoutOrder_dropWhere s old.order
  generalize (s.withoutOrder old.order).dropWhere (fun r => r.pickOf old.order [.tentative]) = w at hgo hlines
  intro y
  have hview : y.view = (w.recordOrder order lines).view := settle_view _ x
  have hlasting : y.lasting = { w.lasting with orders := w.lasting.orders ++ [newEntry order lines] } :=
    (lasting_of_view hview).trans (recordOrder_lasting w order lines)
  have horders : y.cnu.orders = w.cnu.orders ++ [newEntry order lines] := congrArg View.orders hview
  have hnames := hgo.orderNames
  obtain ⟨-, -, -, hother, -⟩ := hfresh
  refine ⟨(congrArg Lasting.rest hlasting).trans hgo.rest, (congrArg Lasting.holdings hlasting).trans hgo.holdings, ?_, ?_,
    fun hfreshNames => ?_⟩
  · rw [horders, List.map_append, hnames]
    rfl
  · refine order?_append_new horders (fun e he hsame => ?_)
    have hname : e.order ∈ (s.withoutOrder old.order).cnu.orders.map (fun e => e.order) := hnames ▸ List.mem_map_of_mem he
    obtain ⟨e', he', heq⟩ := List.mem_map.mp hname
    exact hother e' (List.mem_of_mem_filter he') (heq.trans hsame)
  · obtain ⟨hgone, hcores⟩ := hlines hfreshNames
    refine ⟨(congrArg View.infeed hview).trans (congrArg Fct.infeed hgone.fct), ?_,
      (congrArg Lasting.cores hlasting).trans hcores⟩
    have hall : ∀ u : Station, u.cnu.orders.map (fun e => e.order) =
        (s.withoutOrder old.order).cnu.orders.map (fun e => e.order) →
        u.lasting.orders.filter (fun e => e.order ≠ old.order) = u.lasting.orders := fun u hu => by
      refine List.filter_eq_self.mpr (fun e he => ?_)
      have hname : e.order ∈ u.lasting.orders.map (fun e => e.order) := List.mem_map_of_mem he
      rw [order_names, hu] at hname
      obtain ⟨e', he', heq⟩ := List.mem_map.mp hname
      rw [← heq]
      exact (List.mem_filter.mp he').2
    have hkept := hgone.others
    rw [hall w hnames, hall _ rfl] at hkept
    rw [horders, List.map_append, show w.cnu.orders.map OrderEntry.kept = _ from hkept]
    rfl

end

end Sys2Proof.Machine
end

section
/-! ### ABN: an order abandoned, its bids withdrawn, its group RETURNING (R161, R114) -/

namespace Sys2Proof.Machine

section
variable {s t x : Station} {order h : Nat} {k : LineRec}

/-! #### The readies and the own ABN withdrawn -/

theorem withdrawReadies_steady (s : Station) (order : Nat) : (s.withdrawReadies order).steady = s.steady := by
  have hflags : ∀ (l : List Nat) (u : Station),
      (l.foldl (fun t n => t.updPick n (fun b => { b with readyOwed := false })) u).steady = u.steady := by
    intro l
    induction l with
    | nil => exact fun _ => rfl
    | cons n l ih =>
      refine fun u => (ih _).trans (updRecord_steady u n _ (fun r => sure_mapPick r _ ?_))
      exact fun _ => ⟨rfl, rfl, rfl⟩
  have hwithdrawn : ∀ (l : List Nat) (u : Station), (l.foldl (fun t h => t.withdraw (some h)) u).steady = u.steady := by
    intro l
    induction l with
    | nil => exact fun _ => rfl
    | cons h l ih => exact fun u => (ih _).trans (withdraw_steady u (some h))
  unfold Station.withdrawReadies
  dsimp only
  rw [hwithdrawn]
  refine (updGroup_steady _ _ _ ?_).trans ((hflags _ _).trans (setOwedReadies_steady s _))
  exact fun _ => rfl

theorem withdrawAbandon_steady (s : Station) (order : Nat) : (s.withdrawAbandon order).steady = s.steady := by
  unfold Station.withdrawAbandon
  split
  · rfl
  · refine (withdraw_steady _ _).trans (updOrder_steady s order _ ?_)
    exact fun _ => rfl

theorem Station.Pinned.withdrawReadies (hs : s.Pinned h k) (hk : k.bid.closeOwed = false) (order : Nat) :
    (s.withdrawReadies order).Pinned h k := by
  have hflags : ∀ (l : List Nat) {u : Station}, u.Pinned h k →
      (l.foldl (fun t n => t.updPick n (fun b => { b with readyOwed := false })) u).Pinned h k := by
    intro l
    induction l with
    | nil => exact fun hu => hu
    | cons n l ih => exact fun hu => ih (hu.updPick n (fun _ => rfl))
  have hwithdrawn : ∀ (l : List Nat) {u : Station}, u.Pinned h k →
      (l.foldl (fun t h => t.withdraw (some h)) u).Pinned h k := by
    intro l
    induction l with
    | nil => exact fun hu => hu
    | cons n l ih => exact fun hu => ih (hu.withdraw hk (some n))
  have howed : ∀ l, (s.setOwedReadies l).Pinned h k := fun _ => ⟨hs.slot, hs.bid⟩
  unfold Station.withdrawReadies
  dsimp only
  have hflagged := hflags ((s.clu.records.filter (fun r => r.pickOf order [.staged])).map (fun r => r.serial)) (howed
    (s.cnu.owedReadies.filter (fun x => !((s.clu.records.filter (fun r => r.pickOf order [.staged])).map
      (fun r => r.serial)).contains x)))
  exact hwithdrawn _ ⟨hflagged.slot, hflagged.bid⟩

theorem Station.Pinned.withdrawAbandon (hs : s.Pinned h k) (hk : k.bid.closeOwed = false) (order : Nat) :
    (s.withdrawAbandon order).Pinned h k := by
  unfold Station.withdrawAbandon
  split
  · exact hs
  · have hmarks : ∀ f, (s.updOrder order f).Pinned h k := fun _ => ⟨hs.slot, hs.bid⟩
    exact (hmarks _).withdraw hk _

/-! #### The records of the order, by their serials -/

/-- The serials of the records of the order in these states. -/
def Station.serialsOf (s : Station) (order : Nat) (states : List PickState) : List Nat :=
  (s.clu.records.filter (fun r => r.pickOf order states)).map (fun r => r.serial)

/-- Later in the event, a record that is still held is among those of the order and the states exactly when it was. -/
theorem mem_serialsOf_iff (hnodup : (x.clu.records.map (fun r => r.serial)).Nodup)
    (hsub : ∀ c ∈ t.lasting.cores, c ∈ x.lasting.cores) {r : LineRec} (hr : r ∈ x.clu.records)
    (hstays : r.core ∈ t.lasting.cores) (states : List PickState) :
    r.serial ∈ t.serialsOf order states ↔ r.pickOf order states = true := by
  constructor
  · intro hserial
    obtain ⟨o, ho, hsame⟩ := List.mem_map.mp hserial
    obtain ⟨hmem, hpick⟩ := List.mem_filter.mp ho
    obtain ⟨o', ho', hcore⟩ := List.mem_map.mp (hsub o.core (List.mem_map_of_mem hmem))
    have hname : o'.serial = r.serial := (congrArg Prod.fst hcore).trans hsame
    rw [← List.inj_on_of_nodup_map hnodup ho' hr hname, pickOf_of_core hcore]
    exact hpick
  · intro hpick
    obtain ⟨o, ho, hcore⟩ := List.mem_map.mp hstays
    refine List.mem_map.mpr ⟨o, List.mem_filter.mpr ⟨ho, ?_⟩, congrArg Prod.fst hcore⟩
    rw [pickOf_of_core hcore]
    exact hpick

/-- The serials of the lines of an order name its lines alone, later in the event as well. -/
theorem lineOf_of_serialsOf (hnodup : (x.clu.records.map (fun r => r.serial)).Nodup)
    (hsub : ∀ c ∈ t.lasting.cores, c ∈ x.lasting.cores) (states : List PickState) :
    ∀ r ∈ t.clu.records, r.serial ∈ t.serialsOf order states → r.lineOf order := by
  intro r hr hserial
  obtain ⟨o, ho, hcore⟩ := List.mem_map.mp (hsub r.core (List.mem_map_of_mem hr))
  have hname : o.serial = r.serial := congrArg Prod.fst hcore
  have hstays : o.core ∈ t.lasting.cores := hcore ▸ List.mem_map_of_mem hr
  rw [← hname, mem_serialsOf_iff hnodup hsub ho hstays] at hserial
  exact lineOf_of_pickOf ((pickOf_of_core hcore order states).symm.trans hserial)

/-! #### The records of the order abandoned -/

/-- The TENTATIVE and WON records of the order gone, before the others turn. -/
def Station.bidsGone (s : Station) (order : Nat) : Station :=
  (s.serialsOf order [.tentative, .won]).foldl (fun t n => t.abandonRecord n) s

theorem abandonRecords_eq (s : Station) (order : Nat) :
    s.abandonRecords order =
      ((s.bidsGone order).serialsOf order [.picking, .staged]).foldl (fun t n => t.turnReturning n) (s.bidsGone order) := rfl

theorem abandonRecords_recordsGo (s : Station) (order : Nat) : RecordsGo s (s.abandonRecords order) :=
  (foldl_recordsGo abandonRecord_recordsGo _ s).trans (foldl_recordsGo turnReturning_recordsGo _ _)

theorem bidsGone_cores (s : Station) (order : Nat) :
    (s.bidsGone order).lasting.cores = s.lasting.cores.filter (fun c => c.1 ∉ s.serialsOf order [.tentative, .won]) :=
  foldl_abandonRecord_cores _ s

theorem abandonRecords_linesGo (hnodup : (s.clu.records.map (fun r => r.serial)).Nodup) (order : Nat) :
    LinesGo order s (s.abandonRecords order) := by
  have hsub : ∀ c ∈ (s.bidsGone order).lasting.cores, c ∈ s.lasting.cores := fun c hc => by
    rw [bidsGone_cores] at hc
    exact List.mem_of_mem_filter hc
  have hbids : LinesGo order s (s.bidsGone order) :=
    foldl_linesGo (fun _ _ h => abandonRecord_linesGo h) _ (lineOf_of_serialsOf hnodup (fun _ h => h) _)
  exact hbids.trans (foldl_linesGo (fun _ _ h => turnReturning_linesGo h) _ (lineOf_of_serialsOf hnodup hsub _))

/-- A pick turned RETURNING, as a record of the order shows it. -/
theorem turnedCore_of_pickOf {r : LineRec} {states : List PickState} (h : r.pickOf order states = true) :
    turnedCore r.core = (r.serial, r.round, r.article, r.qty, (r.serial, 4, 0)) := by
  obtain ⟨line, hround⟩ := lineOf_of_pickOf h
  simp only [turnedCore, LineRec.core, hround]

/-- The TENTATIVE and WON records of the order are gone; its PICKING and STAGED ones are RETURNING, or gone as well where no
tyre of theirs is on the lane. `x` is the station earlier in the event, its records the same. -/
theorem abandonRecords_cores (hnodup : (x.clu.records.map (fun r => r.serial)).Nodup)
    (hsame : s.lasting.cores = x.lasting.cores) (hlane : s.onLane = x.onLane) (order : Nat) :
    (s.abandonRecords order).lasting.cores =
      (x.clu.records.filter (fun r => !r.pickOf order [.tentative, .won]
        && (!r.pickOf order [.picking, .staged] || x.onLane r.serial))).map (fun r =>
          (r.serial, r.round, r.article, r.qty,
            if r.pickOf order [.picking, .staged] then (r.serial, 4, 0) else r.reported)) := by
  have hsub : ∀ c ∈ (s.bidsGone order).lasting.cores, c ∈ x.lasting.cores := fun c hc => by
    rw [bidsGone_cores, hsame] at hc
    exact List.mem_of_mem_filter hc
  have hlaneThen : (s.bidsGone order).onLane = x.onLane :=
    (foldl_recordsGo abandonRecord_recordsGo _ s).onLane.trans hlane
  rw [abandonRecords_eq, foldl_turnReturning_cores, hlaneThen, bidsGone_cores, hsame, List.filterMap_filter,
    show x.lasting.cores = x.clu.records.map LineRec.core from rfl, List.filterMap_map, ← List.filterMap_eq_map,
    List.filterMap_filter]
  refine List.filterMap_congr (fun r hr => ?_)
  have hheld : r.core ∈ s.lasting.cores := hsame ▸ List.mem_map_of_mem hr
  have hbid := mem_serialsOf_iff (order := order) hnodup (fun _ hc => hsame ▸ hc) hr hheld [.tentative, .won]
  by_cases hgone : r.pickOf order [.tentative, .won] = true
  · simp [hbid, hgone, LineRec.core]
  · have hstays : r.core ∈ (s.bidsGone order).lasting.cores := by
      rw [bidsGone_cores]
      exact List.mem_filter.mpr ⟨hheld, decide_eq_true (fun hmem => hgone (hbid.mp hmem))⟩
    have hturn := mem_serialsOf_iff (order := order) hnodup hsub hr hstays [.picking, .staged]
    by_cases hpick : r.pickOf order [.picking, .staged] = true
    · have hcore := turnedCore_of_pickOf hpick
      simp [coreFate, hbid, hturn, hgone, hpick, hcore, show r.core.1 = r.serial from rfl]
    · simp [coreFate, hbid, hturn, hgone, hpick, LineRec.core]

/-! #### The slots of the bids -/

/-- What the handle names of the record: its close, or the claim of a TENTATIVE one that has not been sent. -/
def LineRec.names (r : LineRec) (h : Nat) : Prop :=
  r.bid.close = some h ∨ (r.tentative = true ∧ r.bid.sent = false ∧ r.bid.claim = some h)

/-- A PENDING post of a record is withdrawn with it, whatever else goes before it and after it (R114). -/
theorem bidsGone_slotFree (hs : s.Pinned h k) (hk : k.bid.closeOwed = false) (hserial : k.serial ∈ s.serialsOf order [.tentative, .won])
    (hheld : k.core ∈ s.lasting.cores) (hpick : k.pickOf order [.tentative, .won] = true) (hnames : k.names h) :
    (s.bidsGone order).bus.slotFree h ∧ h < (s.bidsGone order).bus.nextHandle := by
  have hfold : ∀ (l : List Nat) {u : Station}, u.Pinned h k → (l.foldl (fun t n => t.abandonRecord n) u).Pinned h k := by
    intro l
    induction l with
    | nil => exact fun hu => hu
    | cons n l ih => exact fun hu => ih (hu.abandonRecord hk n)
  refine ⟨?_, (hfold _ hs).slot.old⟩
  obtain ⟨before, after, hsplit, hfirst⟩ := List.eq_append_cons_of_mem hserial
  unfold Station.bidsGone
  rw [hsplit, List.foldl_append, List.foldl_cons]
  have hturn := hfold before hs
  have hcores := foldl_abandonRecord_cores before s
  generalize before.foldl (fun t n => t.abandonRecord n) s = u at hturn hcores
  have hmem : k.core ∈ u.lasting.cores := by
    rw [hcores]
    exact List.mem_filter.mpr ⟨hheld, decide_eq_true hfirst⟩
  obtain ⟨r, hr⟩ : ∃ r, u.record? k.serial = some r := by
    obtain ⟨o, ho, hcore⟩ := List.mem_map.mp hmem
    have hsome : (u.record? k.serial).isSome = true :=
      List.find?_isSome.mpr ⟨o, ho, beq_iff_eq.mpr (congrArg Prod.fst hcore)⟩
    exact Option.isSome_iff_exists.mp hsome
  obtain ⟨hheldThen, hname⟩ := mem_of_record? hr
  have hside := hturn.bid r hheldThen hname
  simp only [LineRec.bidSide, Prod.mk.injEq] at hside
  obtain ⟨hbid, htentative, hwon⟩ := hside
  have hstate : k.tentative = true ∨ k.won = true := by
    rcases k with ⟨serial, article, qty, bid, body⟩
    cases body <;> simp_all [LineRec.pickOf, LineRec.tentative, LineRec.won]
  have hfree : (u.abandonRecord k.serial).bus.slotFree h := by
    refine abandonRecord_slotFree hturn hk hr ?_
    rw [hbid, htentative, hwon]
    unfold LineRec.names at hnames
    tauto
  exact (foldl_carried _ (fun _ n ht => ht.abandonRecord n) after (.refl _)).free h
    (hturn.abandonRecord hk k.serial).slot.old hfree

/-! #### The event -/

theorem exec_abnTaken {x u : Station} (q : List Instr) {f : Frame} {rest : List Frame} (hx : x.live)
    (hq : x.bus.rxq = f :: rest) (hf : f.accepted = some .abn)
    (hu : (x.withQueue rest).hearAbandon (payloadField f.payload 0 2) = u) :
    exec .abnTaken ⟨x, q⟩ = .next ⟨u.settle x, q⟩ ∧ (u.settle x).view = u.view :=
  ⟨(answer_notice q hx hq hf rfl).trans (by rw [hu]), settle_view u x⟩

/-- The station with the notices of the order withdrawn and its records gone or turned. -/
def Station.linesAbandoned (s : Station) (order : Nat) : Station :=
  ((s.withdrawReadies order).withdrawAbandon order).abandonRecords order

/-- The group of the order RETURNING, its entry CLOSED (R161). -/
def Station.orderClosed (s : Station) (order : Nat) : Station :=
  (s.updGroup order (fun g => { g with returning := true })).updOrder order
    (fun e => { e with state := .closed, holdStart := none })

theorem hearAbandon_of_open (h : s.orderIn order .opened = true) :
    s.hearAbandon order = (s.linesAbandoned order).orderClosed order := if_pos h

theorem hearAbandon_of_not_open (h : s.orderIn order .opened = false) : s.hearAbandon order = s :=
  if_neg (by simp [h])

theorem withdrawals_steady (s : Station) (order : Nat) :
    ((s.withdrawReadies order).withdrawAbandon order).steady = s.steady :=
  (withdrawAbandon_steady _ order).trans (withdrawReadies_steady s order)

theorem serials_of_cores (h : t.lasting.cores = s.lasting.cores) :
    t.clu.records.map (fun r => r.serial) = s.clu.records.map (fun r => r.serial) := by
  have hread : ∀ u : Station, u.clu.records.map (fun r => r.serial) = u.lasting.cores.map Prod.fst := fun u => by
    rw [show u.lasting.cores = u.clu.records.map LineRec.core from rfl, List.map_map]
    rfl
  rw [hread, hread, h]

theorem linesAbandoned_recordsGo (s : Station) (order : Nat) : RecordsGo s (s.linesAbandoned order) :=
  (RecordsGo.of_steady (withdrawals_steady s order)).trans (abandonRecords_recordsGo _ order)

theorem withdrawals_lasting (s : Station) (order : Nat) :
    ((s.withdrawReadies order).withdrawAbandon order).lasting = s.lasting := lasting_of_steady (withdrawals_steady s order)

theorem linesAbandoned_linesGo (hnodup : (s.clu.records.map (fun r => r.serial)).Nodup) (order : Nat) :
    LinesGo order s (s.linesAbandoned order) := by
  refine (LinesGo.of_steady order (withdrawals_steady s order)).trans (abandonRecords_linesGo ?_ order)
  rwa [serials_of_cores (congrArg Lasting.cores (withdrawals_lasting s order))]

theorem linesAbandoned_cores (hnodup : (s.clu.records.map (fun r => r.serial)).Nodup) (order : Nat) :
    (s.linesAbandoned order).lasting.cores =
      (s.clu.records.filter (fun r => !r.pickOf order [.tentative, .won]
        && (!r.pickOf order [.picking, .staged] || s.onLane r.serial))).map (fun r =>
          (r.serial, r.round, r.article, r.qty,
            if r.pickOf order [.picking, .staged] then (r.serial, 4, 0) else r.reported)) :=
  abandonRecords_cores hnodup (congrArg Lasting.cores (withdrawals_lasting s order))
    (RecordsGo.of_steady (withdrawals_steady s order)).onLane order

/-- A handle that can be withdrawn, of a record of the order with no close owed, is withdrawn in the abandon. -/
theorem linesAbandoned_slotFree (hfresh : s.NamesFresh) (hk : k ∈ s.clu.records) (hpick : k.pickOf order [.tentative, .won] = true)
    (hclose : k.bid.closeOwed = false) (hnames : k.names h) (hw : s.bus.canWithdraw h = true) :
    (s.linesAbandoned order).bus.slotFree h ∧ h < (s.linesAbandoned order).bus.nextHandle := by
  obtain ⟨hhandles, -, -, -, hnodup, -⟩ := hfresh
  have hold : h < s.bus.nextHandle := by
    obtain ⟨p, hp, -⟩ := (Option.any_eq_true _ _).mp hw
    have hname : p.handle = h := by simpa using List.find?_some hp
    exact hname ▸ hhandles p (List.mem_of_find?_eq_some hp)
  have hpinned : s.Pinned h k :=
    ⟨⟨hold, .inr hw⟩, fun r hr hserial => by rw [List.inj_on_of_nodup_map hnodup hr hk hserial]⟩
  have hthen := (hpinned.withdrawReadies hclose order).withdrawAbandon hclose order
  have hcores := congrArg Lasting.cores (withdrawals_lasting s order)
  have hheld : k.core ∈ ((s.withdrawReadies order).withdrawAbandon order).lasting.cores :=
    hcores ▸ List.mem_map_of_mem hk
  have hserial := (mem_serialsOf_iff (order := order) hnodup (fun _ hc => hcores ▸ hc) hk hheld [.tentative, .won]).mpr hpick
  obtain ⟨hfree, hlater⟩ := bidsGone_slotFree hthen hclose hserial hheld hpick hnames
  have hcarried := foldl_carried _ (fun _ n ht => ht.turnReturning n)
    ((((s.withdrawReadies order).withdrawAbandon order).bidsGone order).serialsOf order [.picking, .staged])
    (.refl (((s.withdrawReadies order).withdrawAbandon order).bidsGone order).bus)
  exact ⟨hcarried.free h hlater hfree, hlater.trans_le hcarried.handles⟩

/-! #### The group and the entry of the order -/

/-- The group of the order as `Group.kept` shows it, RETURNING. -/
theorem orderClosed_groups (s : Station) (order : Nat) :
    (s.orderClosed order).cnu.groups.map Group.kept =
      (s.cnu.groups.map Group.kept).map (fun g => (g.1, g.2.1 || decide (g.1 = order), g.2.2)) := by
  simp only [Station.orderClosed, Station.updOrder, Station.updGroup, List.map_map]
  refine List.map_congr_left (fun g _ => ?_)
  by_cases hg : g.order = order <;> simp [Group.kept, hg]

theorem orderClosed_orders (s : Station) (order : Nat) :
    (s.orderClosed order).cnu.orders =
      s.cnu.orders.map (fun e => if e.order = order then { e with state := .closed, holdStart := none } else e) := rfl

theorem orderClosed_rest (s : Station) (order : Nat) :
    (s.orderClosed order).view.rest = { s.view.rest with groups := (s.orderClosed order).cnu.groups.map Group.kept } := rfl

/-- ABN of an order that is OPEN (R161, R114). -/
theorem order_abandoned (x s : Station) (order : Nat) :
    let y := ((s.linesAbandoned order).orderClosed order).settle x
    y.view = { s.view.dropping y.view with
          groups := s.cnu.groups.map (fun g => (g.order, g.returning || decide (g.order = order), g.tyres, g.release)) }
      ∧ y.smap.carriers.map Carrier.holdings = s.smap.carriers.map Carrier.holdings
      ∧ y.cnu.orders.map (fun o => o.order) = s.cnu.orders.map (fun o => o.order)
      ∧ ∀ o ∈ y.cnu.orders, o.order = order → o.state = .closed ∧ o.holdStart = none := by
  have hgo := linesAbandoned_recordsGo s order
  generalize s.linesAbandoned order = w at hgo
  intro y
  have hview : y.view = (w.orderClosed order).view := settle_view _ x
  have horders : y.cnu.orders = (w.orderClosed order).cnu.orders := congrArg View.orders hview
  have hgroups : w.cnu.groups.map Group.kept = s.cnu.groups.map Group.kept := congrArg View.groups hgo.rest
  refine ⟨?_, (congrArg Lasting.holdings (lasting_of_view hview)).trans hgo.holdings, ?_, fun o ho hname => ?_⟩
  · refine eq_dropping_of_rest (v := { s.view with
      groups := s.cnu.groups.map (fun g => (g.order, g.returning || decide (g.order = order), g.tyres, g.release)) }) ?_
    rw [hview, orderClosed_rest, orderClosed_groups, hgo.rest, hgroups, List.map_map]
    rfl
  · rw [horders, orderClosed_orders, ← hgo.orderNames]
    exact map_map_of_eq (fun e : OrderEntry => e.order) _ (fun e => by split <;> rfl) w.cnu.orders
  · rw [horders, orderClosed_orders] at ho
    obtain ⟨e, -, rfl⟩ := List.mem_map.mp ho
    split at hname
    · simp_all
    · contradiction

/-- Where the names are fresh, the PENDING posts of the bids go with them, and the infeed, the other entries and the other
records stay as well. -/
theorem order_abandoned_others (x : Station) {s : Station} (order : Nat) (hfresh : s.NamesFresh) :
    let y := ((s.linesAbandoned order).orderClosed order).settle x
    (∀ r ∈ s.clu.records, r.pickOf order [.tentative, .won] = true → r.bid.closeOwed = false →
        ∀ h, r.names h → s.bus.canWithdraw h = true → y.bus.slotFree h)
      ∧ y.view.infeed = s.view.infeed
      ∧ (y.cnu.orders.filter (fun o => o.order ≠ order)).map OrderEntry.kept =
        (s.cnu.orders.filter (fun o => o.order ≠ order)).map OrderEntry.kept
      ∧ y.clu.records.map LineRec.core =
        ((s.clu.records.filter (fun r => !r.pickOf order [.tentative, .won]
          && (!r.pickOf order [.picking, .staged] || s.onLane r.serial))).map (fun r =>
            (r.serial, r.round, r.article, r.qty,
              if r.pickOf order [.picking, .staged] then (r.serial, 4, 0) else r.reported))) := by
  have hfreed := fun (r : LineRec) hr hpick hclose (h : Nat) hnames hw =>
    linesAbandoned_slotFree (k := r) (h := h) (order := order) hfresh hr hpick hclose hnames hw
  obtain ⟨-, -, -, -, hnodup, -⟩ := hfresh
  have hlines := linesAbandoned_linesGo hnodup order
  have hcores := linesAbandoned_cores hnodup order
  generalize s.linesAbandoned order = w at hlines hcores hfreed
  intro y
  have hview : y.view = (w.orderClosed order).view := settle_view _ x
  have horders : y.cnu.orders = (w.orderClosed order).cnu.orders := congrArg View.orders hview
  refine ⟨fun r hr hpick hclose h hnames hw => ?_, (congrArg View.infeed hview).trans (congrArg Fct.infeed hlines.fct), ?_,
    (congrArg Lasting.cores (lasting_of_view hview)).trans hcores⟩
  · obtain ⟨hfree, hold⟩ := hfreed r hr hpick hclose h hnames hw
    exact (settle_grown _ x).carried.free h hold hfree
  have hothers : ∀ u : Station, u.lasting.orders.filter (fun e => e.order ≠ order) =
      (u.cnu.orders.filter (fun e => e.order ≠ order)).map OrderEntry.kept := fun u => by
    rw [show u.lasting.orders = u.cnu.orders.map OrderEntry.kept from rfl, List.filter_map]
    rfl
  rw [horders, orderClosed_orders, filter_map_others, ← hothers, ← hothers]
  · exact hlines.others
  · exact fun _ => rfl

end

end Sys2Proof.Machine
end

section
/-! ### Orders opened and abandoned, and the putback that follows (R151, R152, R161, R163, R164) -/

namespace Sys2Proof.Machine

/-- Settles O26: OPN and ABN heard, the putback asked for after every event, its start and its destination. -/
theorem orderOpenedAndAbandoned : Obligations.OrderOpenedAndAbandoned := by
  unfold Obligations.OrderOpenedAndAbandoned
  refine ⟨fun x q f rest hx hq hf => ?opn, fun x q f rest hx hq hf => ?abn, fun c x y q h hy => ?served,
    fun x g gs t ts u dest hgroups htyres hreturning hrelease hmark hwanted hother hdest => ?start, fun x t => ?dest⟩
  case opn =>
    intro order lines week heard entry fresh
    refine ⟨fun hfresh hroom => ?_, fun hfresh hfull old hold => ?_, fun hfresh hfull hclosed old hold => ?_, fun hstale => ?_⟩
    · exact exec_opnTaken q hx hq hf (openOrder_of_room hfresh hroom)
    · exact exec_opnTaken q hx hq hf (openOrder_of_closed hfresh hfull hold)
    · obtain ⟨hrest, hevicted⟩ := opened_evicted x (s := heard) (old := old) hfresh
      obtain ⟨hexec, -⟩ := exec_opnTaken q hx hq hf (openOrder_of_opened hfresh hfull hclosed hold)
      exact ⟨_, hexec, eq_dropping_of_rest hrest, hevicted⟩
    · exact exec_opnTaken q hx hq hf (openOrder_of_stale hstale)
  case abn =>
    intro order
    refine ⟨fun hopen => ?_, fun hno => exec_abnTaken q hx hq hf (hearAbandon_of_not_open hno)⟩
    obtain ⟨hexec, -⟩ := exec_abnTaken q hx hq hf (hearAbandon_of_open (s := x.withQueue rest) hopen)
    have hcommon := order_abandoned x (x.withQueue rest) order
    have hothers := order_abandoned_others x (s := x.withQueue rest) order
    generalize (((x.withQueue rest).linesAbandoned order).orderClosed order).settle x = y at hexec hcommon hothers
    obtain ⟨hview, hholdings, hnames, hclosed⟩ := hcommon
    exact ⟨y, hexec, hview, hholdings, hnames, hclosed, hothers⟩
  case served =>
    exact (headServed_iff y).mp (exec_headServed h hy)
  case start =>
    have hcnu : u.cnu = x.cnu := by
      have honly := expectDest_onlySmap x t
      rw [hdest] at honly
      exact honly.cnu
    have hlane : u.cnu.groups = g :: gs := (congrArg Cnu.groups hcnu).trans hgroups
    obtain ⟨⟨h, hhead, hstarted⟩, hasked⟩ := askPutback_sole_head hlane hother hmark dest
    intro y room
    have hy : y = u.askPutback g.order dest := startPutback_eq hgroups htyres hreturning hrelease hmark hwanted hdest
    rw [hy]
    exact ⟨⟨h, gs, hhead, by rw [hlane, List.tail_cons], hstarted⟩, hasked⟩
  case dest =>
    intro a origin
    have horigin : x.originTakes t = true ↔ origin := originTakes_iff x t
    refine ⟨rfl, fun hno hnone => ?_, fun d hd haccepted => ?_⟩
    · refine expectDest_of_no_choice ?_
      rw [destChoice_eq, if_neg (fun h => hno (horigin.mp h)), hnone, Option.map_none]
    · refine expectDest_of_accepted ?_ haccepted
      rw [destChoice_eq]
      rcases hd with ⟨hyes, rfl⟩ | ⟨hno, c, hchosen, rfl⟩
      · rw [if_pos (horigin.mpr hyes)]
      · rw [if_neg (fun h => hno (horigin.mp h)), hchosen, Option.map_some]

end Sys2Proof.Machine
end

section
/-! ### What the removal of a record gives back of the bays (R11, R13, R110, R111) -/

namespace Sys2Proof.Machine

/-- The withdrawal of a removed record's bid, with its close note, is nothing to the Stock Map, the face and the lane. -/
theorem bidWithdrawn_leaves (s : Station) (r : LineRec) :
    ((s.withdrawBid r).keepNote r).smap = s.smap ∧ ((s.withdrawBid r).keepNote r).fct = s.fct := by
  have hnote : ∀ u : Station, (u.keepNote r).smap = u.smap ∧ (u.keepNote r).fct = u.fct := fun u => by
    unfold Station.keepNote
    split
    · exact ⟨rfl, rfl⟩
    · split <;> exact ⟨rfl, rfl⟩
  obtain ⟨hsmap, hfct⟩ := hnote (s.withdrawBid r)
  have hsteady := withdrawBid_steady s r
  exact ⟨hsmap.trans (congrArg Steady.smap hsteady), hfct.trans (congrArg Steady.fct hsteady)⟩

theorem putawayEnded_smap (s : Station) (n : Nat) : (s.putawayEnded n).smap = s.smap := by
  unfold Station.putawayEnded
  split
  · exact congrArg Steady.smap (statusTrigger_steady _)
  · rfl

section
variable {s t : Station} {n : Nat} {r : LineRec}

theorem giveBack_pick_carriers {b : PickBody} (hb : r.body = .pick b) :
    (s.giveBack n r).smap.carriers = (s.unreserve (s.releaseList n b)).smap.carriers := by
  unfold Station.giveBack
  rw [hb]
  dsimp only
  rw [testArticle_carriers]
  split <;> rfl

theorem giveBack_putaway_carriers {b : PutBody} (hb : r.body = .putaway b) :
    (s.giveBack n r).smap.carriers = (s.unexpect b.target (r.qty - b.stored - s.storeHeld n)).smap.carriers := by
  unfold Station.giveBack
  rw [hb]
  dsimp only
  rw [testArticle_carriers, putawayEnded_smap]
  rfl

/-- What a selection gives back of a bay is what it asks of it (R10, R11). -/
theorem givenBack_selection (sel : List SelEntry) (a : BayAddr) :
    givenBack (sel.map (fun e => (e.addr, e.qty))) a = askedOf sel a := by
  induction sel with
  | nil => rfl
  | cons e sel ih => rw [List.map_cons, givenBack_cons, askedOf_cons, ih]

/-- A pick record removed with no cycle in flight gives its reservations back (R111). -/
theorem dropRecord_reserved {b : PickBody} (hr : s.record? n = some r) (hb : r.body = .pick b) (hcycle : s.fct.cycle = none)
    (hexist : ∀ e ∈ b.sel, (s.bay? e.addr).isSome = true) {a : BayAddr} {z : Bay} (hz : s.bay? a = some z) :
    ∃ z', (s.dropRecord n).bay? a = some z' ∧ z'.reserved = z.reserved - askedOf b.sel a := by
  obtain ⟨hsmap, hfct⟩ := bidWithdrawn_leaves (s.withoutRecord n) r
  rw [dropRecord_eq hr, bay?_of_carriers (giveBack_pick_carriers hb)]
  generalize ((s.withoutRecord n).withdrawBid r).keepNote r = u at hsmap hfct
  have hbays : ∀ d, u.bay? d = s.bay? d := bay?_of_carriers (congrArg Smap.carriers hsmap)
  rw [releaseList_of_no_cycle (hfct ▸ hcycle)]
  have hall : ∀ e ∈ b.sel.map (fun e => (e.addr, e.qty)), u.bay? e.1 ≠ none := fun e he => by
    obtain ⟨d, hd, rfl⟩ := List.mem_map.mp he
    rw [hbays]
    exact Option.isSome_iff_ne_none.mp (hexist d hd)
  obtain ⟨z', hz', -, -, hreserved⟩ := unreserve_bay? hall ((hbays a).trans hz)
  exact ⟨z', hz', hreserved.trans (by rw [givenBack_selection])⟩

/-- A putaway record removed with no cycle in flight takes back what it still expects at its target (R110, R111). -/
theorem dropRecord_incoming {b : PutBody} (hr : s.record? n = some r) (hb : r.body = .putaway b) (hcycle : s.fct.cycle = none)
    {z : Bay} (hz : s.bay? b.target = some z) :
    ∃ z', (s.dropRecord n).bay? b.target = some z' ∧ z'.incoming = z.incoming - (r.qty - b.stored) := by
  obtain ⟨hsmap, hfct⟩ := bidWithdrawn_leaves (s.withoutRecord n) r
  rw [dropRecord_eq hr, bay?_of_carriers (giveBack_putaway_carriers hb)]
  generalize ((s.withoutRecord n).withdrawBid r).keepNote r = u at hsmap hfct
  have hbay : u.bay? b.target = some z := (bay?_of_carriers (congrArg Smap.carriers hsmap) b.target).trans hz
  have hheld : u.storeHeld n = 0 := by
    unfold Station.storeHeld
    rw [show u.fct.cycle = none from hfct ▸ hcycle]
  have hfigures := figures_changeBay u b.target b.target (f := fun z => { z with incoming := z.incoming - (r.qty - b.stored) })
    (g := fun x => (x.1, x.2.1, x.2.2 - (r.qty - b.stored))) (fun _ => rfl)
  rw [hbay, Option.map_some, Option.map_some, if_pos rfl] at hfigures
  obtain ⟨z', hz', hx⟩ := Option.map_eq_some_iff.mp hfigures
  rw [hheld, Nat.sub_zero, unexpect_of_bay _ hbay]
  exact ⟨z', hz', (congrArg (fun x => x.2.2) hx :)⟩

/-- The reserved of a bay can be told from the view. -/
theorem reserved_of_view (h : t.view = s.view) (d : BayAddr) :
    (t.bay? d).map (fun b => b.reserved) = (s.bay? d).map (fun b => b.reserved) := by
  have hread : ∀ u : Station, (u.bay? d).map (fun b => b.reserved) =
      (u.view.stock[d.carrier]?).bind (fun k => k.bays[d.bay]?.map (fun x => x.2)) := by
    intro u
    simp only [Station.bay?, Station.carrier?, Station.view, List.getElem?_map]
    cases u.smap.carriers[d.carrier]? <;> simp [Carrier.stock, Function.comp_def]
  rw [hread, hread, h]

end

end Sys2Proof.Machine
end

section
/-! ### A round lost, by a claim or by a close: its record goes, and the others stay (R102, R106, R111) -/

namespace Sys2Proof.Machine

/-! #### A station that has heard no more than a frame -/

/-- `s` is `x` but for the Bus Interface and the bids of the records. -/
structure SameLines (x s : Station) : Prop where
  cores : s.lasting.cores = x.lasting.cores
  smap : s.smap = x.smap
  fct : s.fct = x.fct
  cnu : s.cnu = x.cnu

theorem sameLines_refl (x : Station) : SameLines x x := ⟨rfl, rfl, rfl, rfl⟩

theorem sameLines_withQueue (x : Station) (rest : List Frame) : SameLines x (x.withQueue rest) := ⟨rfl, rfl, rfl, rfl⟩

theorem updBid_lasting (s : Station) (n : Nat) (f : Bid → Bid) : (s.updBid n f).lasting = s.lasting := by
  have hcores : (s.updBid n f).clu.records.map LineRec.core = s.clu.records.map LineRec.core := by
    refine map_map_of_eq _ _ (fun r => ?_) _
    split <;> rfl
  unfold Station.lasting
  rw [hcores]
  rfl

theorem SameLines.updBid {x s : Station} (h : SameLines x s) (n : Nat) (f : Bid → Bid) : SameLines x (s.updBid n f) :=
  ⟨(congrArg Lasting.cores (updBid_lasting s n f)).trans h.cores, h.smap, h.fct, h.cnu⟩

/-! #### The record gone -/

/-- A record goes, and once the event has settled the view is as it was in all that a removal leaves alone. -/
theorem dropRecord_settle_view {x s : Station} {v : View} (hrest : s.view.rest = v.rest) (n : Nat) :
    ((s.dropRecord n).settle x).view = v.dropping ((s.dropRecord n).settle x).view := by
  refine eq_dropping_of_rest ?_
  rw [settle_view, dropRecord_rest, hrest]

/-- A record goes, and the order entries last as well, but where it is a WON pick (R111). -/
theorem dropRecord_lasting_of_no_line {s : Station} {n : Nat} {r : LineRec} (hr : s.record? n = some r)
    (hline : ∀ b, r.body = .pick b → r.won = false) : (s.dropRecord n).lasting = s.lasting.without n := by
  cases hb : r.body with
  | pick b => exact dropRecord_orders hr (hline b hb)
  | putaway b =>
    have horders : (s.dropRecord n).lasting.orders = s.lasting.orders := by
      rcases dropRecord_orders_cases hr with h | ⟨c, hc, -⟩
      · exact h
      · cases hb.symm.trans hc
    rw [dropRecord_lasting, horders]
    rfl

/-- What is left of `x` where the record `r` alone has been removed, with the offers of the slots it frees. -/
def RecordGone (x y : Station) (r : LineRec) : Prop :=
  (∀ o ∈ y.clu.records, o.serial ≠ r.serial)
    ∧ (x.NamesFresh → y.cnu.orders.map OrderEntry.kept = x.cnu.orders.map OrderEntry.kept
      ∧ y.clu.records.map LineRec.core = (x.clu.records.filter (fun o => o.serial ≠ r.serial)).map LineRec.core)
    ∧ y.smap.carriers.map Carrier.holdings = x.smap.carriers.map Carrier.holdings

section
variable {x s : Station} {r k : LineRec}

/-- Where no two records of `x` have one serial, a record of `s` is found under its serial. -/
theorem SameLines.record? (h : SameLines x s) (hfresh : x.NamesFresh) (hk : k ∈ s.clu.records) :
    s.record? k.serial = some k := by
  obtain ⟨-, -, -, -, hserials, -⟩ := hfresh
  exact record?_of_mem (serials_of_cores h.cores ▸ hserials) hk

theorem SameLines.recordGone (h : SameLines x s) (hk : k ∈ s.clu.records) (hserial : k.serial = r.serial)
    (hline : ∀ b, k.body = .pick b → k.won = false) : RecordGone x ((s.dropRecord r.serial).settle x) r := by
  have hsettled := lasting_of_view (settle_view (s.dropRecord r.serial) x)
  generalize (s.dropRecord r.serial).settle x = y at hsettled
  have hlasting := hsettled.trans (dropRecord_lasting s r.serial)
  have hcores : y.clu.records.map LineRec.core = (x.clu.records.filter (fun o => o.serial ≠ r.serial)).map LineRec.core := by
    refine (congrArg Lasting.cores hlasting).trans ?_
    exact (congrArg (List.filter _) h.cores).trans (filter_cores x.clu.records r.serial)
  refine ⟨fun o ho hname => ?_, fun hfresh => ⟨?_, hcores⟩, ?_⟩
  · obtain ⟨o', ho', hcore⟩ := List.mem_map.mp (hcores ▸ List.mem_map_of_mem (f := LineRec.core) ho)
    exact of_decide_eq_true (List.mem_filter.mp ho').2 ((congrArg Prod.fst hcore).trans hname)
  · have hr : s.record? r.serial = some k := hserial ▸ h.record? hfresh hk
    refine (congrArg Lasting.orders (hsettled.trans (dropRecord_lasting_of_no_line hr hline))).trans ?_
    exact congrArg (fun c : Cnu => c.orders.map OrderEntry.kept) h.cnu
  · exact (congrArg Lasting.holdings hlasting).trans
      (congrArg (fun m : Smap => m.carriers.map Carrier.holdings) h.smap)

/-! #### What a lost round gives back (R11, R13) -/

theorem SameLines.lost_reserved {b : PickBody} (h : SameLines x s) (hfresh : x.NamesFresh) (hk : k ∈ s.clu.records)
    (hserial : k.serial = r.serial) (hb : k.body = .pick b) (hcycle : x.fct.cycle = none)
    (hexist : ∀ e ∈ b.sel, (x.bay? e.addr).isSome = true) {a : BayAddr} {z : Bay} (hz : x.bay? a = some z) :
    ∃ z', ((s.dropRecord r.serial).settle x).bay? a = some z' ∧ z'.reserved = z.reserved - askedOf b.sel a := by
  have hbay : ∀ d, s.bay? d = x.bay? d := bay?_of_carriers (congrArg Smap.carriers h.smap)
  obtain ⟨z', hz', hreserved⟩ := dropRecord_reserved (s := s) (n := r.serial) (a := a) (hserial ▸ h.record? hfresh hk) hb
    (h.fct ▸ hcycle) (fun e he => (hbay e.addr).symm ▸ hexist e he) ((hbay a).trans hz)
  have hsettled := reserved_of_view (settle_view (s.dropRecord r.serial) x) a
  rw [hz'] at hsettled
  obtain ⟨z'', hz'', hsame⟩ := Option.map_eq_some_iff.mp hsettled
  exact ⟨z'', hz'', hsame.trans hreserved⟩

theorem SameLines.lost_incoming {b : PutBody} (h : SameLines x s) (hfresh : x.NamesFresh) (hk : k ∈ s.clu.records)
    (hserial : k.serial = r.serial) (hb : k.body = .putaway b) (hcycle : x.fct.cycle = none) (hlane : x.cnu.groups = [])
    {z : Bay} (hz : x.bay? b.target = some z) :
    ∃ z', ((s.dropRecord r.serial).settle x).bay? b.target = some z' ∧ z'.incoming = z.incoming - (k.qty - b.stored) := by
  have hbay := bay?_of_carriers (congrArg Smap.carriers h.smap) b.target
  obtain ⟨z', hz', hincoming⟩ := dropRecord_incoming (s := s) (n := r.serial) (hserial ▸ h.record? hfresh hk) hb
    (h.fct ▸ hcycle) (hbay.trans hz)
  have hempty : (s.dropRecord r.serial).cnu.groups = [] := by
    have hgroups : (s.dropRecord r.serial).cnu.groups.map Group.kept = s.cnu.groups.map Group.kept :=
      congrArg View.groups (dropRecord_rest s r.serial)
    rwa [h.cnu, hlane, List.map_nil, List.map_eq_nil_iff] at hgroups
  have hsettled := incoming_of_promises (settle_promises hempty x) b.target
  rw [hz'] at hsettled
  obtain ⟨z'', hz'', hsame⟩ := Option.map_eq_some_iff.mp hsettled
  exact ⟨z'', hz'', hsame.trans hincoming⟩

/-- What is left of `x` where the round of the record is lost, with what its bays get back. -/
structure RoundLost (x y : Station) (r : LineRec) : Prop where
  gone : RecordGone x y r
  reserved : ∀ b, r.body = .pick b → x.NamesFresh → x.fct.cycle = none →
    (∀ e ∈ b.sel, (x.bay? e.addr).isSome = true) →
      ∀ a z, x.bay? a = some z → ∃ z', y.bay? a = some z' ∧ z'.reserved = z.reserved - askedOf b.sel a
  incoming : ∀ b, r.body = .putaway b → x.NamesFresh → x.fct.cycle = none → x.cnu.groups = [] →
    ∀ z, x.bay? b.target = some z → ∃ z', y.bay? b.target = some z' ∧ z'.incoming = z.incoming - (r.qty - b.stored)

/-- The record `k` of `s` is the lost record `r` but for its bid. -/
theorem SameLines.roundLost (h : SameLines x s) (hk : k ∈ s.clu.records) (hsame : k = { r with bid := k.bid })
    (htentative : r.tentative = true) : RoundLost x ((s.dropRecord r.serial).settle x) r := by
  have hserial : k.serial = r.serial := by rw [hsame]
  have hbody : k.body = r.body := by rw [hsame]
  have hqty : k.qty = r.qty := by rw [hsame]
  have hwon : k.won = false := by
    rw [hsame]
    exact not_won_of_tentative htentative
  refine ⟨h.recordGone hk hserial (fun _ _ => hwon), fun b hb hfresh hcycle hexist a z hz => ?_,
    fun b hb hfresh hcycle hlane z hz => ?_⟩
  · exact h.lost_reserved hfresh hk hserial (hbody.trans hb) hcycle hexist hz
  · exact hqty ▸ h.lost_incoming hfresh hk hserial (hbody.trans hb) hcycle hlane hz

end

/-! #### CLM and CLS, case by case (R102, R106, R107) -/

section
variable {s : Station} {code : Nat × Nat} {key : Nat} {r : LineRec}

/-- The station with a claim heard as the best of the record's round (R102). -/
def Station.withBest (s : Station) (r : LineRec) (key : Nat) : Station :=
  s.updBid r.serial (fun b => { b with best := some key })

theorem hearClaim_of_better (hr : s.recordOfRound code = some r) (htentative : r.tentative = true)
    (hbest : ∀ k, r.bid.best = some k → key < k) :
    s.hearClaim code key =
      if key < r.bid.key then (s.withBest r key).dropRecord r.serial else s.withBest r key := by
  have hbetter : r.bid.best.all (fun k => decide (key < k)) = true :=
    (Option.all_eq_true _ _).mpr (fun k hk => decide_eq_true (hbest k hk))
  simp only [Station.hearClaim, hr, htentative, hbetter, Bool.and_self, if_true, Station.withBest]

theorem hearClaim_of_other (h : ∀ r, s.recordOfRound code = some r →
    r.tentative = false ∨ ∃ k, r.bid.best = some k ∧ k ≤ key) : s.hearClaim code key = s := by
  unfold Station.hearClaim
  cases hr : s.recordOfRound code with
  | none => rfl
  | some r =>
    refine if_neg (fun hboth => ?_)
    obtain ⟨htentative, hbetter⟩ := Bool.and_eq_true_iff.mp hboth
    rcases h r hr with hdecided | ⟨k, hk, hle⟩
    · rw [hdecided] at htentative
      cases htentative
    · rw [hk, Option.all_some, decide_eq_true_eq] at hbetter
      omega

theorem hearClose_of_tentative (hr : s.recordOfRound code = some r) (htentative : r.tentative = true) (own : Bool) :
    s.hearClose code own = if r.bid.best = some r.bid.key then s.winRound r own else s.dropRecord r.serial := by
  simp only [Station.hearClose, hr, htentative, if_true]

theorem hearClose_of_other (h : ∀ r, s.recordOfRound code = some r → r.tentative = false) (own : Bool) :
    s.hearClose code own = s := by
  unfold Station.hearClose
  cases hr : s.recordOfRound code with
  | none => rfl
  | some r => exact if_neg (by simp [h r hr])

end

theorem mem_of_recordOfRound {s : Station} {code : Nat × Nat} {r : LineRec} (h : s.recordOfRound code = some r) :
    r ∈ s.clu.records := List.mem_of_find?_eq_some h

end Sys2Proof.Machine
end

section
/-! ### A round won (R107 to R109) -/

namespace Sys2Proof.Machine

/-! #### What a win leaves alone -/

/-- The close of a round taken note of: the station's own close withdrawn where another's has been heard, and no close owed
any more (R107). -/
def Station.closeTaken (s : Station) (r : LineRec) (own : Bool) : Station :=
  (if own then s else s.withdraw r.bid.close).updBid r.serial (fun b => { b with closeOwed := false })

theorem closeTaken_steady (s : Station) (r : LineRec) (own : Bool) : (s.closeTaken r own).steady = s.steady := by
  unfold Station.closeTaken
  refine (updBid_steady _ _ (f := fun b => { b with closeOwed := false }) (fun _ => rfl)).trans ?_
  split
  · rfl
  · exact withdraw_steady s _

/-- The order's entry with the line among its own lines (R108). -/
def OrderEntry.withLine (line : Nat) (e : OrderEntry) : OrderEntry :=
  { e with own := if line ∈ e.own then e.own else e.own ++ [line] }

section
variable {s t : Station} {r : LineRec} (own : Bool)

theorem winRound_pick {b : PickBody} (hb : r.body = .pick b) :
    s.winRound r own = ((s.closeTaken r own).updPick r.serial (fun c => { c with state := .won })).updOrder b.order
      (OrderEntry.withLine b.line) := by
  have hline : OrderEntry.withLine b.line =
      fun e => { e with own := if e.own.contains b.line then e.own else e.own ++ [b.line] } := by
    funext e
    simp [OrderEntry.withLine]
  unfold Station.winRound
  rw [hb, hline]
  rfl

theorem winRound_putaway {b : PutBody} (hb : r.body = .putaway b) :
    s.winRound r own = (s.closeTaken r own).updPut r.serial
      (fun c => { c with state := .won, lastArrival := (s.closeTaken r own).tick }) := by
  unfold Station.winRound
  rw [hb]
  rfl

/-- A win changes no more than the records, the order entries and what the withdrawal of a close can fill. -/
theorem winRound_leaves (s : Station) (r : LineRec) :
    (s.winRound r own).view.rest = s.view.rest ∧ (s.winRound r own).clu.notes = s.clu.notes
      ∧ (s.winRound r own).smap = s.smap ∧ (s.winRound r own).fct = s.fct := by
  have hsteady := closeTaken_steady s r own
  have hsame : (s.winRound r own).view.rest = (s.closeTaken r own).view.rest
      ∧ (s.winRound r own).clu.notes = (s.closeTaken r own).clu.notes
      ∧ (s.winRound r own).smap = (s.closeTaken r own).smap ∧ (s.winRound r own).fct = (s.closeTaken r own).fct := by
    cases hb : r.body with
    | pick b =>
      rw [winRound_pick own hb]
      exact ⟨rfl, rfl, rfl, rfl⟩
    | putaway b =>
      rw [winRound_putaway own hb]
      exact ⟨rfl, rfl, rfl, rfl⟩
  obtain ⟨hrest, hnotes, hsmap, hfct⟩ := hsame
  exact ⟨hrest.trans (rest_of_steady hsteady), hnotes.trans (congrArg Steady.notes hsteady),
    hsmap.trans (congrArg Steady.smap hsteady), hfct.trans (congrArg Steady.fct hsteady)⟩

end

/-- A view that agrees on the rest, and on the close notes, the stock and the infeed as well. -/
theorem eq_dropping_keeping {v w : View} (hrest : w.rest = v.rest) (hnotes : w.notes = v.notes) (hstock : w.stock = v.stock)
    (hinfeed : w.infeed = v.infeed) :
    w = { v.dropping w with notes := v.notes, stock := v.stock, infeed := v.infeed } := by
  refine (eq_dropping_of_rest hrest).trans ?_
  unfold View.dropping
  rw [hnotes, hstock, hinfeed]

/-! #### The record WON -/

/-- A record that has become WON, as `LineRec.core` shows it. -/
def wonCore (c : RecordCore) : RecordCore := (c.1, c.2.1, c.2.2.1, c.2.2.2.1, (c.1, 1, c.2.2.2.2.2.2))

theorem won_of_core {k : LineRec} {c : RecordCore} (h : k.core = wonCore c) : k.won = true := by
  have hstate : k.reported.2.1 = 1 := congrArg (fun c : RecordCore => c.2.2.2.2.2.1) h
  rcases k with ⟨serial, article, qty, bid, body⟩
  cases body with
  | pick b => rcases b with ⟨order, line, state⟩; cases state <;> simp_all [LineRec.reported, LineRec.won]
  | putaway b => rcases b with ⟨number, week, target, state⟩; cases state <;> simp_all [LineRec.reported, LineRec.won]

theorem mapPick_won_core {k : LineRec} {order line : Nat} (h : k.round = .pick order line) :
    (k.mapPick (fun c => { c with state := .won })).core = wonCore k.core := by
  rcases k with ⟨serial, article, qty, bid, body⟩
  cases body with
  | pick b => rfl
  | putaway b => cases h

theorem mapPut_won_core {k : LineRec} {number : Nat} (h : k.round = .putaway number) (tick : Tick) :
    (k.mapPut (fun c => { c with state := .won, lastArrival := tick })).core = wonCore k.core := by
  rcases k with ⟨serial, article, qty, bid, body⟩
  cases body with
  | pick b => cases h
  | putaway b => rfl

/-- The change that a win makes of a record of its serial: the core of one of its round becomes that of a WON record. -/
theorem winRound_records (s : Station) (r : LineRec) (own : Bool) :
    ∃ f : LineRec → LineRec, (∀ k, k.round = r.round → (f k).core = wonCore k.core)
      ∧ (s.winRound r own).clu = ((s.closeTaken r own).updRecord r.serial f).clu := by
  cases hb : r.body with
  | pick b =>
    have hround : r.round = .pick b.order b.line := by simp only [LineRec.round, hb]
    rw [winRound_pick own hb]
    exact ⟨_, fun k hk => mapPick_won_core (hk.trans hround), rfl⟩
  | putaway b =>
    have hround : r.round = .putaway b.number := by simp only [LineRec.round, hb]
    rw [winRound_putaway own hb]
    exact ⟨_, fun k hk => mapPut_won_core (hk.trans hround) _, rfl⟩

section
variable {s : Station} {r : LineRec} (own : Bool)

/-- The record stands WON in the table. -/
theorem winRound_won (hr : r ∈ s.clu.records) : wonCore r.core ∈ (s.winRound r own).lasting.cores := by
  obtain ⟨f, hf, hclu⟩ := winRound_records s r own
  have hheld : r.core ∈ (s.closeTaken r own).clu.records.map LineRec.core :=
    cores_of_steady (closeTaken_steady s r own) ▸ List.mem_map_of_mem hr
  obtain ⟨k, hk, hcore⟩ := List.mem_map.mp hheld
  refine List.mem_map.mpr ⟨f k, ?_, (hf k (congrArg (fun c : RecordCore => c.2.1) hcore)).trans (by rw [hcore])⟩
  rw [hclu]
  exact List.mem_map.mpr ⟨k, hk, if_pos (congrArg Prod.fst hcore)⟩

/-- Where no two records have one serial, every other record stays as it is. -/
theorem winRound_cores (hnodup : (s.clu.records.map (fun k => k.serial)).Nodup) (hr : r ∈ s.clu.records) :
    (s.winRound r own).lasting.cores = s.lasting.cores.map (fun c => if c.1 = r.serial then wonCore c else c) := by
  obtain ⟨f, hf, hclu⟩ := winRound_records s r own
  have hcores := cores_of_steady (closeTaken_steady s r own)
  have hrounds : ∀ k ∈ (s.closeTaken r own).clu.records, k.serial = r.serial → k.round = r.round := fun k hk hserial => by
    obtain ⟨o, ho, hcore⟩ := List.mem_map.mp (hcores ▸ List.mem_map_of_mem (f := LineRec.core) hk)
    have hsame : o = r := List.inj_on_of_nodup_map hnodup ho hr ((congrArg Prod.fst hcore).trans hserial)
    rw [← hsame]
    exact (congrArg (fun c : RecordCore => c.2.1) hcore).symm
  rw [show s.lasting.cores = s.clu.records.map LineRec.core from rfl, ← hcores,
    show (s.winRound r own).lasting.cores = (s.winRound r own).clu.records.map LineRec.core from rfl, hclu]
  simp only [Station.updRecord, List.map_map]
  refine List.map_congr_left (fun k hk => ?_)
  by_cases hserial : k.serial = r.serial
  · rw [Function.comp_apply, Function.comp_apply, if_pos hserial, if_pos (show k.core.1 = r.serial from hserial),
      hf k (hrounds k hk hserial)]
  · rw [Function.comp_apply, Function.comp_apply, if_neg hserial, if_neg (show ¬ k.core.1 = r.serial from hserial)]

/-! #### The order's own lines (R108) -/

theorem winRound_orders_pick {b : PickBody} (hb : r.body = .pick b) :
    (s.winRound r own).lasting.orders =
      s.lasting.orders.map (fun e => if e.order = b.order then e.withLine b.line else e) := by
  have hkept := kept_of_steady (closeTaken_steady s r own)
  rw [winRound_pick own hb, show s.lasting.orders = s.cnu.orders.map OrderEntry.kept from rfl, ← hkept]
  simp only [Station.lasting, Station.updOrder, Station.updPick, Station.updRecord, List.map_map]
  refine List.map_congr_left (fun e _ => ?_)
  by_cases h : e.order = b.order <;> simp [OrderEntry.kept, OrderEntry.withLine, h]

theorem winRound_orders_putaway {b : PutBody} (hb : r.body = .putaway b) :
    (s.winRound r own).lasting.orders = s.lasting.orders := by
  have hkept : (s.closeTaken r own).lasting.orders = s.lasting.orders := kept_of_steady (closeTaken_steady s r own)
  rw [winRound_putaway own hb]
  exact hkept

end

/-! #### CLM_TAKEN and CLS_TAKEN -/

theorem exec_clmTaken {x u : Station} (q : List Instr) {f : Frame} {rest : List Frame} (hx : x.live)
    (hq : x.bus.rxq = f :: rest) (hf : f.accepted = some .clm)
    (hu : (x.withQueue rest).hearClaim (roundField f.payload) f.key.toNat = u) :
    exec .clmTaken ⟨x, q⟩ = .next ⟨u.settle x, q⟩ ∧ (u.settle x).view = u.view :=
  ⟨(answer_notice q hx hq hf rfl).trans (by rw [hu]), settle_view u x⟩

theorem exec_clsTaken {x u : Station} (q : List Instr) {f : Frame} {rest : List Frame} (hx : x.live)
    (hq : x.bus.rxq = f :: rest) (hf : f.accepted = some .cls)
    (hu : (x.withQueue rest).hearClose (roundField f.payload) (x.ownFrame f) = u) :
    exec .clsTaken ⟨x, q⟩ = .next ⟨u.settle x, q⟩ ∧ (u.settle x).view = u.view := by
  refine ⟨(answer_notice q hx hq hf rfl).trans ?_, settle_view u x⟩
  rw [← hu]
  rfl

/-- The round of a record won at the close of another's frame or of its own, whatever settles after. -/
theorem winRound_settles {x : Station} {rest : List Frame} {r : LineRec} (own : Bool) (hr : r ∈ x.clu.records) :
    let y := ((x.withQueue rest).winRound r own).settle x
    y.view = { x.view.dropping y.view with
        bus := { x.view.bus with rxq := rest }, notes := x.view.notes, stock := x.view.stock, infeed := x.view.infeed }
      ∧ (∃ r' ∈ y.clu.records, r'.serial = r.serial ∧ r'.round = r.round ∧ r'.won = true)
      ∧ (x.NamesFresh → y.clu.records.map LineRec.core = x.clu.records.map (fun o => (o.serial, o.round, o.article, o.qty,
          if o.serial = r.serial then (o.serial, 1, o.reported.2.2) else o.reported)))
      ∧ (∀ b, r.body = .pick b → y.cnu.orders.map OrderEntry.kept = x.cnu.orders.map (fun e =>
          if e.order = b.order then { e.kept with own := if b.line ∈ e.own then e.own else e.own ++ [b.line] }
          else e.kept))
      ∧ ∀ b, r.body = .putaway b → y.cnu.orders.map OrderEntry.kept = x.cnu.orders.map OrderEntry.kept := by
  intro y
  have hview : y.view = ((x.withQueue rest).winRound r own).view := settle_view _ x
  have hlasting : y.lasting = ((x.withQueue rest).winRound r own).lasting := lasting_of_view hview
  obtain ⟨hrest, hnotes, hsmap, hfct⟩ := winRound_leaves own (x.withQueue rest) r
  refine ⟨?_, ?_, fun hfresh => ?_, fun b hb => ?_, fun b hb => ?_⟩
  · rw [hview]
    exact eq_dropping_keeping (v := (x.withQueue rest).view) hrest hnotes
      (congrArg (fun m : Smap => m.carriers.map Carrier.stock) hsmap) (congrArg Fct.infeed hfct)
  · have hwon := winRound_won (s := x.withQueue rest) own hr
    rw [← hlasting] at hwon
    obtain ⟨k, hk, hcore⟩ := List.mem_map.mp hwon
    exact ⟨k, hk, congrArg Prod.fst hcore, congrArg (fun c : RecordCore => c.2.1) hcore, won_of_core hcore⟩
  · obtain ⟨-, -, -, -, hserials, -⟩ := hfresh
    refine ((congrArg Lasting.cores hlasting).trans (winRound_cores (s := x.withQueue rest) own hserials hr)).trans ?_
    rw [show (x.withQueue rest).lasting.cores = x.clu.records.map LineRec.core from rfl, List.map_map]
    refine List.map_congr_left (fun o _ => ?_)
    by_cases hserial : o.serial = r.serial <;> simp [LineRec.core, wonCore, hserial]
  · refine ((congrArg Lasting.orders hlasting).trans (winRound_orders_pick (s := x.withQueue rest) own hb)).trans ?_
    exact List.map_map
  · exact (congrArg Lasting.orders hlasting).trans (winRound_orders_putaway (s := x.withQueue rest) own hb)

/-- Settles O28: CLM heard, lower than the record's own key, lower than the best heard, or neither; CLS heard, the round
won, lost, or decided before. -/
theorem claimAndCloseHeard : Obligations.ClaimAndCloseHeard := by
  refine ⟨fun x q f rest hx hq hf => ⟨fun r hr htentative hbest => ⟨fun hlow => ?outbid, fun hhigh => ?best⟩,
      fun hother => ?idleClaim⟩,
    fun x q f rest hx hq hf => ⟨fun r hr htentative => ⟨fun hwon => ?won, fun hlost => ?lost⟩,
      fun hdecided => ?idleClose⟩⟩
  case outbid =>
    have hheard := hearClaim_of_better (s := x.withQueue rest) hr htentative hbest
    rw [if_pos hlow] at hheard
    have hsame : SameLines x ((x.withQueue rest).withBest r f.key.toNat) := (sameLines_withQueue x rest).updBid _ _
    have hmem : { r with bid := { r.bid with best := some f.key.toNat } } ∈
        ((x.withQueue rest).withBest r f.key.toNat).clu.records :=
      List.mem_map.mpr ⟨r, mem_of_recordOfRound hr, if_pos rfl⟩
    obtain ⟨⟨hgone, hothers, hholdings⟩, hreserved, hincoming⟩ := hsame.roundLost (r := r) hmem rfl htentative
    exact ⟨_, (exec_clmTaken q hx hq hf hheard).1,
      dropRecord_settle_view (s := (x.withQueue rest).withBest r f.key.toNat) (v := (x.withQueue rest).view) rfl _,
      hgone, hothers, hholdings, hreserved, hincoming⟩
  case best =>
    have hheard := hearClaim_of_better (s := x.withQueue rest) hr htentative hbest
    rw [if_neg (Nat.not_lt.mpr hhigh)] at hheard
    exact exec_clmTaken q hx hq hf hheard
  case idleClaim => exact exec_clmTaken q hx hq hf (hearClaim_of_other hother)
  case won =>
    have hheard := hearClose_of_tentative (s := x.withQueue rest) hr htentative (x.ownFrame f)
    rw [if_pos hwon] at hheard
    exact ⟨_, (exec_clsTaken q hx hq hf hheard).1, winRound_settles _ (mem_of_recordOfRound hr)⟩
  case lost =>
    have hheard := hearClose_of_tentative (s := x.withQueue rest) hr htentative (x.ownFrame f)
    rw [if_neg hlost] at hheard
    obtain ⟨⟨hgone, hothers, hholdings⟩, hreserved, hincoming⟩ :=
      (sameLines_withQueue x rest).roundLost (r := r) (mem_of_recordOfRound hr) rfl htentative
    exact ⟨_, (exec_clsTaken q hx hq hf hheard).1, dropRecord_settle_view (v := (x.withQueue rest).view) rfl _,
      hgone, hothers, hholdings, hreserved, hincoming⟩
  case idleClose => exact exec_clsTaken q hx hq hf (hearClose_of_other (s := x.withQueue rest) hdecided _)

end Sys2Proof.Machine
end

section
/-! ### The claim window and the infeed timeout run out (R104, R105, R110, R142) -/

namespace Sys2Proof.Machine

/-! #### The infeed as a record goes (R142) -/

theorem putawayEnded_infeed (s : Station) (n : Nat) :
    (s.putawayEnded n).fct.infeed = if s.fct.infeed = .ofRecord n then .surplus else s.fct.infeed := by
  unfold Station.putawayEnded
  split
  · exact congrArg (fun c : Steady => c.fct.infeed) (statusTrigger_steady _)
  · rfl

/-- A putaway record goes, and a tyre of it at the infeed becomes SURPLUS. -/
theorem dropRecord_infeed {s : Station} {n : Nat} {r : LineRec} {b : PutBody} (hr : s.record? n = some r)
    (hb : r.body = .putaway b) :
    (s.dropRecord n).fct.infeed = if s.fct.infeed = .ofRecord n then .surplus else s.fct.infeed := by
  obtain ⟨-, hfct⟩ := bidWithdrawn_leaves (s.withoutRecord n) r
  have hinfeed : (((s.withoutRecord n).withdrawBid r).keepNote r).fct.infeed = s.fct.infeed := congrArg Fct.infeed hfct
  rw [dropRecord_eq hr, ← hinfeed]
  generalize ((s.withoutRecord n).withdrawBid r).keepNote r = u
  unfold Station.giveBack
  rw [hb]
  dsimp only
  have hexpected := (unexpect_onlySmap u b.target (r.qty - b.stored - u.storeHeld n)).fct
  rw [(testArticle_onlySmap _ _).fct, putawayEnded_infeed]
  exact congrArg (fun c : Fct => if c.infeed = .ofRecord n then Infeed.surplus else c.infeed) hexpected

/-! #### The timers -/

section
variable {x : Station} {r : LineRec}

theorem windowDue_iff (hopen : r.tentative = true ∧ r.bid.expired = false ∧ r.bid.close = none ∧ r.bid.closeOwed = false) :
    x.windowDue r = true ↔ x.cfg.claimWindow ≤ (x.tick - r.bid.windowStart).toNat := by
  obtain ⟨htentative, hexpired, hclose, howed⟩ := hopen
  simp [Station.windowDue, Station.elapsed, htentative, hexpired, hclose, howed]

theorem exec_claimWindowExpiry_due (q : List Instr) {round : RoundId} {u : Station} (hx : x.live)
    (hr : x.roundRecord round = some r) (hdue : x.windowDue r = true) (hu : x.windowExpired r = u) :
    exec (.claimWindowExpiry round) ⟨x, q⟩ = .next ⟨u.settle x, q⟩ ∧ (u.settle x).view = u.view := by
  refine answer_change q hx ?_
  rw [hr]
  dsimp only
  rw [if_pos hdue, hu]

theorem exec_claimWindowExpiry_not_due (q : List Instr) {round : RoundId} (hx : x.live)
    (hr : x.roundRecord round = some r) (hdue : ¬ x.windowDue r = true) :
    exec (.claimWindowExpiry round) ⟨x, q⟩ = .next ⟨x.settle x, q⟩ ∧ (x.settle x).view = x.view := by
  refine answer_change q hx ?_
  rw [hr]
  exact if_neg hdue

theorem windowExpired_sent (hsent : r.bid.sent = true) (haccepts : x.bus.accepts .cls = true) (howed : Kind.cls ∉ x.bus.owed) :
    x.windowExpired r =
      (x.addPost .cls x.ownKey (clsPayload r.round (r.winningKey % 64) r.winningKey)).updBid r.serial
        (fun b => { b with close := some x.bus.nextHandle }) := by
  have hpost : (x.bus.accepts .cls && !x.bus.owed.contains .cls) = true := by simpa [haccepts] using howed
  simp only [Station.windowExpired, hsent, if_true, Station.postClose, Station.post, hpost]

theorem windowExpired_withdrawn (hsent : r.bid.sent = false)
    (hpending : ∃ h, r.bid.claim = some h ∧ x.bus.canWithdraw h = true) : x.windowExpired r = x.dropRecord r.serial := by
  unfold Station.windowExpired
  rw [if_neg (by simp [hsent]), if_pos ((Option.any_eq_true _ _).mpr hpending)]

theorem windowExpired_onBus (hsent : r.bid.sent = false) (hlate : ∀ h, r.bid.claim = some h → x.bus.canWithdraw h = false) :
    x.windowExpired r = x.updBid r.serial (fun b => { b with expired := true }) := by
  unfold Station.windowExpired
  rw [if_neg (by simp [hsent]), if_neg]
  intro hany
  obtain ⟨h, hclaim, hpending⟩ := (Option.any_eq_true _ _).mp hany
  rw [hlate h hclaim] at hpending
  cases hpending

/-- A TENTATIVE record's unsent claim that is PENDING is withdrawn with it, and its slot is FREE once the event has settled. -/
theorem dropRecord_settle_claimFree (hfresh : x.NamesFresh) (hr : r ∈ x.clu.records) (htentative : r.tentative = true)
    (howed : r.bid.closeOwed = false) (hsent : r.bid.sent = false) {h : Nat} (hclaim : r.bid.claim = some h)
    (hpending : x.bus.canWithdraw h = true) : ((x.dropRecord r.serial).settle x).bus.slotFree h := by
  obtain ⟨hhandles, -, -, -, hserials, -⟩ := hfresh
  have hold : h < x.bus.nextHandle := by
    obtain ⟨p, hp, -⟩ := (Option.any_eq_true _ _).mp hpending
    have hname : p.handle = h := by simpa using List.find?_some hp
    exact hname ▸ hhandles p (List.mem_of_find?_eq_some hp)
  have hpinned : x.Pinned h r :=
    ⟨⟨hold, .inr hpending⟩, fun k hk hserial => by rw [List.inj_on_of_nodup_map hserials hk hr hserial]⟩
  have hfree := dropRecord_slotFree hpinned howed (record?_of_mem hserials hr) htentative (.inr ⟨hsent, hclaim⟩)
  exact (settle_grown _ x).carried.free h (hpinned.dropRecord howed r.serial).slot.old hfree

theorem exec_infeedTimeout {u : Station} (q : List Instr) {number : Nat} {b : PutBody} (hx : x.live)
    (hr : x.roundRecord (.putaway number) = some r) (hb : x.put? r.serial = some b)
    (hu : (if x.infeedDue b then x.dropRecord r.serial else x) = u) :
    exec (.infeedTimeout number) ⟨x, q⟩ = .next ⟨u.settle x, q⟩ ∧ (u.settle x).view = u.view := by
  refine answer_change q hx ?_
  rw [hr]
  dsimp only
  rw [hb, Option.any_some, hu]

theorem infeedDue_iff {b : PutBody} (hstate : b.state ≠ .tentative) :
    x.infeedDue b = true ↔ x.cfg.infeedTimeout * 1000 ≤ (x.tick - b.lastArrival).toNat := by
  have hheld : (decide (b.state = .won) || decide (b.state = .loading)) = true := by
    cases hs : b.state <;> simp_all
  simp [Station.infeedDue, Station.elapsed, hheld]

theorem mem_of_roundRecord {round : RoundId} (hr : x.roundRecord round = some r) : r ∈ x.clu.records ∧ r.round = round :=
  ⟨List.mem_of_find?_eq_some hr, by simpa using List.find?_some hr⟩

theorem record?_of_put? {n : Nat} {b : PutBody} (hb : x.put? n = some b) :
    ∃ k, x.record? n = some k ∧ k.body = .putaway b := by
  obtain ⟨k, hk, hbody⟩ := Option.bind_eq_some_iff.mp hb
  refine ⟨k, hk, ?_⟩
  split at hbody
  · cases hbody
  · rename_i b' hb'
    rw [hb', Option.some.inj hbody]

end

/-- Settles O31: the window with the claim sent, withdrawn, on the bus, not due; the infeed timeout, due and not due. -/
theorem recordTimersExpire : Obligations.RecordTimersExpire := by
  refine ⟨fun round x q r hx hr htentative hexpired hclose howed => ?window, fun number x q r b hx hr hb hstate => ?infeed⟩
  case window =>
    obtain ⟨hmem, -⟩ := mem_of_roundRecord hr
    have hiff := windowDue_iff (x := x) ⟨htentative, hexpired, hclose, howed⟩
    refine ⟨fun hdue hsent haccepts hcls => ?_, fun hdue hsent hpending => ?_, fun hdue hsent hlate => ?_, fun hdue => ?_⟩
    · exact exec_claimWindowExpiry_due q hx hr (hiff.mpr hdue) (windowExpired_sent hsent haccepts hcls)
    · obtain ⟨hexec, -⟩ := exec_claimWindowExpiry_due q hx hr (hiff.mpr hdue) (windowExpired_withdrawn hsent hpending)
      refine ⟨_, hexec, dropRecord_settle_view rfl r.serial,
        (sameLines_refl x).recordGone hmem rfl (fun _ _ => not_won_of_tentative htentative), fun hfresh h hclaim => ?_⟩
      obtain ⟨h', hclaim', hwithdraw⟩ := hpending
      obtain rfl : h' = h := Option.some.inj (hclaim'.symm.trans hclaim)
      exact dropRecord_settle_claimFree hfresh hmem htentative howed hsent hclaim hwithdraw
    · exact exec_claimWindowExpiry_due q hx hr (hiff.mpr hdue) (windowExpired_onBus hsent hlate)
    · exact exec_claimWindowExpiry_not_due q hx hr (fun h => hdue (hiff.mp h))
  case infeed =>
    obtain ⟨hmem, hround⟩ := mem_of_roundRecord hr
    refine ⟨fun hdue => ?_, fun hdue => ?_⟩
    · obtain ⟨hexec, hview⟩ := exec_infeedTimeout q hx hr hb (if_pos ((infeedDue_iff hstate).mpr hdue))
      obtain ⟨k, hk, hbody⟩ := record?_of_put? hb
      refine ⟨_, hexec, dropRecord_settle_view rfl r.serial,
        (sameLines_refl x).recordGone hmem rfl (fun c hc => ?_), ?_⟩
      · simp [LineRec.round, hc] at hround
      · exact (congrArg View.infeed hview).trans (dropRecord_infeed hk hbody)
    · exact exec_infeedTimeout q hx hr hb (if_neg (fun h => hdue ((infeedDue_iff hstate).mp h)))

end Sys2Proof.Machine
end

section
/-! ### The putaway records through the settling of an event: all but the task mark stays (R96, R109) -/

namespace Sys2Proof.Machine

/-- A putaway record's own fields without its task mark, which is all that the settling of an event sets. -/
def PutBody.unmarked (b : PutBody) : PutBody := { b with loadMark := false }

/-- The putaway body of a record, without its task mark. -/
def LineRec.unmarkedPut? (r : LineRec) : Option PutBody :=
  match r.body with
  | .pick _ => none
  | .putaway b => some b.unmarked

/-- The putaway records under their serials, without their task marks. -/
def Station.putaways (s : Station) : List (Nat × Option PutBody) :=
  s.clu.records.map (fun r => (r.serial, r.unmarkedPut?))

theorem putaways_of_clu {s t : Station} (h : t.clu = s.clu) : t.putaways = s.putaways := by
  unfold Station.putaways
  rw [h]

theorem putaways_of_office {s t : Station} (h : t.office = s.office) : t.putaways = s.putaways :=
  putaways_of_clu (congrArg Office.clu h)

theorem foldl_putaways {α : Type} {f : Station → α → Station} (h : ∀ s a, (f s a).putaways = s.putaways) (l : List α)
    (s : Station) : (l.foldl f s).putaways = s.putaways := by
  induction l generalizing s with
  | nil => rfl
  | cons a l ih => rw [List.foldl_cons, ih, h]

section
variable (s : Station)

/-! #### The marks and flags of the records -/

theorem updRecord_putaways (n : Nat) {f : LineRec → LineRec}
    (h : ∀ r, (f r).serial = r.serial ∧ (f r).unmarkedPut? = r.unmarkedPut?) : (s.updRecord n f).putaways = s.putaways := by
  refine map_map_of_eq _ _ (fun r => ?_) _
  split
  · exact Prod.ext (h r).1 (h r).2
  · rfl

theorem updPick_putaways (n : Nat) (f : PickBody → PickBody) : (s.updPick n f).putaways = s.putaways := by
  refine updRecord_putaways s n (fun r => ⟨mapPick_serial r f, ?_⟩)
  rcases r with ⟨serial, article, qty, bid, body⟩
  cases body <;> rfl

theorem markWant_putaways (w : ClaimWant) : (s.markWant w).putaways = s.putaways := by
  unfold Station.markWant
  split
  · exact updPick_putaways s _ _
  · refine updRecord_putaways s _ (fun r => ?_)
    rcases r with ⟨serial, article, qty, bid, body⟩
    cases body <;> exact ⟨rfl, rfl⟩

theorem post_clu (k : Kind) (payload : List Byte) : (s.post k payload).2.clu = s.clu := by
  rcases post_cases s k payload with ⟨hpost, -⟩ | hpost
  · rw [hpost]
    rfl
  · rw [hpost]
    unfold Station.oweKind
    dsimp only
    split <;> rfl

theorem postReady_putaways (n : Nat) : (s.postReady n).putaways = s.putaways := by
  unfold Station.postReady
  split
  · rfl
  · rename_i b _
    have hpost := post_clu s .rdy (rdyPayload b.order b.line)
    split
    · split
      all_goals
        rename_i hposted
        rw [hposted] at hpost
        exact (updPick_putaways _ n _).trans (putaways_of_clu hpost)
    · rfl

theorem postReadies_putaways : s.postReadies.putaways = s.putaways :=
  foldl_putaways postReady_putaways _ s

/-! #### The putback of the head group -/

theorem markStuck_putaways (o : Nat) (d : Option BayAddr) : (s.markStuck o d).putaways = s.putaways := by
  unfold Station.markStuck
  split
  · rfl
  · split
    · rfl
    · refine (putaways_of_office (statusTrigger_office _)).trans ?_
      rfl

theorem askPutback_putaways (o : Nat) (d : Option BayAddr) : (s.askPutback o d).putaways = s.putaways := by
  unfold Station.askPutback
  dsimp only
  split <;> exact markStuck_putaways s o d

theorem expectDest_putaways (t : Tyre) : (s.expectDest t).2.putaways = s.putaways :=
  putaways_of_clu (expectDest_onlySmap s t).clu

theorem unexpect_putaways (a : BayAddr) (q : Nat) : (s.unexpect a q).putaways = s.putaways :=
  putaways_of_clu (unexpect_onlySmap s a q).clu

theorem startPutback_putaways : s.startPutback.putaways = s.putaways := by
  unfold Station.startPutback
  split
  · rfl
  · split
    · rfl
    · split
      · exact (askPutback_putaways _ _ _).trans (expectDest_putaways s _)
      · rfl

theorem servePutback_putaways : s.servePutback.putaways = s.putaways := by
  unfold Station.servePutback
  split
  · rfl
  · split
    · rfl
    · split
      · refine (askPutback_putaways _ _ _).trans ((expectDest_putaways _ _).trans ?_)
        split
        · exact unexpect_putaways s _ _
        · rfl
      · rfl

theorem rechooseStuck_putaways : s.rechooseStuck.putaways = s.putaways := by
  unfold Station.rechooseStuck
  split
  · rfl
  · rename_i g _
    split
    · rfl
    · rename_i t _ _
      have hdest := expectDest_putaways s t
      split
      · rfl
      · rename_i hchosen
        rw [hchosen] at hdest
        dsimp only
        split <;> exact (markStuck_putaways _ g.order _).trans hdest

theorem blockedPutback_putaways (o : Nat) (a : BayAddr) : (s.blockedPutback o a).putaways = s.putaways := by
  unfold Station.blockedPutback
  split
  · rfl
  · exact (markStuck_putaways _ _ _).trans ((expectDest_putaways _ _).trans (unexpect_putaways s _ _))

/-! #### The planner and the requests -/

theorem decision_putaways : s.decision.putaways = s.putaways := by
  unfold Station.decision
  split
  · refine (foldl_putaways (f := Station.reportBlocked) (fun u a => blockedPutback_putaways u a.1 a.2) _ _).trans ?_
    exact putaways_of_office (withChosen_office s)
  · rfl

theorem decideAfter_putaways (before : Station) : (s.decideAfter before).putaways = s.putaways := by
  unfold Station.decideAfter
  split
  · exact decision_putaways s
  · rfl

theorem serveClaims_putaways (fuel : Nat) : (s.serveClaims fuel).putaways = s.putaways := by
  induction fuel generalizing s with
  | zero => rfl
  | succ n ih =>
    unfold Station.serveClaims
    split
    · rfl
    · split
      · rw [ih, decision_putaways, markWant_putaways, putaways_of_office (addTask_office s _)]
      · rfl

theorem serveAudit_putaways (byCarrier : Bool) (fuel : Nat) : (s.serveAudit byCarrier fuel).putaways = s.putaways := by
  induction fuel generalizing s with
  | zero => rfl
  | succ n ih =>
    unfold Station.serveAudit
    split
    · split
      · rfl
      · rw [ih, decision_putaways]
        exact putaways_of_office (addTask_office s _)
    · rfl

theorem serveLane_putaways (old : Station) : (s.serveLane old).putaways = s.putaways := by
  have hstart : s.postReadies.beginPutback.putaways = s.putaways :=
    (decideAfter_putaways _ _).trans ((startPutback_putaways _).trans (postReadies_putaways s))
  unfold Station.serveLane
  refine (decideAfter_putaways _ _).trans ((servePutback_putaways _).trans ?_)
  split
  · exact (decideAfter_putaways _ _).trans ((rechooseStuck_putaways _).trans hstart)
  · exact hstart

theorem acknowledge_putaways : s.acknowledge.putaways = s.putaways := by
  rcases acknowledge_office s with h | ⟨-, h⟩
  · exact putaways_of_office h
  · exact putaways_of_clu (congrArg Office.clu h)

/-! #### The settling of an event -/

theorem settleRound_putaways (old : Station) : (s.settleRound old).putaways = s.putaways := by
  have hface : s.faceAdvance.resumeMove.acknowledge.putaways = s.putaways :=
    (acknowledge_putaways _).trans (putaways_of_office ((resumeMove_office _).trans (faceAdvance_office s)))
  unfold Station.settleRound
  generalize s.faceAdvance.resumeMove.acknowledge = u at hface
  have hserved : ((u.serveTasks old).serveDrive old).putaways = s.putaways := by
    refine (putaways_of_office (serveDrive_office _ old)).trans ?_
    exact (serveAudit_putaways _ _ _).trans ((serveClaims_putaways _ _).trans ((serveLane_putaways u old).trans hface))
  dsimp only
  split
  · exact (decision_putaways _).trans hserved
  · exact hserved

theorem settleRounds_putaways (fuel : Nat) (old : Station) : (settleRounds fuel old s).putaways = s.putaways := by
  induction fuel generalizing old s with
  | zero => rfl
  | succ n ih =>
    rw [settleRounds]
    split
    · rfl
    · rw [ih, settleRound_putaways]

/-- What follows within an event leaves the putaway records as they are, but for their task marks. -/
theorem settle_putaways (old : Station) : (s.settle old).putaways = s.putaways := by
  unfold Station.settle
  split
  · exact settleRounds_putaways s 16 old
  · rfl

end

/-! #### The record of a serial -/

section
variable {s t : Station}

/-- A putaway body seen without its task mark belongs to a record of the table. -/
theorem mem_of_putaways {n : Nat} {b : PutBody} (h : (n, some b.unmarked) ∈ s.putaways) :
    ∃ r ∈ s.clu.records, r.serial = n ∧ ∃ b', r.body = .putaway b' ∧ b'.unmarked = b.unmarked := by
  obtain ⟨r, hr, hsame⟩ := List.mem_map.mp h
  obtain ⟨hserial, hput⟩ := Prod.mk.inj hsame
  refine ⟨r, hr, hserial, ?_⟩
  cases hb : r.body with
  | pick c => simp [LineRec.unmarkedPut?, hb] at hput
  | putaway c => exact ⟨c, rfl, by simpa [LineRec.unmarkedPut?, hb] using hput⟩

theorem put?_unmarked (s : Station) (n : Nat) :
    (s.put? n).map PutBody.unmarked = (s.putaways.find? (fun p => p.1 == n)).bind (fun p => p.2) := by
  have hfind : s.putaways.find? (fun p => p.1 == n) = (s.record? n).map (fun r => (r.serial, r.unmarkedPut?)) := by
    unfold Station.putaways
    rw [List.find?_map]
    rfl
  rw [hfind]
  unfold Station.put?
  cases s.record? n with
  | none => rfl
  | some r =>
    rcases r with ⟨serial, article, qty, bid, body⟩
    cases body <;> rfl

theorem put?_of_putaways (h : t.putaways = s.putaways) {n : Nat} {b : PutBody} (hb : s.put? n = some b) :
    ∃ b', t.put? n = some b' ∧ b'.unmarked = b.unmarked := by
  have hsame : (t.put? n).map PutBody.unmarked = some b.unmarked := by
    rw [put?_unmarked, h, ← put?_unmarked, hb, Option.map_some]
  exact Option.map_eq_some_iff.mp hsame

end

end Sys2Proof.Machine
end

section
/-! ### The infeed: arrivals and falls (R109, R139, R140) -/

namespace Sys2Proof.Machine

section
variable {x : Station} {r : LineRec} {b : PutBody}

/-- The occupancy sensor at a level, and nothing else. -/
def Station.withOcc (s : Station) (v : Bool) : Station := { s with pins := { s.pins with infeedOcc := v } }

/-- The tyre at the infeed, and nothing else. -/
def Station.withInfeed (s : Station) (i : Infeed) : Station := { s with fct := { s.fct with infeed := i } }

/-! #### The record an arrival is counted for -/

/-- The record of an arrival is the oldest putaway in WON or LOADING with arrivals outstanding (R109). -/
theorem arrivalRecord_oldest (h : x.arrivalRecord = some (r, b)) :
    r.body = .putaway b ∧ (b.state = .won ∨ b.state = .loading) ∧ b.arrived < r.qty
      ∧ ∃ before after, x.clu.records = before ++ r :: after ∧ ∀ o ∈ before, ∀ p,
          o.body = .putaway p → (p.state = .won ∨ p.state = .loading) → o.qty ≤ p.arrived := by
  obtain ⟨before, o, after, hsplit, hfound, hnone⟩ := List.findSome?_eq_some_iff.mp h
  split at hfound
  · rename_i c hc
    split at hfound
    · rename_i hopen
      obtain ⟨rfl, rfl⟩ := Prod.mk.inj (Option.some.inj hfound)
      refine ⟨hc, hopen.1, hopen.2, before, after, hsplit, fun o ho p hp hstate => ?_⟩
      have hpassed := hnone o ho
      rw [hp] at hpassed
      dsimp only at hpassed
      by_contra hfew
      rw [if_pos ⟨hstate, Nat.lt_of_not_le hfew⟩] at hpassed
      cases hpassed
    · cases hfound
  · cases hfound

/-! #### The arrival counted (R109) -/

/-- The putaway body with an arrival counted at a tick. -/
def PutBody.arrival (b : PutBody) (tick : Tick) : PutBody :=
  { b with arrived := b.arrived + 1, lastArrival := tick, state := .loading }

theorem mapPut_of_putaway (hb : r.body = .putaway b) (f : PutBody → PutBody) :
    r.mapPut f = { r with body := .putaway (f b) } := by
  unfold LineRec.mapPut
  rw [hb]

theorem countArrival_mem (hr : r ∈ x.clu.records) (hb : r.body = .putaway b) :
    (r.serial, some (b.arrival x.tick).unmarked) ∈ (x.countArrival r).putaways := by
  refine List.mem_map.mpr ⟨{ r with body := .putaway (b.arrival x.tick) }, List.mem_map.mpr ⟨r, hr, ?_⟩, rfl⟩
  exact (if_pos rfl).trans (mapPut_of_putaway hb _)

/-- Where no two records have one serial, every other record stays as it is. -/
theorem countArrival_kept (hnodup : (x.clu.records.map (fun o => o.serial)).Nodup) (hr : r ∈ x.clu.records)
    (hb : r.body = .putaway b) :
    (x.countArrival r).clu.records.map LineRec.kept = x.clu.records.map (fun o =>
      if o.serial = r.serial then { o.kept with reported := (o.serial, 2, b.arrived + 1) } else o.kept) := by
  simp only [Station.countArrival, Station.updPut, Station.updRecord, List.map_map]
  refine List.map_congr_left (fun o ho => ?_)
  by_cases hserial : o.serial = r.serial
  · obtain rfl : o = r := List.inj_on_of_nodup_map hnodup ho hr hserial
    simp [mapPut_of_putaway hb, LineRec.kept, LineRec.round, LineRec.reported, hb]
  · simp [hserial]

theorem arrival_counted (hinfeed : x.fct.infeed = .none) (h : x.arrivalRecord = some (r, b)) :
    x.arrival = (x.withInfeed (.ofRecord r.serial)).countArrival r := by
  unfold Station.arrival
  rw [hinfeed, h]
  rfl

theorem arrival_surplus (h : x.fct.infeed ≠ .none ∨ x.arrivalRecord = none) : x.arrival = x.surplus := by
  unfold Station.arrival
  cases hinfeed : x.fct.infeed with
  | none =>
    rw [h.resolve_left (absurd hinfeed)]
  | ofRecord n => rfl
  | surplus => rfl

/-- A fault that does not halt is recorded as the last (R194). -/
theorem nonHaltingFault_lastFault (s : Station) (f : StationFault) : (s.nonHaltingFault f).stc.lastFault = some f :=
  congrArg Office.lastFault (statusTrigger_office _)

/-! #### The tyre gone (R140) -/

theorem infeedEmptied_of_no_record (h : x.fct.infeed = .none ∨ x.fct.infeed = .surplus) :
    x.infeedEmptied = x.withInfeed .none := by
  unfold Station.infeedEmptied
  rcases h with h | h
  · have hsame : x.withInfeed .none = x := by rw [← h]; rfl
    rw [h, hsame]
  · rw [h]
    rfl

theorem infeedEmptied_of_record {n : Nat} (h : x.fct.infeed = .ofRecord n) :
    x.infeedEmptied = (x.withInfeed .none).updPut n (fun b => { b with arrived := b.arrived - 1 }) := by
  unfold Station.infeedEmptied
  rw [h]
  rfl

theorem infeedEmptied_view (x : Station) :
    x.infeedEmptied.view = { x.view with infeed := .none, records := x.infeedEmptied.view.records } := by
  cases h : x.fct.infeed with
  | none =>
    rw [infeedEmptied_of_no_record (.inl h)]
    rfl
  | ofRecord n =>
    rw [infeedEmptied_of_record h]
    rfl
  | surplus =>
    rw [infeedEmptied_of_no_record (.inr h)]
    rfl

theorem put?_updPut_same (s : Station) (n : Nat) (f : PutBody → PutBody) : (s.updPut n f).put? n = (s.put? n).map f := by
  have hserial : ((fun r : LineRec => r.serial == n) ∘ fun r => if r.serial = n then r.mapPut f else r) =
      fun r => r.serial == n := by
    funext r
    rcases r with ⟨serial, article, qty, bid, body⟩
    by_cases h : serial = n <;> cases body <;> simp [LineRec.mapPut, h]
  have hrecord : (s.updPut n f).record? n = (s.record? n).map (fun r => if r.serial = n then r.mapPut f else r) := by
    unfold Station.record? Station.updPut Station.updRecord
    dsimp only
    rw [List.find?_map, hserial]
  unfold Station.put?
  rw [hrecord]
  cases hr : s.record? n with
  | none => rfl
  | some r =>
    obtain ⟨-, hname⟩ := mem_of_record? hr
    rcases r with ⟨serial, article, qty, bid, body⟩
    cases body <;> simp_all [LineRec.mapPut]

theorem infeedFell_of_not_storing (h : x.fct.storing = false) : x.infeedFell = x.infeedEmptied := if_neg (by simp [h])

theorem infeedFell_of_storing (h : x.fct.storing = true) : x.infeedFell = x := if_pos h

/-! #### INFEED_ARRIVAL and INFEED_OCC_FALL -/

/-- A command that sets the occupancy level first, at a station on the bus. -/
theorem answer_withOcc (q : List Instr) (hx : x.live) (v : Bool) {f : Station → Station} {u : Station}
    (hu : f (x.withOcc v) = u) :
    State.answer ⟨x, q⟩ (fun y => (y.withOcc v).whenJoined f) = .next ⟨u.settle x, q⟩ ∧ (u.settle x).view = u.view := by
  refine ⟨?_, settle_view u x⟩
  unfold State.answer
  dsimp only
  rw [whenJoined_of_live (s := x.withOcc v) hx, hu]

theorem exec_infeedArrival (q : List Instr) (hx : x.live) {u : Station} (hu : (x.withOcc true).arrival = u) :
    exec .infeedArrival ⟨x, q⟩ = .next ⟨u.settle x, q⟩ ∧ (u.settle x).view = u.view :=
  answer_withOcc q hx true hu

theorem exec_infeedOccFall (q : List Instr) (hx : x.live) {u : Station} (hu : (x.withOcc false).infeedFell = u) :
    exec .infeedOccFall ⟨x, q⟩ = .next ⟨u.settle x, q⟩ ∧ (u.settle x).view = u.view :=
  answer_withOcc q hx false hu

end

/-- Settles O44: an arrival counted for a record, an arrival that is SURPLUS, a fall without a STORE cycle and within one. -/
theorem infeedCounts : Obligations.InfeedCounts := by
  refine fun x q hx => ⟨fun r b hinfeed hr => ?counted, fun h => ?surplus, fun hstoring => ?fell, fun hstoring => ?level⟩
  case counted =>
    obtain ⟨hexec, hview⟩ := exec_infeedArrival q hx (arrival_counted (x := x.withOcc true) hinfeed hr)
    obtain ⟨hbody, hstate, hfew, before, after, hsplit, hbefore⟩ := arrivalRecord_oldest hr
    have hmem : r ∈ x.clu.records := hsplit ▸ List.mem_append_right _ (List.mem_cons_self ..)
    refine ⟨_, hexec, ?_, hstate, hfew, ⟨before, after, hsplit, hbody, hbefore⟩, ?_, fun hfresh => ?_⟩
    · rw [hview]
      rfl
    · have hcounted := countArrival_mem (x := (x.withOcc true).withInfeed (.ofRecord r.serial)) hmem hbody
      rw [← settle_putaways _ x] at hcounted
      obtain ⟨r', hr', hserial, b', hb', hsame⟩ := mem_of_putaways hcounted
      exact ⟨r', hr', hserial, b', hb', (congrArg PutBody.arrived hsame :), (congrArg PutBody.state hsame :),
        (congrArg PutBody.lastArrival hsame :)⟩
    · obtain ⟨-, -, -, -, hserials, -⟩ := hfresh
      rw [hview]
      exact countArrival_kept (x := (x.withOcc true).withInfeed (.ofRecord r.serial)) hserials hmem hbody
  case surplus =>
    obtain ⟨hexec, hview⟩ := exec_infeedArrival q hx (arrival_surplus (x := x.withOcc true) h)
    exact ⟨hexec, hview.trans (nonHaltingFault_view _ _), nonHaltingFault_lastFault _ _⟩
  case fell =>
    obtain ⟨hexec, hview⟩ := exec_infeedOccFall q hx (infeedFell_of_not_storing (x := x.withOcc false) hstoring)
    refine ⟨_, hexec, ?_, fun n b hn hb => ?_, fun hno => ?_⟩
    · rw [hview]
      exact infeedEmptied_view (x.withOcc false)
    · have hput : (x.withOcc false).infeedEmptied.put? n = some { b with arrived := b.arrived - 1 } := by
        rw [infeedEmptied_of_record (x := x.withOcc false) hn, put?_updPut_same]
        exact congrArg (Option.map _) hb
      obtain ⟨b', hb', hsame⟩ := put?_of_putaways (settle_putaways _ x) hput
      exact ⟨b', hb', (congrArg PutBody.arrived hsame :)⟩
    · rw [hview, infeedEmptied_of_no_record (x := x.withOcc false) hno]
      rfl
  case level =>
    exact exec_infeedOccFall q hx (infeedFell_of_storing (x := x.withOcc false) hstoring)

end Sys2Proof.Machine
end

section
/-! ### The drive commands: the dwell, the motion timer, INDEX and HOME (R121 to R125, R188, R190) -/

namespace Sys2Proof.Machine

/-! #### A command that acts at any powered station -/

/-- A command of a powered station makes its own change, and what the rules tie to the event follows. -/
theorem answer_of_on {x u : Station} (q : List Instr) {f : Station → Station} (hx : x.power = .on) (hf : f x = u) :
    State.answer ⟨x, q⟩ (fun y => y.whenOn f) = .next ⟨u.settle x, q⟩ := by
  unfold State.answer Station.whenOn
  dsimp only
  rw [if_pos hx, hf]

/-- The same with the frame of what follows. -/
theorem answer_powered {x u : Station} (q : List Instr) {f : Station → Station} (hx : x.power = .on) (hf : f x = u) :
    State.answer ⟨x, q⟩ (fun y => y.whenOn f) = .next ⟨u.settle x, q⟩ ∧ (u.settle x).view = u.view :=
  ⟨answer_of_on q hx hf, settle_view u x⟩

/-- Before the join nothing follows within an event. -/
theorem answer_before_join {x u : Station} (q : List Instr) {f : Station → Station} (hx : x.power = .on) (hf : f x = u)
    (hjoined : u.bus.joined = false) : State.answer ⟨x, q⟩ (fun y => y.whenOn f) = .next ⟨u, q⟩ := by
  have hsettle : u.settle x = u := if_neg (by simp [hjoined])
  rw [answer_of_on q hx hf, hsettle]

/-! #### The reversal dwell (R121) -/

section
variable {x : Station}

theorem dwellOver_iff :
    x.dwellOver = true ↔ ∀ t, x.mpl.lastInPos = some t → x.cfg.dwell ≤ (x.tick - t).toNat := by
  unfold Station.dwellOver Station.elapsed
  cases x.mpl.lastInPos <;> simp

theorem endDwell_of_over {h : HeldMove} (hh : x.mpl.held = some h) (hdwell : x.dwellOver = true) :
    x.endDwell = x.giveMove h.dir h.steps h.target (some h.task) := by
  unfold Station.endDwell
  rw [hh]
  exact if_pos hdwell

theorem endDwell_of_not_over (hdwell : x.dwellOver ≠ true) : x.endDwell = x := by
  unfold Station.endDwell
  split
  · exact if_neg hdwell
  · rfl

/-! #### A move stopped (R122, R131) -/

/-- STOP given, with no move in flight any more. -/
def Station.stopped (s : Station) : Station :=
  { s with mpl := { s.mpl with move := none }, pins := { s.pins with drive := .stop } }

theorem dropIfRemoved_of_kept {id : Nat} (h : ∀ t, x.task? id = some t → t.removed = false) :
    x.dropIfRemoved id = x := by
  refine if_neg (fun hremoved => ?_)
  cases ht : x.task? id with
  | none => simp [ht] at hremoved
  | some t => simp [ht, h t ht] at hremoved

theorem stopMove_of_none (hm : x.mpl.move = none) : x.stopMove = x := by
  unfold Station.stopMove
  rw [hm]

theorem stopMove_of_task {m : Move} {id : Nat} (hm : x.mpl.move = some m) (hid : m.task = some id) :
    x.stopMove = x.stopped.dropIfRemoved id := by
  unfold Station.stopMove
  rw [hm]
  dsimp only
  rw [hid]
  rfl

/-- A stopped move leaves its task in the list, unless the owner has removed it. -/
theorem stopMove_of_kept {m : Move} (hm : x.mpl.move = some m)
    (h : ∀ id t, m.task = some id → x.task? id = some t → t.removed = false) : x.stopMove = x.stopped := by
  cases hid : m.task with
  | none =>
    unfold Station.stopMove
    rw [hm]
    dsimp only
    rw [hid]
    rfl
  | some id => exact (stopMove_of_task hm hid).trans (dropIfRemoved_of_kept (h id · hid))

theorem motionExpired_of_due {m : Move} (hm : x.mpl.move = some m) (hdue : m.limit ≤ (x.tick - m.started).toNat)
    (h : ∀ id t, m.task = some id → x.task? id = some t → t.removed = false) :
    x.motionExpired = x.stopped.motionFailed := by
  unfold Station.motionExpired
  rw [hm]
  dsimp only
  rw [if_pos (by exact decide_eq_true hdue), stopMove_of_kept hm h]

theorem motionExpired_of_not_due {m : Move} (hm : x.mpl.move = some m) (hdue : (x.tick - m.started).toNat < m.limit) :
    x.motionExpired = x := by
  unfold Station.motionExpired
  rw [hm]
  exact if_neg (fun h => absurd (of_decide_eq_true h) (Nat.not_le.mpr hdue))

end

/-- Settles O34: the held task's move begun or not; the motion timer in homing, after it, and before its time. -/
theorem dwellAndMotionTimersExpire : Obligations.DwellAndMotionTimersExpire := by
  refine ⟨fun x q h hx hh => ⟨fun hover => ?_, fun hover => ?_⟩,
    fun x q m hon hm hkept => ⟨fun hdue hstart hjoined => ?_, fun hdue hstart => ?_, fun hdue => ?_⟩⟩
  · exact answer_change q hx (endDwell_of_over hh (dwellOver_iff.mpr hover))
  · exact answer_change q hx (endDwell_of_not_over (fun hdwell => hover (dwellOver_iff.mp hdwell)))
  · exact answer_before_join q hon ((motionExpired_of_due hm hdue hkept).trans (if_pos hstart)) hjoined
  · exact answer_of_on q hon ((motionExpired_of_due hm hdue hkept).trans (if_neg hstart))
  · exact answer_of_on q hon (motionExpired_of_not_due hm hdue)

end Sys2Proof.Machine
end

section
/-! ### The position pulses INDEX and HOME (R123, R124, R125, R190) -/

namespace Sys2Proof.Machine

/-! #### One reason of one carrier, of those that are not retained -/

/-- The carrier with one reason set or cleared, and nothing else changed. -/
def Carrier.withReason (k : Carrier) (r : Reason) (v : Bool) : Carrier := { k with locks := k.locks.put r v }

section
variable {s : Station}

/-- AUDIT and TOUCHED are not retained (R18), so no write follows their change (R19). -/
theorem putReason_carriers {r : Reason} (hr : r = .audit ∨ r = .touched) (c : Nat) (v : Bool) :
    (s.putReason c r v).smap.carriers = s.smap.carriers.modify c (fun k => k.withReason r v) := by
  have himage : ∀ k : Carrier, (k.withReason r v).image = k.image := fun k => by
    rcases hr with rfl | rfl <;> rfl
  exact congrArg (s.smap.carriers.modify c) (funext fun k => if_pos (himage k))

theorem touch_smap (c : Nat) : (s.touch c).smap = (s.putReason c .touched true).smap := by
  unfold Station.touch
  dsimp only
  split
  · split <;> rfl
  · rfl

theorem touch_carriers (c : Nat) :
    (s.touch c).smap.carriers = s.smap.carriers.modify c (fun k => k.withReason .touched true) := by
  rw [touch_smap, putReason_carriers (.inr rfl)]

/-! #### INDEX (R123, R190) -/

/-- The position at a value, and nothing else. -/
def Station.withPosition (s : Station) (p : Option Nat) : Station := { s with mpl := { s.mpl with p := p } }

theorem indexPulse_of_none (hp : s.mpl.p = none) : s.indexPulse = s := by
  unfold Station.indexPulse
  rw [hp]

theorem indexPulse_of_position {p : Nat} (hp : s.mpl.p = some p) :
    s.indexPulse =
      if s.stc.hold = .acked then
        (s.withPosition (some (stepPosition s.cfg.n s.mpl.indexDir p))).touch (stepPosition s.cfg.n s.mpl.indexDir p)
      else s.withPosition (some (stepPosition s.cfg.n s.mpl.indexDir p)) := by
  unfold Station.indexPulse
  rw [hp]
  rfl

/-! #### HOME (R124, R125) -/

theorem homeCheck_of_no_move (hm : s.mpl.move = none) : s.mpl.homeCheck = none := by
  simp [Mpl.homeCheck, hm]

theorem homeCheck_of_task {m : Move} {id : Nat} (hm : s.mpl.move = some m) (hid : m.task = some id) :
    s.mpl.homeCheck = none := by
  simp [Mpl.homeCheck, hm, hid]

theorem homeCheck_of_no_task {m : Move} (hm : s.mpl.move = some m) (hid : m.task = none) : s.mpl.homeCheck = some m := by
  simp [Mpl.homeCheck, hm, hid]

/-- Outside a home check move HOME at position 0, or without a position, tests nothing (R124). -/
theorem homePulse_at_home (hcheck : s.mpl.homeCheck = none) (hp : s.mpl.p = none ∨ s.mpl.p = some 0) :
    s.homePulse = s := by
  unfold Station.homePulse
  rw [hcheck]
  rcases hp with hp | hp <;> simp [hp]

/-- Outside a home check move HOME at another position makes it 0 and stops the move (R124). -/
theorem homePulse_elsewhere {p : Nat} (hcheck : s.mpl.homeCheck = none) (hp : s.mpl.p = some p) (h0 : p ≠ 0) :
    s.homePulse = (s.withPosition (some 0)).stopMove.haltFault .homeMismatch := by
  unfold Station.homePulse
  rw [hcheck, hp]
  cases p with
  | zero => exact absurd rfl h0
  | succ n => rfl

theorem homePulse_of_check {m : Move} (hcheck : s.mpl.homeCheck = some m) :
    s.homePulse = if m.homeSeen = true then s else s.homeFound m := by
  unfold Station.homePulse
  rw [hcheck]

end

/-- Settles O36: INDEX without a position and with one; HOME without a move, in the move of a task, in a home check move. -/
theorem positionPulses : Obligations.PositionPulses := by
  refine ⟨fun x q hon => ⟨fun hp => ?_, fun p hp => ?index⟩, fun x q hon => ⟨fun hm hp => ?_, fun p hm hp h0 => ?_,
    fun p m id hm hid hp h0 => ?_, fun m id hm hid hp => ?_, fun m hm hid hseen => ?_, fun m hm hid hseen => ?_⟩⟩
  · exact answer_powered q hon (indexPulse_of_none hp)
  case index =>
    intro dir p' u v
    have hdir : dir = x.mpl.indexDir := by
      unfold Mpl.indexDir
      cases hm : x.mpl.move <;> simp [dir, hm]
    have hp' : p' = stepPosition x.cfg.n x.mpl.indexDir p := by
      rw [← hdir]
      rfl
    have hv : x.indexPulse = v := (indexPulse_of_position hp).trans (by rw [← hp']; rfl)
    obtain ⟨hexec, hview⟩ := answer_powered q hon hv
    refine ⟨hexec, hview.trans ?_, fun hacked k hk => ?_⟩
    · dsimp only [v]
      split
      · exact touch_view u p'
      · rfl
    · have hcarriers : v.smap.carriers = x.smap.carriers.modify p' (fun k => k.withReason .touched true) := by
        dsimp only [v]
        rw [if_pos hacked]
        exact touch_carriers p'
      rw [hcarriers, List.getElem?_modify_eq, hk]
      rfl
  · exact answer_powered q hon (homePulse_at_home (homeCheck_of_no_move hm) hp)
  · refine answer_of_on q hon ((homePulse_elsewhere (homeCheck_of_no_move hm) hp h0).trans ?_)
    rw [stopMove_of_none (x := x.withPosition (some 0)) hm]
    rfl
  · refine answer_of_on q hon ((homePulse_elsewhere (homeCheck_of_task hm hid) hp h0).trans ?_)
    rw [stopMove_of_task (x := x.withPosition (some 0)) hm hid]
    rfl
  · exact answer_powered q hon (homePulse_at_home (homeCheck_of_task hm hid) hp)
  · exact answer_powered q hon ((homePulse_of_check (homeCheck_of_no_task hm hid)).trans (if_pos hseen))
  · exact answer_powered q hon ((homePulse_of_check (homeCheck_of_no_task hm hid)).trans (if_neg (by simp [hseen])))

end Sys2Proof.Machine
end

section
/-! ### The end of a resume: TOUCHED, and the releases that failed asked for again (R160, R193) -/

namespace Sys2Proof.Machine

/-- What one step of a walk over a list leaves alone, the walk leaves alone. -/
theorem foldl_leaves {α β : Type} {f : Station → α → Station} {g : Station → β} (h : ∀ s a, g (f s a) = g s) (l : List α)
    (s : Station) : g (l.foldl f s) = g s := by
  induction l generalizing s with
  | nil => rfl
  | cons a l ih => rw [List.foldl_cons, ih, h]

section
variable {s : Station}

/-! #### TOUCHED on several carriers -/

theorem foldl_touch_carrier (l : List Nat) (s : Station) (c : Nat) :
    (l.foldl Station.touch s).smap.carriers[c]? =
      (s.smap.carriers[c]?).map (fun k => if c ∈ l then k.withReason .touched true else k) := by
  induction l generalizing s with
  | nil => simp
  | cons d l ih =>
    rw [List.foldl_cons, ih, touch_carriers, List.getElem?_modify]
    cases s.smap.carriers[c]? with
    | none => simp
    | some k =>
      by_cases hd : c = d
      · simp [hd, Carrier.withReason, LockSet.put]
      · simp [hd, Ne.symm hd]

theorem foldl_touch_office (l : List Nat) (s : Station) : (l.foldl Station.touch s).office = s.office :=
  foldl_leaves touch_office l s

/-! #### A release asked for (R144, R159) -/

/-- The groups of these orders with their release at a stage. -/
def putStage (stage : ReleaseStage) (orders : List Nat) (l : List Group) : List Group :=
  l.map (fun g => if g.order ∈ orders then { g with release := stage } else g)

/-- With a release pending a further one is held back (R159). -/
theorem requestRelease_of_pending {r : Release} (hp : s.fct.pendingRelease = some r) (order : Nat) :
    (s.requestRelease order).fct.pendingRelease = some r
      ∧ (s.requestRelease order).cnu.groups = putStage .held [order] s.cnu.groups := by
  unfold Station.requestRelease
  cases hg : s.group? order with
  | none =>
    have hnone : ∀ g ∈ s.cnu.groups, g.order ≠ order := by simpa [Station.group?] using hg
    refine ⟨hp, ((List.map_congr_left fun g hmem => ?_).trans (List.map_id _)).symm⟩
    exact if_neg (by simpa using hnone g hmem)
  | some g =>
    rw [hp]
    refine ⟨hp, List.map_congr_left fun h _ => ?_⟩
    simp

theorem foldl_requestRelease_of_pending {r : Release} (orders : List Nat) {s : Station}
    (hp : s.fct.pendingRelease = some r) :
    (orders.foldl (fun t order => t.requestRelease order) s).fct.pendingRelease = some r
      ∧ (orders.foldl (fun t order => t.requestRelease order) s).cnu.groups = putStage .held orders s.cnu.groups := by
  induction orders generalizing s with
  | nil => exact ⟨hp, by simp [putStage]⟩
  | cons order orders ih =>
    obtain ⟨hp', hgroups⟩ := requestRelease_of_pending hp order
    obtain ⟨hp'', hgroups'⟩ := ih hp'
    refine ⟨hp'', hgroups'.trans ?_⟩
    rw [hgroups]
    unfold putStage
    rw [List.map_map]
    refine List.map_congr_left (fun g _ => ?_)
    by_cases ho : g.order = order <;> by_cases hl : g.order ∈ orders <;> simp [ho, hl]

/-- With none pending it is asked of the Face Controller, with the tyre count of its group (R144). -/
theorem requestRelease_of_free {g : Group} (hp : s.fct.pendingRelease = none) (hg : s.group? g.order = some g) :
    (s.requestRelease g.order).fct.pendingRelease = some { order := g.order, count := g.tyres.length }
      ∧ (s.requestRelease g.order).cnu.groups = putStage .requested [g.order] s.cnu.groups := by
  unfold Station.requestRelease
  rw [hg, hp]
  refine ⟨rfl, List.map_congr_left fun h _ => ?_⟩
  simp

theorem requestRelease_stc (s : Station) (order : Nat) : (s.requestRelease order).stc = s.stc := by
  unfold Station.requestRelease
  split
  · rfl
  · split <;> rfl

theorem requestFailed_stc (s : Station) : s.requestFailed.stc = s.stc := foldl_leaves requestRelease_stc _ s

/-! #### The releases that failed (R160) -/

theorem requestFailed_of_none (h : ∀ g ∈ s.cnu.groups, g.release ≠ .failed) : s.requestFailed = s := by
  have hnone : s.cnu.groups.filter (fun g => g.release = .failed) = [] := by simpa [List.filter_eq_nil_iff] using h
  unfold Station.requestFailed
  rw [hnone]
  rfl

theorem group?_of_mem (hnodup : (s.cnu.groups.map (fun h => h.order)).Nodup) {g : Group} (hg : g ∈ s.cnu.groups) :
    s.group? g.order = some g := by
  obtain ⟨j, hj⟩ : ∃ j, s.group? g.order = some j := Option.isSome_iff_exists.mp (List.find?_isSome.mpr ⟨g, hg, by simp⟩)
  have hsame : j.order = g.order := by simpa using List.find?_some hj
  rw [hj, List.inj_on_of_nodup_map hnodup (List.mem_of_find?_eq_some hj) hg hsame]

/-- The orders of the failed releases after the first: those of the other groups whose release has failed. -/
theorem mem_later_failed {l rest : List Group} {g h : Group} (hnodup : (l.map (fun h => h.order)).Nodup)
    (hfailed : l.filter (fun h => h.release = .failed) = g :: rest) (hh : h ∈ l) :
    h.order ∈ rest.map (fun j => j.order) ↔ h.order ≠ g.order ∧ h.release = .failed := by
  have hmem : ∀ j, j ∈ g :: rest ↔ j ∈ l ∧ j.release = .failed := fun j => by
    rw [← hfailed, List.mem_filter, decide_eq_true_iff]
  have horders : (g.order :: rest.map (fun j => j.order)).Nodup := by
    rw [← List.map_cons (f := fun j : Group => j.order), ← hfailed]
    exact hnodup.sublist (List.filter_sublist.map _)
  constructor
  · intro hin
    refine ⟨fun hfirst => (List.nodup_cons.mp horders).1 (hfirst ▸ hin), ?_⟩
    obtain ⟨j, hj, horder⟩ := List.mem_map.mp hin
    obtain ⟨hjl, hjf⟩ := (hmem j).mp (List.mem_cons_of_mem g hj)
    exact List.inj_on_of_nodup_map hnodup hjl hh horder ▸ hjf
  · rintro ⟨hother, hf⟩
    rcases List.mem_cons.mp ((hmem h).mpr ⟨hh, hf⟩) with rfl | hin
    · exact absurd rfl hother
    · exact List.mem_map_of_mem hin

/-- The first failed release is made, every other one held back (R159, R160). -/
theorem requestFailed_of_failed {g : Group} (hg : s.cnu.groups.find? (fun h => h.release = .failed) = some g)
    (hp : s.fct.pendingRelease = none) (hnodup : (s.cnu.groups.map (fun h => h.order)).Nodup) :
    s.requestFailed.fct.pendingRelease = some { order := g.order, count := g.tyres.length }
      ∧ s.requestFailed.cnu.groups.map Group.kept = s.cnu.groups.map (fun h => (h.order, h.returning, h.tyres,
          if h.order = g.order then .requested else if h.release = .failed then .held else h.release)) := by
  obtain ⟨rest, hfailed⟩ : ∃ rest, s.cnu.groups.filter (fun h => h.release = .failed) = g :: rest := by
    rw [← List.head?_filter] at hg
    exact List.head?_eq_some_iff.mp hg
  have hsplit : s.requestFailed = (rest.map (fun h => h.order)).foldl (fun t order => t.requestRelease order)
      (s.requestRelease g.order) := by
    unfold Station.requestFailed
    rw [hfailed]
    rfl
  obtain ⟨hfirst, hgroups⟩ := requestRelease_of_free hp (group?_of_mem hnodup (List.mem_of_find?_eq_some hg))
  obtain ⟨hpending, hgroups'⟩ := foldl_requestRelease_of_pending (rest.map (fun h => h.order)) hfirst
  rw [hsplit, hgroups', hgroups]
  refine ⟨hpending, ?_⟩
  unfold putStage
  rw [List.map_map, List.map_map]
  refine List.map_congr_left (fun h hh => ?_)
  have hlater := mem_later_failed hnodup hfailed hh
  simp only [Function.comp_apply, List.mem_singleton]
  by_cases horder : h.order = g.order
  · rw [if_pos horder, if_pos horder, if_neg (fun hin => (hlater.mp hin).1 horder)]
    rfl
  · rw [if_neg horder, if_neg horder]
    by_cases hf : h.release = .failed
    · rw [if_pos (hlater.mpr ⟨horder, hf⟩), if_pos hf]
      rfl
    · rw [if_neg (fun hin => hf (hlater.mp hin).2), if_neg hf]
      rfl

end

end Sys2Proof.Machine
end

section
/-! ### IN_POS: the end of a move, of the homing of start, of a resume (R122, R125, R126, R131, R188, R193) -/

namespace Sys2Proof.Machine

section
variable {x : Station} {m : Move}

/-! #### The course of IN_POS -/

theorem inPosition_of_no_move (hm : x.mpl.move = none) : x.inPosition = x := by
  unfold Station.inPosition
  rw [hm]

theorem inPosition_of_home_check (hm : x.mpl.move = some m) (hid : m.task = none) :
    x.inPosition = if m.homeSeen = true then x.homeCheckDone else x := by
  unfold Station.inPosition
  rw [hm]
  dsimp only
  rw [hid]

theorem inPosition_of_task {id : Nat} (hm : x.mpl.move = some m) (hid : m.task = some id) :
    x.inPosition = x.taskMoveDone m id := by
  unfold Station.inPosition
  rw [hm]
  dsimp only
  rw [hid]

/-! #### The move of a task (R122, R126, R131) -/

theorem atTarget_of_ready {t : Task} (h : x.ready t.job = true) :
    x.atTarget t = { x with fct := { x.fct with task := some t.id, stage := .check } } := if_pos h

theorem atTarget_of_not_ready {t : Task} (h : x.ready t.job = false) : x.atTarget t = x := if_neg (by simp [h])

theorem task?_id {id : Nat} {t : Task} (ht : x.task? id = some t) : t.id = id := by
  simpa using List.find?_some ht

theorem removeTask_eq (s : Station) (id : Nat) :
    s.removeTask id = { s with mpl := { s.mpl with tasks := s.mpl.tasks.filter (fun o => o.id ≠ id) } } := by
  have hname : (fun o : Task => o.id != id) = fun o => decide (o.id ≠ id) := funext fun o => Bool.eq_iff_iff.mpr (by simp)
  unfold Station.removeTask
  rw [hname]

section
variable {id : Nat} {t : Task}

/-- Past its target the move has failed (R122). -/
theorem taskMoveDone_past (ht : x.task? id = some t) (hkept : t.removed = false) (hp : x.mpl.p ≠ some m.target) :
    x.taskMoveDone m id = x.moveEnded.haltFault .motionTimeout := by
  have hsame : x.moveEnded.dropIfRemoved id = x.moveEnded := dropIfRemoved_of_kept (fun u hu => by
    obtain rfl : t = u := Option.some.inj (ht.symm.trans hu)
    exact hkept)
  unfold Station.taskMoveDone
  dsimp only
  rw [if_pos (by exact hp), hsame]

/-- At its target the task goes to the face in RUNNING, unless its owner has removed it (R126, R131). -/
theorem taskMoveDone_at (ht : x.task? id = some t) (hp : x.mpl.p = some m.target) :
    x.taskMoveDone m id =
      if t.removed = true then x.moveEnded.removeTask id
      else if x.stc.mode = .running then x.moveEnded.atTarget t else x.moveEnded := by
  have ht' : x.moveEnded.task? id = some t := ht
  have hp' : ¬ x.moveEnded.mpl.p ≠ some m.target := not_not_intro hp
  unfold Station.taskMoveDone
  dsimp only
  rw [if_neg hp', ht']
  rfl

end

/-! #### The home check move (R125, R188, R193) -/

/-- The home check move has ended: the position is that of its HOME, 0 where it had no value. -/
def Station.homeChecked (s : Station) : Station :=
  { s with mpl := { s.mpl with
      p := some (s.mpl.p.getD 0), lastDir := .forward, move := none, lastInPos := some s.tick } }

theorem homeCheckDone_of_homing (hstart : x.stc.start = .homing) :
    x.homeCheckDone = { x.homeChecked with stc := { x.stc with start := .joining, homed := true } } := if_pos hstart

theorem homeCheckDone_of_resume (hstart : x.stc.start ≠ .homing) (hresume : x.stc.resume = true) :
    x.homeCheckDone = x.homeChecked.resumeComplete := (if_neg hstart).trans (if_pos hresume)

/-- The carriers that carry TOUCHED after a resume (R193). -/
def Station.resumeTouches (s : Station) : List Nat := if s.stc.homeMismatch then List.range s.cfg.n else [0]

/-- The station back in RUNNING, before TOUCHED and the releases (R193). -/
def Station.resumed (s : Station) : Station :=
  { s with
    stc := { s.stc with mode := .running, resume := false, homeMismatch := false }
    fct := { s.fct with laneFault := false }
    pins := { s.pins with fault := false } }

/-- The station back in RUNNING with TOUCHED on its carriers (R193). -/
def Station.resumedTouched (s : Station) : Station := s.resumeTouches.foldl Station.touch s.resumed

theorem resumeComplete_eq (s : Station) : s.resumeComplete = s.resumedTouched.requestFailed.statusTrigger := rfl

theorem resumedTouched_view (s : Station) : s.resumedTouched.view = s.resumed.view := foldl_view _ touch_view _ _

theorem resumedTouched_office (s : Station) : s.resumedTouched.office = s.resumed.office := foldl_touch_office _ _

theorem resumedTouched_groups (s : Station) : s.resumedTouched.cnu.groups = s.cnu.groups :=
  congrArg (fun o => o.cnu.groups) (resumedTouched_office s)

theorem statusTrigger_smap (s : Station) : s.statusTrigger.smap = s.smap := by
  have hstores : s.statusTrigger.stores = s.stores := statusTrigger_stores s
  exact congrArg (fun y => y.2.1) hstores

/-- TOUCHED after a resume: on every carrier where the home mismatch mark was set, on carrier 0 otherwise (R193). -/
theorem resumedTouched_touched {s : Station} {c : Nat} {k : Carrier} (hk : s.smap.carriers[c]? = some k)
    (hc : c < s.cfg.n) :
    ∃ k', s.resumedTouched.smap.carriers[c]? = some k'
      ∧ k'.locks.touched = (k.locks.touched || s.stc.homeMismatch || decide (c = 0)) := by
  refine ⟨_, (foldl_touch_carrier s.resumeTouches s.resumed c).trans (congrArg (Option.map _) hk), ?_⟩
  unfold Station.resumeTouches
  cases s.stc.homeMismatch with
  | true => simp [hc, Carrier.withReason, LockSet.put]
  | false =>
    obtain rfl | h0 := eq_or_ne c 0
    · simp [Carrier.withReason, LockSet.put]
    · simp [h0]

end

/-! #### IN_POS at the end of the home check of a resume -/

section
variable {x : Station} {m : Move} (q : List Instr) (hx : x.live) (hstart : x.stc.start = .done)
  (hresume : x.stc.resume = true) (hm : x.mpl.move = some m) (hid : m.task = none) (hseen : m.homeSeen = true)
include hx hstart hresume hm hid hseen

theorem exec_inPos_resume :
    exec .inPos ⟨x, q⟩ = .next ⟨x.homeChecked.resumedTouched.requestFailed.statusTrigger.settle x, q⟩ := by
  refine answer_of_on q hx.1 ((inPosition_of_home_check hm hid).trans ((if_pos hseen).trans ?_))
  exact homeCheckDone_of_resume (by simp [hstart]) hresume

end

/-- Settles O37: IN_POS without effect, at the end of homing, of a task's move, of a removed task's move; at the end of a
resume without and with failed releases. -/
theorem inPosEndsMove : Obligations.InPosEndsMove := by
  refine ⟨fun x q hon => ⟨?idle, fun m hm hid hseen hstart hjoined hp => ?homing,
    fun m id t hm hid ht hkept => ⟨fun hp hmode hready => ?_, fun hp hmode hready => ?_, fun hp hmode => ?_, fun hp => ?_⟩,
    fun m id t hm hid ht hgone hp => ?_⟩,
    fun x q m hx hstart hmode hresume hm hid hseen hno => ?resume,
    fun x q m g hx hstart hmode hresume hm hid hseen hg hfree hfresh => ?failed⟩
  case idle =>
    rintro (hm | ⟨m, hm, hid, hseen⟩)
    · exact answer_powered q hon (inPosition_of_no_move hm)
    · exact answer_powered q hon ((inPosition_of_home_check hm hid).trans (if_neg (by simp [hseen])))
  case homing =>
    refine answer_before_join q hon ((inPosition_of_home_check hm hid).trans ((if_pos hseen).trans ?_)) hjoined
    rw [homeCheckDone_of_homing hstart]
    simp only [Station.homeChecked, hp]
    rfl
  case resume =>
    refine ⟨_, exec_inPos_resume q hx hstart hresume hm hid hseen, ?_, fun c k hk hc => ?_⟩
    all_goals rw [requestFailed_of_none (by rw [resumedTouched_groups]; exact hno)]
    · rw [settle_view, statusTrigger_view, resumedTouched_view]
      rfl
    · rw [statusTrigger_smap]
      exact resumedTouched_touched (s := x.homeChecked) hk hc
  case failed =>
    obtain ⟨-, -, -, -, -, -, -, hnodup⟩ := hfresh
    have hgroups := resumedTouched_groups x.homeChecked
    obtain ⟨hpending, hkept⟩ := requestFailed_of_failed (s := x.homeChecked.resumedTouched) (g := g)
      (by rw [hgroups]; exact hg)
      ((congrArg View.pendingRelease (resumedTouched_view x.homeChecked)).trans hfree)
      (by rw [hgroups]; exact hnodup)
    have hview := (settle_view _ x).trans (statusTrigger_view x.homeChecked.resumedTouched.requestFailed)
    refine ⟨_, exec_inPos_resume q hx hstart hresume hm hid hseen, ?_, ?_, ?_⟩
    · refine (congrArg (fun v => v.stc.mode) hview).trans ((congrArg Stc.mode (requestFailed_stc _)).trans ?_)
      exact congrArg Office.mode (resumedTouched_office x.homeChecked)
    · exact (congrArg View.pendingRelease hview).trans hpending
    · refine (congrArg View.groups hview).trans (hkept.trans ?_)
      rw [hgroups]
      rfl
  · refine answer_powered q hon ((inPosition_of_task hm hid).trans ((taskMoveDone_at ht hp).trans ?_))
    rw [if_neg (by simp [hkept]), if_pos hmode, ← task?_id ht]
    exact atTarget_of_ready hready
  · refine answer_powered q hon ((inPosition_of_task hm hid).trans ((taskMoveDone_at ht hp).trans ?_))
    rw [if_neg (by simp [hkept]), if_pos hmode]
    exact atTarget_of_not_ready hready
  · refine answer_powered q hon ((inPosition_of_task hm hid).trans ((taskMoveDone_at ht hp).trans ?_))
    rw [if_neg (by simp [hkept]), if_neg hmode]
    rfl
  · exact answer_of_on q hon ((inPosition_of_task hm hid).trans (taskMoveDone_past ht hkept hp))
  · refine answer_powered q hon ((inPosition_of_task hm hid).trans ((taskMoveDone_at ht hp).trans ?_))
    rw [if_pos hgone]
    exact removeTask_eq x.moveEnded id

end Sys2Proof.Machine
end

section
/-! ### The choice of a decision (R118, R120) -/

namespace Sys2Proof.Machine

section
variable {s : Station}

/-! #### The order of R120 -/

/-- What R120 compares of a task: its class, its travel distance, and whether it lies forward. -/
def Station.taskKey (s : Station) (t : Task) : Nat × Nat × Nat :=
  (t.rank, s.travel (t.job.target.getD 0),
    if forwardDistance s.cfg.n (s.mpl.p.getD 0) (t.job.target.getD 0) = s.travel (t.job.target.getD 0) then 0 else 1)

/-- One task stands before another in the order of R120. -/
def Station.ranksBefore (s : Station) (t o : Task) : Prop :=
  (s.taskKey t).1 < (s.taskKey o).1 ∨ ((s.taskKey t).1 = (s.taskKey o).1 ∧
    ((s.taskKey t).2.1 < (s.taskKey o).2.1 ∨ ((s.taskKey t).2.1 = (s.taskKey o).2.1 ∧
      (s.taskKey t).2.2 < (s.taskKey o).2.2)))

theorem taskRank_lexLt_iff (t o : Task) : lexLt (s.taskRank t) (s.taskRank o) = true ↔ s.ranksBefore t o := by
  simp only [Station.taskRank, lexLt_cons_iff]
  simp [lexLt, Station.ranksBefore, Station.taskKey]

theorem ranksBefore_trans {t o u : Task} (h : s.ranksBefore t o) (h' : s.ranksBefore o u) : s.ranksBefore t u := by
  unfold Station.ranksBefore at *
  omega

theorem ranksBefore_of_not {t o u : Task} (h : s.ranksBefore t o) (h' : ¬ s.ranksBefore u o) : s.ranksBefore t u := by
  unfold Station.ranksBefore at *
  omega

theorem betterTask_of_before {u t : Task} (h : s.ranksBefore t u) : s.betterTask (some u) t = some t :=
  if_pos ((taskRank_lexLt_iff t u).mpr h)

theorem betterTask_of_not {u t : Task} (h : ¬ s.ranksBefore t u) : s.betterTask (some u) t = some u :=
  if_neg (fun hlt => h ((taskRank_lexLt_iff t u).mp hlt))

/-! #### The best of a list, the oldest first -/

/-- The task that stands before every older one of the list and is before none of the newer. -/
def Station.BestOf (s : Station) (t : Task) (l : List Task) : Prop :=
  ∃ before after, l = before ++ t :: after ∧ (∀ o ∈ before, s.ranksBefore t o) ∧ ∀ o ∈ after, ¬ s.ranksBefore o t

theorem bestOf_cons_of_before {u t : Task} {l : List Task} (h : s.BestOf t l) (hu : s.ranksBefore t u) :
    s.BestOf t (u :: l) := by
  obtain ⟨before, after, rfl, hbefore, hafter⟩ := h
  exact ⟨u :: before, after, rfl, List.forall_mem_cons.mpr ⟨hu, hbefore⟩, hafter⟩

/-- A walk that begins with one task ends with it or with a better one further on. -/
theorem foldl_betterTask (l : List Task) (u : Task) :
    ∃ t, l.foldl s.betterTask (some u) = some t
      ∧ ((t = u ∧ ∀ o ∈ l, ¬ s.ranksBefore o u) ∨ (s.ranksBefore t u ∧ s.BestOf t l)) := by
  induction l generalizing u with
  | nil => exact ⟨u, rfl, .inl ⟨rfl, by simp⟩⟩
  | cons v l ih =>
    rw [List.foldl_cons]
    by_cases hv : s.ranksBefore v u
    · rw [betterTask_of_before hv]
      obtain ⟨t, ht, ⟨rfl, hnone⟩ | ⟨hbefore, hbest⟩⟩ := ih v
      · exact ⟨t, ht, .inr ⟨hv, [], l, rfl, by simp, hnone⟩⟩
      · exact ⟨t, ht, .inr ⟨ranksBefore_trans hbefore hv, bestOf_cons_of_before hbest hbefore⟩⟩
    · rw [betterTask_of_not hv]
      obtain ⟨t, ht, ⟨rfl, hnone⟩ | ⟨hbefore, hbest⟩⟩ := ih u
      · exact ⟨t, ht, .inl ⟨rfl, List.forall_mem_cons.mpr ⟨hv, hnone⟩⟩⟩
      · exact ⟨t, ht, .inr ⟨hbefore, bestOf_cons_of_before hbest (ranksBefore_of_not hbefore hv)⟩⟩

/-! #### The chosen task -/

/-- A non-empty list of ready tasks has one that is chosen, the best. -/
theorem foldl_betterTask_none (l : List Task) :
    (l = [] ∧ l.foldl s.betterTask none = none) ∨ ∃ t, l.foldl s.betterTask none = some t ∧ s.BestOf t l := by
  cases l with
  | nil => exact .inl ⟨rfl, rfl⟩
  | cons u l =>
    obtain ⟨t, ht, ⟨rfl, hnone⟩ | ⟨hbefore, hbest⟩⟩ := foldl_betterTask (s := s) l u
    · exact .inr ⟨t, ht, [], l, rfl, by simp, hnone⟩
    · exact .inr ⟨t, ht, bestOf_cons_of_before hbest hbefore⟩

theorem chosenTask_cases :
    (s.mpl.tasks.filter (fun t => s.ready t.job) = [] ∧ s.chosenTask = none)
      ∨ ∃ t, s.chosenTask = some t ∧ s.BestOf t (s.mpl.tasks.filter (fun t => s.ready t.job)) :=
  foldl_betterTask_none _

theorem chosenTask_none_iff : s.chosenTask = none ↔ ∀ t ∈ s.mpl.tasks, s.ready t.job = false := by
  have hempty : s.mpl.tasks.filter (fun t => s.ready t.job) = [] ↔ ∀ t ∈ s.mpl.tasks, s.ready t.job = false := by
    simp [List.filter_eq_nil_iff]
  rw [← hempty]
  rcases chosenTask_cases (s := s) with ⟨hnil, hnone⟩ | ⟨t, ht, before, after, hsplit, -⟩
  · exact iff_of_true hnone hnil
  · exact iff_of_false (by simp [ht]) (by simp [hsplit])

/-- The chosen task in the task list: ready, before every older ready task, and no newer ready task before it. -/
theorem chosenTask_best {t : Task} (h : s.chosenTask = some t) :
    ∃ before after, s.mpl.tasks = before ++ t :: after ∧ s.ready t.job = true
      ∧ (∀ o ∈ before, s.ready o.job = true → s.ranksBefore t o)
      ∧ ∀ o ∈ after, s.ready o.job = true → ¬ s.ranksBefore o t := by
  rcases chosenTask_cases (s := s) with ⟨-, hnone⟩ | ⟨u, hu, older, newer, hsplit, holder, hnewer⟩
  · rw [hnone] at h
    cases h
  · obtain rfl : u = t := Option.some.inj (hu.symm.trans h)
    obtain ⟨front, rest, htasks, hfront, hrest⟩ := List.filter_eq_append_iff.mp hsplit
    obtain ⟨skipped, after, rfl, hskipped, hready, hafter⟩ := List.filter_eq_cons_iff.mp hrest
    refine ⟨front ++ skipped, after, by rw [htasks, List.append_assoc], hready, fun o ho hro => ?_, fun o ho hro => ?_⟩
    · rcases List.mem_append.mp ho with ho | ho
      · exact holder o (hfront ▸ List.mem_filter.mpr ⟨ho, hro⟩)
      · exact absurd hro (hskipped o ho)
    · exact hnewer o (hafter ▸ List.mem_filter.mpr ⟨ho, hro⟩)

theorem ready_of_chosenTask {t : Task} (h : s.chosenTask = some t) : s.ready t.job = true := by
  obtain ⟨-, -, -, hready, -⟩ := chosenTask_best h
  exact hready

end

end Sys2Proof.Machine
end

section
/-! ### Readiness, kind by kind (R119), and the task list (R116) -/

namespace Sys2Proof.Machine

section
variable {s : Station}

/-! #### What a carrier and the lane may do (R24, R144, R153) -/

theorem mayTake_iff (c : Nat) : s.mayTake c = true ↔ ∃ k, s.smap.carriers[c]? = some k
    ∧ k.locks.unverified = false ∧ k.locks.audit = false ∧ k.locks.touched = false ∧ k.locks.quarantine = false
    ∧ k.locks.held = false := by
  unfold Station.mayTake Station.carrier?
  cases s.smap.carriers[c]? with
  | none => simp
  | some k => simp [LockSet.mayTake, and_assoc]

theorem lockSet_mayStore_iff (l : LockSet) : l.mayStore = true ↔ l = LockSet.empty := by
  rcases l with ⟨unverified, audit, touched, quarantine, held, retired⟩
  simp [LockSet.mayStore, LockSet.locked, LockSet.empty, and_assoc]

theorem mayStore_iff (c : Nat) : s.mayStore c = true ↔ ∃ k, s.smap.carriers[c]? = some k ∧ k.locks = LockSet.empty := by
  unfold Station.mayStore Station.carrier?
  cases s.smap.carriers[c]? with
  | none => simp
  | some k => simp [lockSet_mayStore_iff]

theorem releasing_iff : s.fct.releasing = true ↔ s.fct.pendingRelease ≠ none ∨ s.fct.lane = .sweeping := by
  simp [Fct.releasing, Option.isSome_iff_ne_none]

theorem hasGroup_iff (order : Nat) : s.hasGroup order = true ↔ ∃ g ∈ s.cnu.groups, g.order = order := by
  simp [Station.hasGroup, Station.group?]

/-! #### The kinds -/

/-- No record of another order, WON or PICKING, has a group on the lane (R119). -/
theorem not_otherOrderOpen_iff (order : Nat) :
    ¬ s.otherOrderOpen order = true ↔ ∀ o ∈ s.clu.records, ∀ p, o.body = .pick p → (p.state = .won ∨ p.state = .picking) →
      p.order ≠ order → ¬ s.hasGroup p.order = true := by
  unfold Station.otherOrderOpen
  rw [Bool.not_eq_true, List.any_eq_false]
  refine forall₂_congr (fun o _ => ?_)
  cases o.body with
  | pick b => simp [and_imp]
  | putaway b => simp

theorem pickReady_iff (stop : PickStop) : s.pickReady stop = true ↔
    ∃ r b, s.record? stop.serial = some r ∧ r.body = .pick b ∧ (b.state = .won ∨ b.state = .picking)
      ∧ r.qty - b.staged ≤ s.cnu.freePositions ∧ (s.hasGroup b.order = true ∨ ¬ s.otherOrderOpen b.order = true) := by
  unfold Station.pickReady
  cases s.record? stop.serial with
  | none => simp
  | some r =>
    cases hb : r.body with
    | putaway b => simp [hb]
    | pick b => simp [hb, and_assoc]

theorem pickStop_ready_iff (stop : PickStop) : s.ready (.pickStop stop) = true ↔
    s.pickReady stop = true ∧ s.mayTake stop.carrier = true ∧ ¬ s.fct.releasing = true := by
  simp [Station.ready, and_assoc]

theorem load_ready_iff (serial : Nat) (a : BayAddr) : s.ready (.load serial a) = true ↔
    s.mayStore a.carrier = true ∧ s.fct.infeed = .ofRecord serial := by
  simp [Station.ready]

theorem putback_ready_iff (order : Nat) (dest : Option BayAddr) : s.ready (.putback order dest) = true ↔
    (∃ a, dest = some a ∧ s.mayStore a.carrier = true) ∧ ¬ s.fct.releasing = true := by
  cases dest <;> simp [Station.ready]

/-! #### The task list (R116) -/

theorem hasScan_iff (c : Nat) : s.hasScan c = true ↔ ∃ t ∈ s.mpl.tasks, ∃ p, t.job = .scan c p := by
  unfold Station.hasScan
  rw [List.any_eq_true]
  refine exists_congr (fun t => and_congr_right (fun _ => ?_))
  cases t.job <;> simp

theorem acceptsTask_iff (job : Job) : s.acceptsTask job = true ↔ s.mpl.tasks.length < 24
    ∧ ∀ c p, job = .scan c p → ∀ t ∈ s.mpl.tasks, ∀ p', t.job ≠ .scan c p' := by
  unfold Station.acceptsTask
  rw [Bool.and_eq_true, decide_eq_true_iff]
  refine and_congr_right (fun _ => ?_)
  cases job with
  | scan c p =>
    have hno : s.hasScan c = false ↔ ∀ t ∈ s.mpl.tasks, ∀ p', t.job ≠ .scan c p' := by
      rw [← Bool.not_eq_true, hasScan_iff]
      simp
    simp [hno]
  | pickStop stop => simp
  | load serial a => simp
  | putback order dest => simp

theorem addTask_mpl (job : Job) : (s.addTask job).mpl = { s.mpl with
    tasks := s.mpl.tasks ++ [{ id := s.mpl.nextTask, passed := 0, removed := false, job := job }]
    nextTask := s.mpl.nextTask + 1 } := by
  cases job <;> rfl

theorem addTask_scan_carrier {c : Nat} {p : Purpose} {k : Carrier} (hk : s.smap.carriers[c]? = some k) :
    (s.addTask (.scan c p)).smap.carriers[c]? = some (k.withReason .audit true) := by
  refine (congrArg (fun l : List Carrier => l[c]?) (putReason_carriers (.inl rfl) c true)).trans ?_
  rw [List.getElem?_modify_eq]
  exact congrArg (Option.map _) hk

end

end Sys2Proof.Machine
end

section
/-! ### The decision and what is done with the chosen task (R120, R121, R128, R130) -/

namespace Sys2Proof.Machine

section
variable {s : Station}

/-! #### The chosen task begun (R121) -/

/-- The direction of the shorter way, forward on equal distances (R121). -/
def Station.dirTo (s : Station) (p c : Nat) : Dir :=
  if forwardDistance s.cfg.n p c ≤ backwardDistance s.cfg.n p c then .forward else .backward

/-- The steps of the shorter way (R1, R121). -/
def Station.stepsTo (s : Station) (p c : Nat) : Nat := min (forwardDistance s.cfg.n p c) (backwardDistance s.cfg.n p c)

theorem startTask_eq {t : Task} {p c : Nat} (hp : s.mpl.p = some p) (hc : t.job.target = some c) :
    s.startTask t =
      if s.stepsTo p c = 0 then s.atTarget t
      else if s.dirTo p c = s.mpl.lastDir ∨ s.dwellOver = true then s.giveMove (s.dirTo p c) (s.stepsTo p c) c (some t.id)
      else { s with mpl := { s.mpl with
        held := some { task := t.id, dir := s.dirTo p c, steps := s.stepsTo p c, target := c } } } := by
  have hdir : (if forwardDistance s.cfg.n p c = s.stepsTo p c then Dir.forward else Dir.backward) = s.dirTo p c :=
    if_congr (eq_comm.trans min_eq_left_iff) rfl rfl
  unfold Station.startTask Station.travel travelDistance
  rw [hp, hc]
  dsimp only [Option.getD_some]
  rw [show min (forwardDistance s.cfg.n p c) (backwardDistance s.cfg.n p c) = s.stepsTo p c from rfl, hdir]

/-- The passed-over counts have no part in readiness (R119). -/
theorem raisePassed_ready (s : Station) (id : Nat) (job : Job) : (s.raisePassed id).ready job = s.ready job := by
  cases job <;> rfl

/-- A MOVE given with no task held: the last direction, the move, the drive. -/
theorem giveMove_of_not_held (hheld : s.mpl.held = none) (dir : Dir) (steps target : Nat) (task : Option Nat) :
    s.giveMove dir steps target task = { s with
      mpl := { s.mpl with
        lastDir := dir
        move := some {
          dir := dir, steps := steps, target := target, task := task, started := s.tick
          limit := steps * s.cfg.pitchTime + s.cfg.motionMargin, homeSeen := false } }
      pins := { s.pins with drive := .move dir steps } } := by
  unfold Station.giveMove
  rw [← hheld]

/-! #### When the planner decides (R120, R130) -/

theorem mayDecide_iff : s.mayDecide = true ↔ s.stc.mode = .running ∧ s.stc.hold = .none ∧ s.mpl.move = none
    ∧ s.fct.task = none ∧ s.mpl.held = none ∧ s.mpl.p ≠ none := by
  simp only [Station.mayDecide, Bool.and_eq_true, decide_eq_true_iff, Option.isNone_iff_eq_none,
    Option.isSome_iff_ne_none]
  tauto

/-- The blocked PUTBACKs, each reported once the decision has been made (R128). -/
theorem decision_eq : s.decision = if s.mayDecide = true then
    (s.mpl.tasks.filterMap (fun t => s.blocked t.job)).foldl Station.reportBlocked s.withChosen else s := rfl

theorem withChosen_of_none (h : s.chosenTask = none) : s.withChosen = s := by
  unfold Station.withChosen
  rw [h]

theorem withChosen_of_some {t : Task} (h : s.chosenTask = some t) : s.withChosen = (s.raisePassed t.id).startTask t := by
  unfold Station.withChosen
  rw [h]

/-- The decision with a task chosen, its count and its start given (R118, R121, R128). -/
theorem decision_of_chosen {t : Task} {v : Station} (hmay : s.mayDecide = true) (h : s.chosenTask = some t)
    (hstart : (s.raisePassed t.id).startTask t = v) :
    s.decision = (s.mpl.tasks.filterMap (fun t => s.blocked t.job)).foldl Station.reportBlocked v := by
  rw [decision_eq, if_pos hmay, withChosen_of_some h, hstart]

theorem blocked_iff (job : Job) (o : Nat × BayAddr) :
    s.blocked job = some o ↔ job = .putback o.1 (some o.2) ∧ s.mayStore o.2.carrier = false := by
  rcases o with ⟨order, a⟩
  cases job with
  | putback order' dest =>
    cases dest with
    | none => simp [Station.blocked]
    | some a' =>
      cases hstore : s.mayStore a'.carrier with
      | true =>
        simp only [Station.blocked, hstore, if_true, Job.putback.injEq, Option.some.injEq]
        exact iff_of_false (by simp) (by rintro ⟨⟨-, rfl⟩, hno⟩; simp [hstore] at hno)
      | false =>
        simp only [Station.blocked, hstore, Bool.false_eq_true, if_false, Job.putback.injEq, Option.some.injEq,
          Prod.mk.injEq]
        exact ⟨fun ⟨ho, ha⟩ => ⟨⟨ho, ha⟩, ha ▸ hstore⟩, fun h => h.1⟩
  | pickStop stop => simp [Station.blocked]
  | load serial a => simp [Station.blocked]
  | scan c p => simp [Station.blocked]

end

end Sys2Proof.Machine
end

section
/-! ### The events at which the planner decides (R120) -/

namespace Sys2Proof.Machine

section
variable {s : Station}

/-! #### Nothing reported where nothing has changed -/

theorem reasonCleared_self (l : List Carrier) : reasonCleared l l = false := by
  induction l with
  | nil => rfl
  | cons k l ih => simp [reasonCleared, ih]

theorem destinationGiven_iff (old new : Mpl) :
    destinationGiven old new = true ↔ ∃ d ∈ new.destinations, d ∉ old.destinations := by
  simp [destinationGiven]

theorem destinationGiven_self (m : Mpl) : destinationGiven m m = false := by
  simp [destinationGiven]

/-! #### Records changed in place -/

theorem reported_serial (r : LineRec) : r.reported.1 = r.serial := by
  unfold LineRec.reported
  cases r.body <;> rfl

/-- Where every record keeps its name and its state, the planner is told of the counts that have risen alone. -/
theorem recordReported_map {g : LineRec → LineRec} (hnodup : (s.clu.records.map (fun r => r.serial)).Nodup)
    (hstate : ∀ r, (g r).reported.1 = r.reported.1 ∧ (g r).reported.2.1 = r.reported.2.1) :
    recordReported s.clu.records (s.clu.records.map g) = true ↔
      ∃ r ∈ s.clu.records, r.reported.2.2 < (g r).reported.2.2 := by
  have hsame : ∀ r, ((g r).reported.1, (g r).reported.2.1) = (r.reported.1, r.reported.2.1) :=
    fun r => Prod.ext (hstate r).1 (hstate r).2
  have hfound : ∀ r ∈ s.clu.records, s.clu.records.find? (fun o => o.serial == (g r).serial) = some r := fun r hr => by
    rw [show (g r).serial = r.serial from (reported_serial _).symm.trans ((hstate r).1.trans (reported_serial r))]
    exact record?_of_mem hnodup hr
  unfold recordReported
  simp only [map_map_of_eq (fun r : LineRec => (r.reported.1, r.reported.2.1)) g hsame, ne_eq, not_true_eq_false,
    decide_false, Bool.false_or, List.any_map, List.any_eq_true]
  refine exists_congr (fun r => and_congr_right (fun hr => ?_))
  rw [Function.comp_apply, hfound r hr, Option.any_some, decide_eq_true_iff]

theorem not_isSome_and_none {α : Type} (o : Option α) : ¬ (o.isSome = true ∧ o = none) := by
  cases o <;> simp

theorem not_sweeping_and_idle (l : Lane) : ¬ (l = .sweeping ∧ l = .idle) := by
  cases l <;> simp

/-- A change of the records alone is an event where it is reported. -/
theorem decisionDue_of_records (c : Clu) : decisionDue s { s with clu := c } = recordReported s.clu.records c.records := by
  simp [decisionDue, reasonCleared_self, destinationGiven_self, not_isSome_and_none, not_sweeping_and_idle]

/-- A change of the tasks alone, none added or removed, is an event where it gives a destination. -/
theorem decisionDue_of_tasks {tasks : List Task} (hnodup : (s.clu.records.map (fun r => r.serial)).Nodup)
    (hids : tasks.map (fun t => t.id) = s.mpl.tasks.map (fun t => t.id)) :
    decisionDue s { s with mpl := { s.mpl with tasks := tasks } } =
      destinationGiven s.mpl { s.mpl with tasks := tasks } := by
  have hrecords : recordReported s.clu.records s.clu.records = false := by
    have hmap := recordReported_map (g := id) hnodup (fun _ => ⟨rfl, rfl⟩)
    rw [List.map_id] at hmap
    simpa using hmap
  simp [decisionDue, reasonCleared_self, hids, hrecords, not_isSome_and_none, not_sweeping_and_idle]

/-! #### An arrival counted, an arrival withdrawn (R109, R140) -/

theorem mapPut_reported {f : PutBody → PutBody} (hstate : ∀ b, (f b).state = b.state) (r : LineRec) :
    (r.mapPut f).reported.1 = r.reported.1 ∧ (r.mapPut f).reported.2.1 = r.reported.2.1 := by
  rcases r with ⟨serial, article, qty, bid, body⟩
  cases body with
  | pick b => exact ⟨rfl, rfl⟩
  | putaway b => simp [LineRec.mapPut, LineRec.reported, hstate]

/-- A change of the arrived count of one record is an event exactly where the count rises (R120). -/
theorem decisionDue_updPut {f : PutBody → PutBody} (hnodup : (s.clu.records.map (fun r => r.serial)).Nodup)
    (hstate : ∀ b, (f b).state = b.state) (serial : Nat) :
    decisionDue s (s.updPut serial f) = true ↔
      ∃ r ∈ s.clu.records, r.serial = serial ∧ r.reported.2.2 < (r.mapPut f).reported.2.2 := by
  refine Iff.trans (Bool.eq_iff_iff.mp (decisionDue_of_records _))
    ((recordReported_map hnodup (fun r => ?_)).trans (exists_congr fun r => and_congr_right fun _ => ?_))
  · split
    · exact mapPut_reported hstate r
    · exact ⟨rfl, rfl⟩
  · by_cases hserial : r.serial = serial <;> simp [hserial]

theorem arrival_counted_due (hnodup : (s.clu.records.map (fun r => r.serial)).Nodup) {serial : Nat} {b : PutBody}
    (hb : s.put? serial = some b) :
    decisionDue s (s.updPut serial (fun b => { b with arrived := b.arrived + 1 })) = true := by
  obtain ⟨r, hr, hbody⟩ := record?_of_put? hb
  obtain ⟨hmem, hserial⟩ := mem_of_record? hr
  refine (decisionDue_updPut hnodup ?_ serial).mpr ⟨r, hmem, hserial, ?_⟩
  · exact fun _ => rfl
  · rw [mapPut_of_putaway hbody]
    simp [LineRec.reported, hbody]

theorem arrival_withdrawn_not_due (hnodup : (s.clu.records.map (fun r => r.serial)).Nodup) (serial : Nat) :
    decisionDue s (s.updPut serial (fun b => { b with arrived := b.arrived - 1 })) = false := by
  rw [← Bool.not_eq_true]
  intro hdue
  obtain ⟨r, -, -, hless⟩ := (decisionDue_updPut hnodup (by exact fun _ => rfl) serial).mp hdue
  rcases r with ⟨serial, article, qty, bid, body⟩
  cases body with
  | pick b => exact absurd hless (lt_irrefl _)
  | putaway b => exact absurd hless (Nat.not_lt.mpr (Nat.sub_le b.arrived 1))

/-! #### A destination given, a destination taken away (R128, R165) -/

theorem mem_destinations_iff (m : Mpl) (d : Nat × BayAddr) :
    d ∈ m.destinations ↔ ∃ t ∈ m.tasks, t.id = d.1 ∧ ∃ order, t.job = .putback order (some d.2) := by
  rcases d with ⟨id, a⟩
  unfold Mpl.destinations
  rw [List.mem_filterMap]
  refine exists_congr (fun t => and_congr_right (fun _ => ?_))
  rcases t with ⟨id', passed, removed, job⟩
  cases job with
  | putback order dest => cases dest <;> simp
  | pickStop stop => simp
  | load serial a => simp
  | scan c p => simp

/-- The task with the destination of its PUTBACK, if it is one of the order. -/
def Task.redirected (t : Task) (order : Nat) (dest : Option BayAddr) : Task :=
  match t.job with
  | .putback o _ => if o = order then { t with job := .putback o dest } else t
  | .pickStop _ | .load _ _ | .scan _ _ => t

theorem putDest_eq (s : Station) (order : Nat) (dest : Option BayAddr) :
    s.putDest order dest = { s with mpl := { s.mpl with tasks := s.mpl.tasks.map (fun t => t.redirected order dest) } } :=
  rfl

theorem redirected_id (t : Task) (order : Nat) (dest : Option BayAddr) : (t.redirected order dest).id = t.id := by
  unfold Task.redirected
  split
  · split <;> rfl
  all_goals rfl

theorem redirected_job_iff (t : Task) (order o : Nat) (dest d : Option BayAddr) :
    (t.redirected order dest).job = .putback o d ↔
      ∃ old, t.job = .putback o old ∧ d = if o = order then dest else old := by
  rcases t with ⟨id, passed, removed, job⟩
  cases job with
  | putback o' old =>
    by_cases ho : o' = order
    · simp only [Task.redirected, if_pos ho]
      constructor
      · intro h
        cases h
        exact ⟨old, rfl, (if_pos ho).symm⟩
      · rintro ⟨old', h, rfl⟩
        cases h
        rw [if_pos ho]
    · simp only [Task.redirected, if_neg ho]
      constructor
      · intro h
        cases h
        exact ⟨_, rfl, (if_neg ho).symm⟩
      · rintro ⟨old', h, rfl⟩
        cases h
        rw [if_neg ho]
  | pickStop stop => simp [Task.redirected]
  | load serial a => simp [Task.redirected]
  | scan c p => simp [Task.redirected]

theorem decisionDue_putDest (hnodup : (s.clu.records.map (fun r => r.serial)).Nodup) (order : Nat)
    (dest : Option BayAddr) :
    decisionDue s (s.putDest order dest) = destinationGiven s.mpl (s.putDest order dest).mpl :=
  decisionDue_of_tasks hnodup (map_map_of_eq (fun t : Task => t.id) _ (fun t => redirected_id t order dest) _)

theorem destination_given_due (hfresh : s.NamesFresh) {t : Task} {order : Nat} {old : Option BayAddr} {d : BayAddr}
    (ht : t ∈ s.mpl.tasks) (hjob : t.job = .putback order old) (hold : old ≠ some d) :
    decisionDue s (s.putDest order (some d)) = true := by
  obtain ⟨-, -, -, -, hserials, hids, -⟩ := hfresh
  rw [decisionDue_putDest hserials, destinationGiven_iff]
  refine ⟨(t.id, d), (mem_destinations_iff _ _).mpr ⟨t.redirected order (some d), List.mem_map_of_mem ht,
    redirected_id t order (some d), order, ?_⟩, fun hin => ?_⟩
  · exact (redirected_job_iff t order order (some d) (some d)).mpr ⟨old, hjob, (if_pos rfl).symm⟩
  · obtain ⟨u, hu, hid, o, hu'⟩ := (mem_destinations_iff _ _).mp hin
    obtain rfl : u = t := List.inj_on_of_nodup_map hids hu ht hid
    rw [hjob] at hu'
    exact hold (Job.putback.inj hu').2

theorem destination_taken_not_due (hnodup : (s.clu.records.map (fun r => r.serial)).Nodup) (order : Nat) :
    decisionDue s (s.putDest order none) = false := by
  rw [decisionDue_putDest hnodup, ← Bool.not_eq_true, destinationGiven_iff]
  rintro ⟨d, hd, hnew⟩
  obtain ⟨u, hu, hid, o, hjob⟩ := (mem_destinations_iff _ _).mp hd
  obtain ⟨t, ht, rfl⟩ := List.mem_map.mp hu
  obtain ⟨old, hold, hdest⟩ := (redirected_job_iff t order o none (some d.2)).mp hjob
  refine hnew ((mem_destinations_iff _ _).mpr ⟨t, ht, (redirected_id t order none).symm.trans hid, o, ?_⟩)
  split at hdest
  · cases hdest
  · rw [hold, ← hdest]

end

end Sys2Proof.Machine
end

section
/-! ### After every event no task that a record waits for is left unasked where there is room (R108, R109, R117) -/

namespace Sys2Proof.Machine

/-- The Claim Unit waits for no task, or the task list has no room (R117). -/
def Station.Served (s : Station) : Prop := s.claimWant = none ∨ 24 ≤ s.mpl.tasks.length

/-- What the Claim Unit's requests go by: the records, and how many tasks the list holds. -/
def Station.asking (s : Station) : List LineRec × Nat := (s.clu.records, s.mpl.tasks.length)

section
variable {s t : Station}

theorem Station.Served.of_more (h : s.Served) (hrecords : t.clu.records = s.clu.records)
    (htasks : s.mpl.tasks.length ≤ t.mpl.tasks.length) : t.Served := by
  refine h.imp (fun hnone => ?_) (fun hfull => hfull.trans htasks)
  unfold Station.claimWant at hnone ⊢
  rw [hrecords]
  exact hnone

theorem Station.Served.of_asking (h : s.Served) (ht : t.asking = s.asking) : t.Served :=
  h.of_more (Prod.mk.inj ht).1 (Prod.mk.inj ht).2.ge

/-! #### The decision leaves the records and the number of the tasks -/

theorem asking_of_onlySmap (h : OnlySmap s t) : t.asking = s.asking := by
  unfold OnlySmap at h
  rw [h]
  rfl

theorem statusTrigger_asking (s : Station) : s.statusTrigger.asking = s.asking := by
  unfold Station.statusTrigger
  split
  · rfl
  · rcases post_cases s .sts (stsPayload s.statusFields) with ⟨hpost, -⟩ | hpost
    · rw [hpost]
      rfl
    · rw [hpost]
      unfold Station.oweKind
      dsimp only
      split <;> rfl

theorem markStuck_asking (s : Station) (o : Nat) (d : Option BayAddr) : (s.markStuck o d).asking = s.asking := by
  unfold Station.markStuck
  split
  · rfl
  · split
    · rfl
    · exact statusTrigger_asking _

theorem putDest_asking (s : Station) (o : Nat) (d : Option BayAddr) : (s.putDest o d).asking = s.asking := by
  simp [putDest_eq, Station.asking]

theorem blockedPutback_asking (s : Station) (o : Nat) (a : BayAddr) : (s.blockedPutback o a).asking = s.asking := by
  unfold Station.blockedPutback
  split
  · rfl
  · rw [putDest_asking, markStuck_asking]
    exact asking_of_onlySmap ((unexpect_onlySmap s a 1).trans (expectDest_onlySmap _ _))

theorem startTask_asking (s : Station) (t : Task) : (s.startTask t).asking = s.asking := by
  unfold Station.startTask Station.atTarget
  dsimp only
  split_ifs <;> rfl

theorem withChosen_asking (s : Station) : s.withChosen.asking = s.asking := by
  unfold Station.withChosen
  split
  · rfl
  · rw [startTask_asking]
    simp [Station.raisePassed, Station.asking]

theorem decision_asking (s : Station) : s.decision.asking = s.asking := by
  rw [decision_eq]
  split
  · have hreported := foldl_leaves (f := Station.reportBlocked) (fun u a => blockedPutback_asking u a.1 a.2)
    rw [hreported, withChosen_asking]
  · rfl

/-! #### The requests served -/

theorem claimWant_none_iff : s.claimWant = none ↔ ∀ r ∈ s.clu.records, r.loadWant = none ∧ r.pickWant = none := by
  unfold Station.claimWant
  cases hload : s.clu.records.findSome? (fun r => r.loadWant) with
  | some w =>
    refine iff_of_false (by simp) (fun h => ?_)
    obtain ⟨r, hmem, hr⟩ := List.exists_of_findSome?_eq_some hload
    rw [(h r hmem).1] at hr
    cases hr
  | none =>
    dsimp only
    rw [List.findSome?_eq_none_iff] at hload ⊢
    exact ⟨fun h r hr => ⟨hload r hr, h r hr⟩, fun h r hr => (h r hr).2⟩

/-- No task that the Claim Unit waits for is a SCAN, so the list takes it wherever it has room (R116). -/
theorem acceptsTask_of_claimWant {w : ClaimWant} (h : s.claimWant = some w) :
    s.acceptsTask w.job = decide (s.mpl.tasks.length < 24) := by
  have hwant : ∃ r ∈ s.clu.records, r.loadWant = some w ∨ r.pickWant = some w := by
    unfold Station.claimWant at h
    split at h
    · rename_i w' hw
      obtain ⟨r, hr, hwr⟩ := List.exists_of_findSome?_eq_some hw
      exact ⟨r, hr, .inl (hwr.trans h)⟩
    · obtain ⟨r, hr, hwr⟩ := List.exists_of_findSome?_eq_some h
      exact ⟨r, hr, .inr hwr⟩
  have hjob : ∀ c p, w.job ≠ .scan c p := by
    obtain ⟨r, -, hload | hpick⟩ := hwant
    · unfold LineRec.loadWant at hload
      split at hload
      · split at hload
        · cases hload
          exact fun _ _ => nofun
        · cases hload
      · cases hload
    · unfold LineRec.pickWant at hpick
      split at hpick
      · split at hpick
        · obtain ⟨i, -, hi⟩ := Option.bind_eq_some_iff.mp hpick
          obtain ⟨e, -, rfl⟩ := Option.map_eq_some_iff.mp hi
          exact fun _ _ => nofun
        · cases hpick
      · cases hpick
  rw [Bool.eq_iff_iff, acceptsTask_iff, decide_eq_true_iff]
  exact and_iff_left (fun c p hscan => absurd hscan (hjob c p))

theorem length_addTask_markWant (s : Station) (w : ClaimWant) :
    ((s.addTask w.job).markWant w).mpl.tasks.length = s.mpl.tasks.length + 1 := by
  have hmark : ((s.addTask w.job).markWant w).mpl = (s.addTask w.job).mpl := by
    unfold Station.markWant
    split <;> rfl
  simp [hmark, addTask_mpl]

/-- Each request adds a task, so as many requests as the list has places leave none waiting that there is room for. -/
theorem serveClaims_served (fuel : Nat) (s : Station) (hfuel : 24 ≤ s.mpl.tasks.length + fuel) :
    (s.serveClaims fuel).Served := by
  induction fuel generalizing s with
  | zero => exact .inr hfuel
  | succ n ih =>
    unfold Station.serveClaims
    split
    · rename_i hnone
      exact .inl hnone
    · rename_i w hw
      rw [acceptsTask_of_claimWant hw]
      split
      · refine ih _ ?_
        have hlength := (Prod.mk.inj (decision_asking ((s.addTask w.job).markWant w))).2
        rw [length_addTask_markWant] at hlength
        omega
      · rename_i hfull
        exact .inr (by simpa using hfull)

theorem Station.Served.decision (h : s.Served) : s.decision.Served := h.of_asking (decision_asking s)

theorem Station.Served.serveAudit (byCarrier : Bool) (fuel : Nat) (h : s.Served) :
    (s.serveAudit byCarrier fuel).Served := by
  induction fuel generalizing s with
  | zero => exact h
  | succ n ih =>
    unfold Station.serveAudit
    split
    · split
      · exact h
      · rename_i c _ p _
        refine ih (Station.Served.decision (h.of_more rfl ?_))
        have hadd : ((s.addTask (.scan c p)).setRescan c none).mpl = _ := addTask_mpl (.scan c p)
        simp [hadd]
    · exact h

theorem serveDrive_mpl (s old : Station) : (s.serveDrive old).mpl = s.mpl := by
  unfold Station.serveDrive Station.beginSweep Station.beginRelease
  dsimp only
  split_ifs <;> rfl

theorem settleRound_served (s old : Station) : (s.settleRound old).Served := by
  unfold Station.settleRound Station.serveTasks
  generalize s.faceAdvance.resumeMove.acknowledge = u
  have hserved : ((((u.serveLane old).serveClaims 24).serveAudit (modeEntered old u) 24).serveDrive old).Served := by
    refine (Station.Served.serveAudit (modeEntered old u) 24
      (serveClaims_served 24 (u.serveLane old) (Nat.le_add_left ..))).of_more ?_ ?_
    · exact congrArg (fun o => o.clu.records) (serveDrive_office _ old)
    · rw [serveDrive_mpl]
  dsimp only
  split
  · exact hserved.decision
  · exact hserved

/-! #### The settling of an event -/

theorem settleRounds_served (fuel : Nat) (old : Station) (h : s.Served) : (settleRounds fuel old s).Served := by
  induction fuel generalizing old s with
  | zero => exact h
  | succ n ih =>
    rw [settleRounds]
    split
    · exact h
    · exact ih _ (settleRound_served s old)

/-- At a joined station at least one round follows the event, and each round ends with the requests served. -/
theorem settle_served (s old : Station) (h : (s.settle old).live) : (s.settle old).Served := by
  have hrounds : (settleRounds (15 + 1) old s).Served := by
    rw [settleRounds, if_neg (by simp)]
    exact settleRounds_served 15 s (settleRound_served s old)
  unfold Station.settle at h ⊢
  split
  · generalize settleRounds (15 + 1) old s = u at hrounds
    exact hrounds.of_more rfl le_rfl
  · rename_i hoff
    rw [if_neg hoff] at h
    exact absurd h hoff

/-- After every command at a joined station. -/
theorem exec_served {c : Instr} {x y : Station} {q : List Instr} (h : exec c ⟨x, q⟩ = .next ⟨y, q⟩) (hy : y.live) :
    y.Served := by
  obtain ⟨u, hu⟩ := exec_settles c ⟨x, q⟩
  rw [hu] at h
  injection h with h
  injection h with h
  subst h
  exact settle_served u x hy

end

/-! #### What a record that waits for nothing has -/

section
variable {r : LineRec}

theorem loadMark_of_loadWant {b : PutBody} (h : r.loadWant = none) (hb : r.body = .putaway b)
    (hstate : b.state = .loading) : b.loadMark = true := by
  unfold LineRec.loadWant at h
  rw [hb] at h
  simpa [hstate] using h

theorem taskMark_of_pickWant {b : PickBody} (h : r.pickWant = none) (hb : r.body = .pick b)
    (hstate : b.state = .won ∨ b.state = .picking) {e : SelEntry} (he : e ∈ b.sel) (hqty : 1 ≤ e.qty) :
    e.taskMark = true := by
  unfold LineRec.pickWant at h
  rw [hb] at h
  dsimp only at h
  rw [if_pos hstate] at h
  cases hfirst : b.sel.findIdx? (fun e => !e.taskMark && decide (0 < e.qty)) with
  | some i =>
    obtain ⟨hi, -⟩ := List.findIdx?_eq_some_iff_getElem.mp hfirst
    rw [hfirst, Option.bind_some, List.getElem?_eq_getElem hi] at h
    cases h
  | none =>
    have hpassed := List.findIdx?_eq_none_iff.mp hfirst e he
    simpa [Nat.pos_iff_ne_zero, Nat.one_le_iff_ne_zero.mp hqty] using hpassed

end

end Sys2Proof.Machine
end

section
/-! ### The decision chooses the best task (R118 to R121, R128) -/

namespace Sys2Proof.Machine

section
variable {s : Station}

/-- Readiness of each kind, said of the carriers, the lane and the records (R119). -/
theorem ready_pickStop_iff (stop : PickStop) : s.ready (.pickStop stop) = true ↔
    (∃ k, s.smap.carriers[stop.carrier]? = some k ∧ k.locks.unverified = false ∧ k.locks.audit = false
        ∧ k.locks.touched = false ∧ k.locks.quarantine = false ∧ k.locks.held = false)
      ∧ ¬ (s.fct.pendingRelease ≠ none ∨ s.fct.lane = .sweeping)
      ∧ ∃ r b, s.record? stop.serial = some r ∧ r.body = .pick b ∧ (b.state = .won ∨ b.state = .picking)
        ∧ r.qty - b.staged ≤ 8 - (s.cnu.groups.map (fun g => g.tyres.length)).sum
        ∧ ((∃ g ∈ s.cnu.groups, g.order = b.order) ∨ ∀ o ∈ s.clu.records, ∀ p, o.body = .pick p →
          (p.state = .won ∨ p.state = .picking) → p.order ≠ b.order → ¬ ∃ g ∈ s.cnu.groups, g.order = p.order) := by
  rw [pickStop_ready_iff, pickReady_iff, mayTake_iff, releasing_iff]
  simp only [not_otherOrderOpen_iff, hasGroup_iff]
  exact ⟨fun ⟨hrecord, hcarrier, hlane⟩ => ⟨hcarrier, hlane, hrecord⟩,
    fun ⟨hcarrier, hlane, hrecord⟩ => ⟨hrecord, hcarrier, hlane⟩⟩

end

/-- Settles O54: the choice, the classes, readiness, the counts, the decision, the task list, the events of R120, and the
requests served after every command. -/
theorem decisionChoosesBest : Obligations.DecisionChoosesBest := by
  refine ⟨fun x => ⟨chosenTask_none_iff, fun t ht => chosenTask_best ht⟩, fun t => rfl, fun x => ?ready, fun x id => rfl,
    fun x => ?decision, fun x job => ?list, fun x hfresh => ?events, fun c x y q hexec hlive hroom r hr => ?served⟩
  case ready =>
    refine ⟨fun stop => ready_pickStop_iff stop, fun serial a => ?_, fun order dest => ?_, fun c p => rfl⟩
    · rw [load_ready_iff, mayStore_iff]
    · rw [putback_ready_iff, releasing_iff]
      simp only [mayStore_iff]
  case decision =>
    refine ⟨fun hno => ?_, fun hmay hnone => ?_, fun t p c hmay hchosen hp hc => ?_, blocked_iff⟩
    · exact if_neg (fun hmay => hno (mayDecide_iff.mp hmay))
    · rw [decision_eq, if_pos (mayDecide_iff.mpr hmay), withChosen_of_none hnone]
      rfl
    · obtain ⟨-, -, -, -, hheld, -⟩ := id hmay
      have hdecision := fun v => decision_of_chosen (v := v) (mayDecide_iff.mpr hmay) hchosen
      have hstart := startTask_eq (s := x.raisePassed t.id) (t := t) hp hc
      refine ⟨fun hsteps => hdecision _ (hstart.trans ?_), fun hsteps hgo => hdecision _ (hstart.trans ?_),
        fun hsteps hdir hdwell => hdecision _ (hstart.trans ?_)⟩
      · refine (if_pos hsteps).trans (atTarget_of_ready ?_)
        rw [raisePassed_ready, ready_of_chosenTask hchosen]
      · refine (if_neg hsteps).trans ((if_pos (hgo.imp id dwellOver_iff.mpr)).trans ?_)
        exact giveMove_of_not_held (s := x.raisePassed t.id) hheld _ _ _ _
      · exact (if_neg hsteps).trans (if_neg (fun hgo => hgo.elim hdir (fun hover => hdwell (dwellOver_iff.mp hover))))
  case list =>
    refine ⟨acceptsTask_iff job, addTask_mpl job, fun c p k hjob hk => ?_⟩
    subst hjob
    exact addTask_scan_carrier hk
  case events =>
    obtain ⟨-, -, -, -, hserials, -⟩ := id hfresh
    refine ⟨fun serial b hb => arrival_counted_due hserials hb, arrival_withdrawn_not_due hserials, fun order d => ?_,
      destination_taken_not_due hserials⟩
    rintro ⟨t, ht, old, hjob, hold⟩
    exact destination_given_due hfresh ht hjob hold
  case served =>
    have hnone : r.loadWant = none ∧ r.pickWant = none := by
      rcases exec_served hexec hlive with hnone | hfull
      · exact claimWant_none_iff.mp hnone r hr
      · exact absurd hroom (Nat.not_lt.mpr hfull)
    exact ⟨fun b hb hstate => loadMark_of_loadWant hnone.1 hb hstate,
      fun b hb hstate e he hqty => taskMark_of_pickWant hnone.2 hb hstate he hqty⟩

end Sys2Proof.Machine
end
